-- ==== Sys2Proof/Word.lean ====
section
/-! DEFINITION. The word types of the FC-416: bytes on the wires, 16-bit counters and codes, the 32-bit
millisecond count. Everything that helps to read or build them (byte order, check codes) stands in
Machine/Bytes.lean. -/

namespace Sys2Proof

/-- One byte of a frame, bit 7 the most significant (formats chapter). -/
abbrev Byte := BitVec 8

/-- A 16-bit quantity: a control counter (R188), a sequence number (R172), a CRC-16 (R195). -/
abbrev Word := BitVec 16

/-- The millisecond counter of R11, 32 bits wide and wrapping. -/
abbrev Ms := BitVec 32

end Sys2Proof
end

