-- ==== Sys2Proof/Syntax.lean ====
section
/-! DEFINITION. The commands of the FC-416: one constructor per row of spec/opcode_table.json, with the
operands the row's rule gives it. The table gives the rows no bits, so there is nothing to encode; what a
master, the front-end or a line unit sends as bytes is carried here as those bytes (R196, R199). -/

namespace Sys2Proof

/-- The four feeders F1 to F4 (conventions; R1). -/
inductive Feeder where
  | f1 | f2 | f3 | f4
  deriving DecidableEq, Repr

/-- The three master ports (conventions; R184). -/
inductive Port where
  | station | remote | panel
  deriving DecidableEq, Repr

/-- The two positions of the key switch (R190; the KEY pin: high = LOCAL). -/
inductive KeyPosition where
  | localPos | remotePos
  deriving DecidableEq, Repr

/-- One value for each feeder. -/
structure PerFeeder (α : Type) where
  f1 : α
  f2 : α
  f3 : α
  f4 : α
  deriving DecidableEq, Repr

/-- One value for each master port. -/
structure PerPort (α : Type) where
  station : α
  remote : α
  panel : α
  deriving DecidableEq, Repr

/-- The levels of a feeder's two position contact inputs (R49): made is high. -/
structure Contacts where
  openMade : Bool
  closedMade : Bool
  deriving DecidableEq, Repr

/-- The inputs the part reads at a reset: the position contacts of every feeder (R51) and the key-switch
input (R190). -/
structure Pins where
  contacts : PerFeeder Contacts
  key : KeyPosition
  deriving DecidableEq, Repr

/-- A request frame after its request code (R196): the control counter, the payload length byte, the payload
bytes and the check code as they were received. The request code is the one of the row the command stands for. -/
structure Frame where
  counter : Word
  length : Byte
  payload : List Byte
  check : Word
  deriving DecidableEq, Repr

/-- The commands, one for each row of spec/opcode_table.json, in the table's order. A request row carries the
port and the frame that ends there; a timer row names the timer; a bus row carries the characters heard. -/
inductive Instr where
  /-- R176. `pins`: the levels the inputs read at the reset. -/
  | powerOn (pins : Pins)
  /-- R194. -/
  | restart (p : Port) (fr : Frame)
  /-- R194. `pins`: the levels the inputs read at the reinitialisation (R51, R190). -/
  | restartReinitialisation (pins : Pins)
  /-- R193. -/
  | portReset (p : Port)
  /-- R193. -/
  | portResetRelease (p : Port)
  /-- R190. `k`: the position the input has held for 20 ms. -/
  | keySwitchChange (k : KeyPosition)
  /-- R11. -/
  | millisecondTick
  /-- R1. `bytes`: all bytes of one transfer at the measurement port. -/
  | measurementFrame (bytes : List Byte)
  /-- R9. -/
  | frameWatchdogExpiry (f : Feeder)
  /-- R12. -/
  | setTime (p : Port) (fr : Frame)
  /-- R27. -/
  | writeCurve (p : Port) (fr : Frame)
  /-- R29. -/
  | readCurve (p : Port) (fr : Frame)
  /-- R31. -/
  | readProtection (p : Port) (fr : Frame)
  /-- R49. `c`: the levels of the feeder's two inputs, held for 2 ms. -/
  | positionContactChange (f : Feeder) (c : Contacts)
  /-- R50. -/
  | positionFaultTimerExpiry (f : Feeder)
  /-- R56. -/
  | pulseTimerExpiry (f : Feeder)
  /-- R57. -/
  | tripConfirmTimeExpiry (f : Feeder)
  /-- R61. -/
  | closeConfirmTimeExpiry (f : Feeder)
  /-- R64. -/
  | readBreaker (p : Port) (fr : Frame)
  /-- R72. `taken`: whether the breaker interface takes the sequencer's close request within this step; when it
  does not, the next command of this row for the feeder has it taken (R73, R78). -/
  | deadTimerExpiry (f : Feeder) (taken : Bool)
  /-- R75. -/
  | reclaimTimerExpiry (f : Feeder)
  /-- R78. -/
  | manualOpen (p : Port) (fr : Frame)
  /-- R80. -/
  | manualClose (p : Port) (fr : Frame)
  /-- R86. -/
  | readSequencer (p : Port) (fr : Frame)
  /-- R93. -/
  | placeHold (p : Port) (fr : Frame)
  /-- R95. -/
  | removeHold (p : Port) (fr : Frame)
  /-- R98. The entry is named by its owner and its tag (R89). -/
  | holdExpiry (f : Feeder) (owner : Port) (tag : Word)
  /-- R102. -/
  | patrolClear (p : Port) (fr : Frame)
  /-- R103. -/
  | writeCorridor (p : Port) (fr : Frame)
  /-- R107. -/
  | readHolds (p : Port) (fr : Frame)
  /-- R109. -/
  | setFireRequest (p : Port) (fr : Frame)
  /-- R110. -/
  | withdrawFireRequest (p : Port) (fr : Frame)
  /-- R111. `p`: the port whose request expires. -/
  | fireRequestExpiry (p : Port)
  /-- R113. -/
  | writeExposure (p : Port) (fr : Frame)
  /-- R115. -/
  | writeFireBlock (p : Port) (fr : Frame)
  /-- R117. -/
  | restoreFireTable (p : Port) (fr : Frame)
  /-- R118. -/
  | readFireTable (p : Port) (fr : Frame)
  /-- R124. -/
  | writeGroup (p : Port) (fr : Frame)
  /-- R128. -/
  | readFire (p : Port) (fr : Frame)
  /-- R128. -/
  | readGroup (p : Port) (fr : Frame)
  /-- R178. `bad`: the place, counted from 0 in the order of writing, of the first record of the write in hand
  that read back wrong twice; none when every record read back correctly (R179). -/
  | storeWriteCompletion (bad : Option Nat)
  /-- R182. -/
  | storeRepair (p : Port) (fr : Frame)
  /-- R183. -/
  | readStore (p : Port) (fr : Frame)
  /-- R131. -/
  | quietGapEnd
  /-- R131. -/
  | activeSeen
  /-- R132. -/
  | lostArbitration
  /-- R132. -/
  | preambleWon
  /-- R130. -/
  | checkSent
  /-- R133. -/
  | echoMismatch
  /-- R133. -/
  | echoFail
  /-- R134. `chars`: the characters of the complete reply, its check last; `framing`: one of them held a framing
  error (R129). -/
  | reply (chars : List Byte) (framing : Bool)
  /-- R134. -/
  | replyWindowClose
  /-- R135. `chars`: the characters of the frame heard, its check last; `framing`: one held a framing error. -/
  | report (chars : List Byte) (framing : Bool)
  /-- R134. -/
  | ackSent
  /-- R134. -/
  | heardFrameEnd
  /-- R139. -/
  | clampSeen
  /-- R139. -/
  | clampEnd
  /-- R140. -/
  | linebusReset (p : Port) (fr : Frame)
  /-- R140. -/
  | clampOutEnd
  /-- R141. -/
  | linebusStuck
  /-- R141. -/
  | linebusRestored
  /-- R144. -/
  | writeUnitList (p : Port) (fr : Frame)
  /-- R145. -/
  | unitCommand (p : Port) (fr : Frame)
  /-- R146. -/
  | clearIsolation (p : Port) (fr : Frame)
  /-- R148. -/
  | readLinebus (p : Port) (fr : Frame)
  /-- R148. -/
  | readUnits (p : Port) (fr : Frame)
  /-- R151. -/
  | writeHuntBlocks (p : Port) (fr : Frame)
  /-- R153. -/
  | startHunt (p : Port) (fr : Frame)
  /-- R164. -/
  | huntInsert (p : Port) (fr : Frame)
  /-- R166. -/
  | huntStepMode (p : Port) (fr : Frame)
  /-- R166. -/
  | huntContinue (p : Port) (fr : Frame)
  /-- R167. -/
  | huntAbort (p : Port) (fr : Frame)
  /-- R156. -/
  | pauseTimeout
  /-- R171. -/
  | readHunt (p : Port) (fr : Frame)
  /-- R171. -/
  | readHuntTrace (p : Port) (fr : Frame)
  /-- R171. -/
  | readHuntBlocks (p : Port) (fr : Frame)
  /-- R174. -/
  | readLog (p : Port) (fr : Frame)
  /-- R175. -/
  | logSeek (p : Port) (fr : Frame)
  /-- R187. `bytes`: all bytes of the transfer, the request code first. -/
  | requestFrame (p : Port) (bytes : List Byte)
  /-- R184. `count`: the bytes the master clocks before it releases the select. -/
  | responseRead (p : Port) (count : Nat)
  /-- R192. -/
  | readAttention (p : Port) (fr : Frame)
  /-- R192. -/
  | readPort (p : Port) (fr : Frame)
  /-- R191. -/
  | setAttentionMask (p : Port) (fr : Frame)
  /-- R105. `written`: how many records of the write in progress had been written and read back before the one
  that is cut. -/
  | powerLoss (written : Nat)
  /-- R130. -/
  | replyIncomplete
  deriving DecidableEq, Repr

end Sys2Proof
end

