-- ==== Sys2Proof/Decode.lean ====
section
/-! DEFINITION. decodeTableWord. spec/opcode_table.json gives no row any bits ("fields": [] throughout), so no word
spells a command. -/

namespace Sys2Proof

/-- The command a word spells by the table's bits: the table gives none, so no word spells one. -/
def decodeTableWord (_nbits _w : Nat) : Option Instr := none

end Sys2Proof
end

