-- ==== Sys2Proof/Config.lean ====
section
/-! DEFINITION. What the manual leaves to the site at the moment of reset and the model fixes: the levels the
inputs stand at in State.reset; and the one free value: when a close request of the hunt engine is taken. The manual
leaves no arithmetic value open after which the part goes on (see NOTES.md). -/

namespace Sys2Proof.Config

/-- DESIGN CHOICE (log entry 3), unsafe: the levels the position contacts and the key-switch input read in
State.reset: every breaker OPEN, the key at REMOTE. The commands POWER_ON and RESTART_REINITIALISATION carry the
levels they read, so this choice governs State.reset alone. -/
def resetPins : Pins :=
  { contacts :=
      { f1 := { openMade := true, closedMade := false }
        f2 := { openMade := true, closedMade := false }
        f3 := { openMade := true, closedMade := false }
        f4 := { openMade := true, closedMade := false } }
    key := .remotePos }

/-- Free value (log entry 63): whether the breaker interface takes a close request of the hunt engine in the event in which
the engine sends it (R158), for each of its requests by its number. One that is not taken then stands until the next
millisecond. Nothing in Lean can evaluate it. -/
opaque takesHuntClose : Nat → Bool

end Sys2Proof.Config
end

