-- ==== Sys2Proof/Machine/Types.lean ====
section
/-! DEFINITION. The data types the blocks of the part hold: what each chapter's state tables list, as plain data.
The quantities the manual computes with exactly (currents, accumulators, counts, durations) are natural numbers;
what wraps or is carried as bits (counters, sequence numbers, flag sets) is a bit vector. -/

namespace Sys2Proof.Machine

/-! ### Time (R11) -/

/-- The time of day of R11: a day number and a millisecond of the day. -/
structure TimeOfDay where
  day : Word
  ms : Nat
  deriving DecidableEq, Repr

/-- A stamp: the time of day with the TIME_SET flag as it then stood (R11). -/
structure Stamp where
  time : TimeOfDay
  timeSet : Bool
  deriving DecidableEq, Repr

/-- A running timer: the millisecond count at its start and its length, fixed at the start (R11). -/
structure Timer where
  start : Ms
  length : Nat
  deriving DecidableEq, Repr

/-- An expiry of a hold or of a fire request: its minutes, and the count at which its timer was started
(R98, R111). -/
structure Expiry where
  minutes : Nat
  start : Ms
  deriving DecidableEq, Repr

/-! ### Measurement (R1 to R10) -/

/-- A sample: the four currents handed to the protection unit (R3). -/
structure Sample where
  ia : Nat
  ib : Nat
  ic : Nat
  i0 : Nat
  deriving DecidableEq, Repr

/-- The measurement states of a frame receiver. -/
inductive Measurement where
  | none | valid | lost
  deriving DecidableEq, Repr

/-- A frame receiver: its measurement state, the last accepted sequence and the held values (present once a
frame has been accepted since the reset), and the watchdog (R4, R8). -/
structure Receiver where
  state : Measurement
  last : Byte
  held : Option Sample
  watchdog : Option Timer
  deriving DecidableEq, Repr

/-! ### Protection (R13 to R48) -/

/-- The elements that can trip, in the order of R67: the last trip cause. -/
inductive Cause where
  | oc | hs | ef | sef
  deriving DecidableEq, Repr

/-- An inverse-time element (R17 to R22) with the ratio of its last sample (R31). -/
structure Inverse where
  ratio : Nat
  pickup : Bool
  acc : Nat
  operated : Bool
  deriving DecidableEq, Repr

/-- The high-set element (R23). -/
structure HighSet where
  count : Nat
  operated : Bool
  deriving DecidableEq, Repr

/-- The residual baseline (R33): accumulator, seeded flag, BASELINE_HIGH latch and freeze mark. -/
structure Baseline where
  acc : Nat
  seeded : Bool
  high : Bool
  frozen : Bool
  deriving DecidableEq, Repr

/-- The sensitive earth-fault element (R33) with the residual E of its last sample (R47). -/
structure Sef where
  residual : Nat
  pickup : Bool
  count : Nat
  operated : Bool
  alarm : Bool
  deriving DecidableEq, Repr

/-- An open observation window (R45): its length and its three counts. -/
structure Window where
  length : Nat
  samples : Nat
  sefSamples : Nat
  pickupSamples : Nat
  deriving DecidableEq, Repr

/-- The report of a window at its close (R45): the three counts and the hunt quorum then in force. -/
structure WindowReport where
  samples : Nat
  sefSamples : Nat
  pickupSamples : Nat
  quorum : Nat
  deriving DecidableEq, Repr

/-- A feeder's protection unit. -/
structure Protection where
  last : Option Sample
  oc : Inverse
  ef : Inverse
  hs : HighSet
  base : Baseline
  sef : Sef
  window : Option Window
  deriving DecidableEq, Repr

/-! ### Settings (R16, R114, R119, R123) -/

/-- One point of a curve: a ratio in sixteenths and a rate (R16). -/
structure Point where
  ratio : Nat
  rate : Nat
  deriving DecidableEq, Repr

/-- A curve: its points in order of rising ratio (R16). -/
abbrev Curve := List Point

/-- The two setting groups of a feeder (R123). -/
inductive Letter where
  | a | b
  deriving DecidableEq, Repr

/-- A setting group: the fields of R123, in the order of its table. -/
structure SettingGroup where
  ocPickup : Nat
  ocCurve : Nat
  ocTms : Nat
  ocReset : Nat
  hsRatio : Nat
  hsFrames : Nat
  efPickup : Nat
  efCurve : Nat
  efTms : Nat
  efReset : Nat
  sefPickup : Nat
  sefDelay : Nat
  shift : Nat
  limit : Nat
  huntPickup : Nat
  huntQuorum : Nat
  shots : Nat
  dead1 : Nat
  dead2 : Nat
  dead3 : Nat
  dead4 : Nat
  reclaim : Nat
  tripConfirm : Nat
  closeConfirm : Nat
  pulseCode : Nat
  deriving DecidableEq, Repr

/-- A group of the working set with its fallback mark (R181). -/
structure WorkingGroup where
  group : SettingGroup
  fallback : Bool
  deriving DecidableEq, Repr

/-- The two groups of a feeder in the working set. -/
structure GroupPair where
  a : WorkingGroup
  b : WorkingGroup
  deriving DecidableEq, Repr

/-- The fire-danger levels (conventions). -/
inductive Level where
  | l0 | l1 | l2 | l3
  deriving DecidableEq, Repr

/-- A feeder's exposure class (R113). -/
inductive Exposure where
  | urban | exposed
  deriving DecidableEq, Repr

/-- A feeder's effective level, active group and effective settings (R119). The values named in the table are
held as computed; every other setting is the field of `group`, the active group. -/
structure Effective where
  level : Level
  letter : Letter
  group : SettingGroup
  ocTms : Nat
  efTms : Nat
  hsFrames : Nat
  sefPickup : Nat
  sefDelay : Nat
  sefTrip : Bool
  levelShots : Nat
  shotLimit : Nat
  sefReclose : Bool
  huntCloses : Bool
  patrol : Bool
  deriving DecidableEq, Repr

/-- A live fire request (R108). -/
structure FireRequest where
  level : Level
  expiry : Option Expiry
  stamp : Stamp
  damaged : Bool
  deriving DecidableEq, Repr

/-- The fire controller with the working sets of the settings it reads: the request slots, the programmable
table (36 fields, flat) with the replacement mark of R118, the groups, the curves, the exposure classes, each
feeder's effective settings, the site level and the retention-pending mark (R126). -/
structure FireController where
  requests : PerPort (Option FireRequest)
  table : List Nat
  replaced : Bool
  groups : PerFeeder GroupPair
  curves : List Curve
  exposure : PerFeeder Exposure
  site : Level
  effective : PerFeeder Effective
  pendingMark : Bool
  deriving DecidableEq, Repr

/-! ### Breaker interface (R49 to R65) -/

/-- The decoded positions of R49. -/
inductive Decoded where
  | open | closed | travel | invalid
  deriving DecidableEq, Repr

/-- The purposes of a close request (R52), in the order of the close permission table (R90). -/
inductive ClosePurpose where
  | auto | remote | hunt | localClose
  deriving DecidableEq, Repr

/-- The purposes of a trip request (R52). -/
inductive TripPurpose where
  | protection | manual | hunt
  deriving DecidableEq, Repr

/-- The set of purposes joined to a trip (R52). -/
structure TripPurposes where
  protection : Bool
  manual : Bool
  hunt : Bool
  deriving DecidableEq, Repr

/-- Who asked the breaker interface to move the breaker (R52). -/
inductive Requester where
  | master (p : Port)
  | protection
  | sequencer
  | hunt
  deriving DecidableEq, Repr

/-- The close that a trip has cut (R52, R54). -/
structure CutClose where
  purpose : ClosePurpose
  requester : Requester
  deriving DecidableEq, Repr

/-- The phases of a trip (R52). -/
inductive TripPhase where
  | pulse | confirmWait | failPulse
  deriving DecidableEq, Repr

/-- The phases of a close (R52). -/
inductive CloseOpPhase where
  | pulse | confirmWait
  deriving DecidableEq, Repr

/-- A trip operation in the slot (R52). `closedFirst`: the breaker closed before it opened (R54). Pulse and
confirm time both run from `started`. -/
structure TripOp where
  purposes : TripPurposes
  requesters : List Requester
  cause : Option Cause
  phase : TripPhase
  pulseLength : Nat
  confirmTime : Nat
  started : Ms
  cut : Option CutClose
  closedFirst : Bool
  deriving DecidableEq, Repr

/-- A close operation in the slot (R52). -/
structure CloseOp where
  purpose : ClosePurpose
  requester : Requester
  phase : CloseOpPhase
  pulseLength : Nat
  confirmTime : Nat
  started : Ms
  deriving DecidableEq, Repr

/-- The operation slot (R52). -/
inductive Slot where
  | empty
  | trip (op : TripOp)
  | close (op : CloseOp)
  deriving DecidableEq, Repr

/-- The kind of an operation (R52). -/
inductive OpKind where
  | trip | close
  deriving DecidableEq, Repr

/-- The failed trip that holds the breaker-fail output asserted, with what a LATE_OPEN record carries (R58). -/
structure FailedTrip where
  purposes : TripPurposes
  requesters : List Requester
  cause : Option Cause
  started : Ms
  deriving DecidableEq, Repr

/-- The outcomes of an operation (R63). -/
inductive OpOutcome where
  | tripConfirmed | breakerFail | closeConfirmed | closeFail | cut
  deriving DecidableEq, Repr

/-- An outcome with its time of day (R64). -/
structure TimedOutcome where
  outcome : OpOutcome
  time : TimeOfDay
  deriving DecidableEq, Repr

/-- A feeder's breaker interface. The breaker-fail output is asserted exactly while `failed` is present;
`askPending` is an AUTO close request of the sequencer that the interface has not yet taken (R72, R73), and `huntAsk` one of
the hunt engine (R158; log entry 63). -/
structure Breaker where
  contacts : Contacts
  stableClosed : Bool
  alarm : Bool
  faultTimer : Option Timer
  slot : Slot
  failed : Option FailedTrip
  lastTrip : Option TimedOutcome
  lastClose : Option TimedOutcome
  askPending : Bool
  huntAsk : Bool
  deriving DecidableEq, Repr

/-! ### Reclose sequencer (R66 to R87) -/

/-- The states of R66. -/
inductive SeqState where
  | inService | tripping | dead | reclosing | reclaim | lockout | open | hunt | failed
  deriving DecidableEq, Repr

/-- The close phase, present in RECLOSING only (R67). -/
inductive ClosePhase where
  | asked | granted
  deriving DecidableEq, Repr

/-- The lockout reasons, in the order of R77's table. -/
inductive LockoutReason where
  | switchOnToFault | patrol | hold | shots | cause | shotsAtExpiry | causeAtExpiry | holdInDead
  | closeRefused | closeFail | breakerFail
  deriving DecidableEq, Repr

/-- A feeder's reclose sequencer (R67). `timer` is the dead timer in DEAD and the reclaim timer in RECLAIM;
`pendingOpen` lists the ports whose MANUAL-OPEN is held back (R78), the first held first. -/
structure Sequencer where
  state : SeqState
  shots : Nat
  mark : Bool
  cause : Option Cause
  phase : Option ClosePhase
  pendingOpen : List Port
  openTaken : Bool
  manualClose : Option Port
  reason : Option LockoutReason
  timer : Option Timer
  deriving DecidableEq, Repr

/-! ### Reclose holds (R88 to R107) -/

/-- The owners of a hold (R88). -/
inductive Owner where
  | master (p : Port)
  | fire
  | patrol
  | hunt
  deriving DecidableEq, Repr

/-- The kinds of a hold (R88). -/
inductive HoldKind where
  | reclose | remote | all
  deriving DecidableEq, Repr

/-- An entry of a hold list (R88). An automatic entry carries tag 0 and no expiry. -/
structure Hold where
  owner : Owner
  kind : HoldKind
  tag : Nat
  reason : Nat
  expiry : Option Expiry
  stamp : Stamp
  deriving DecidableEq, Repr

/-- The causes of a removal, in the order of R92. -/
inductive RemovalCause where
  | request | override | expired | fireLevel | huntEnd | patrolClear
  deriving DecidableEq, Repr

/-- A feeder's hold table: the list in order of placement, the patrol corridor (the feeders named in it, R101)
and the retention-pending mark (R104). -/
structure HoldTable where
  list : List Hold
  corridor : PerFeeder Bool
  pendingMark : Bool
  deriving DecidableEq, Repr

/-! ### Line bus (R129 to R148) -/

/-- The two levels of the line bus (R129). -/
inductive WireLevel where
  | active | passive
  deriving DecidableEq, Repr

/-- What the part's driver does in a bus state (R131): released, ACTIVE throughout, or one level for each bit time in
turn. -/
inductive Driver where
  | released
  | clamping
  | levels (l : List WireLevel)
  deriving DecidableEq, Repr

/-- The bus states of R131. -/
inductive BusState where
  | gap | idle | preamble | sending | replyWait | listening | acking | clampOut | clampIn | stuck
  deriving DecidableEq, Repr

/-- The source of a transmit queue entry (R137). -/
inductive EntrySource where
  | hunt
  | master (p : Port)
  deriving DecidableEq, Repr

/-- The kinds of a command transaction (R130). -/
inductive UnitCommandKind where
  | open | close | query | clearIndication
  deriving DecidableEq, Repr

/-- Where an entry of the queue stands: waiting, in its preamble, or the transaction in flight (R132, R142). -/
inductive EntryPhase where
  | waiting | preamble | inFlight
  deriving DecidableEq, Repr

/-- An entry of the transmit queue (R137). Its data and its priority follow from its source and kind. -/
structure BusEntry where
  source : EntrySource
  address : Nat
  kind : UnitCommandKind
  attempts : Nat
  queuedAt : Ms
  clampWait : Bool
  phase : EntryPhase
  deriving DecidableEq, Repr

/-- The completion codes of R138. -/
inductive CompletionCode where
  | done | refusedByUnit | noReply | checkFail | echoFail | aborted | busStuck
  deriving DecidableEq, Repr

/-- The switch states of a unit record (R143). -/
inductive SwitchState where
  | unknown | open | closed
  deriving DecidableEq, Repr

/-- The health derived from a unit record (R143). -/
inductive Health where
  | ok | localLock | silent
  deriving DecidableEq, Repr

/-- A place in a feeder's unit list: the feeder and the order index 1..8 (R144). -/
structure UnitPlace where
  feeder : Feeder
  index : Nat
  deriving DecidableEq, Repr

/-- The last command of a unit record, with its time of day (R143). -/
structure LastCommand where
  source : EntrySource
  kind : UnitCommandKind
  code : CompletionCode
  time : TimeOfDay
  deriving DecidableEq, Repr

/-- A record of the line unit table (R143). The unit is configured exactly while `place` is present. -/
structure UnitRecord where
  place : Option UnitPlace
  switch : SwitchState
  faultPassed : Bool
  localLock : Bool
  batteryLow : Bool
  silent : Bool
  isolated : Bool
  lastContact : Option Stamp
  lastCommand : Option LastCommand
  deriving DecidableEq, Repr

/-- The line bus controller. `since` is the millisecond count at which the present bus state was entered; `mismatch` the
count of an echo mismatch being watched (R133); `ackTimer` runs in LISTENING from the check of a REPORT taken to the opening
of its reply window (R134); `runStart` the start of the ACTIVE run of a clamp seen (R141); `lastActive` the moment in STUCK
at which the bus was last said to read ACTIVE, from which R141's 500 ms count; `sent` the characters of the part's frame in
SENDING or of its ACK; `resetPorts` the ports waiting for the end of the part's clamp (R140); `units` the 31 records; `lists`
the unit lists; `pendingMark` the isolation retention-pending mark (R146). -/
structure Bus where
  state : BusState
  since : Ms
  mismatch : Option Ms
  ackTimer : Option Timer
  runStart : Ms
  lastActive : Ms
  queue : List BusEntry
  sent : List Byte
  resetPorts : List Port
  units : List UnitRecord
  lists : PerFeeder (List Nat)
  pendingMark : Bool
  deriving DecidableEq, Repr

/-! ### Earth-fault hunting (R149 to R171) -/

/-- The actions of a hunt block, in the order of R149. -/
inductive HuntAction where
  | openUnit | closeUnit | testCloseUnit | openBreaker | closeBreaker | testCloseBreaker | wait | mark
  | ret | finish
  deriving DecidableEq, Repr

/-- A set of test conditions (R149). -/
structure Conditions where
  sefSeen : Bool
  ocSeen : Bool
  trip : Bool
  fpi : Bool
  unitFail : Bool
  deriving DecidableEq, Repr

/-- A hunt block (R149). `senseNone`: the sense is NONE; `repeats` is the repeat field. -/
structure HuntBlock where
  action : HuntAction
  unit : Nat
  window : Nat
  repeats : Nat
  tests : Conditions
  senseNone : Bool
  nextTrue : Nat
  nextFalse : Nat
  notify : Bool
  deriving DecidableEq, Repr

/-- The engine states of R152. -/
inductive HuntState where
  | idle | running | paused | stopping | done
  deriving DecidableEq, Repr

/-- The phases of the current block (R152). -/
inductive HuntPhase where
  | acting | observing | securing
  deriving DecidableEq, Repr

/-- The pause reasons of R152. -/
inductive PauseReason where
  | fire | hold | step
  deriving DecidableEq, Repr

/-- What the action in flight waits for: the completion of its line bus entry, the breaker interface's answer
to its trip, the taking of its close request, the outcome of its close, or, after an answer CUT, the report of the trip that
cut the close (R158). -/
inductive Awaiting where
  | nothing | unit | trip | ask | close | tripReport
  deriving DecidableEq, Repr

/-- The kind of a saved block in the return slot (R152). -/
inductive ReturnKind where
  | detour | insertion
  deriving DecidableEq, Repr

/-- The return slot's content (R152). -/
structure ReturnSlot where
  block : Nat
  kind : ReturnKind
  deriving DecidableEq, Repr

/-- The codes of a failed unit action: a completion code, an isolated unit (R157), or an offer the line bus
controller answered BUSY (R142). -/
inductive FailCode where
  | completion (c : CompletionCode)
  | isolated
  | busy
  deriving DecidableEq, Repr

/-- The outcome of a block in its trace record (R162). -/
inductive BlockOutcome where
  | done
  | unitFail (code : FailCode)
  | cut
  | detour
  deriving DecidableEq, Repr

/-- A trace record (R162). `insertionDropped`: a pending insertion was dropped by the detour (R163). -/
structure TraceRecord where
  block : Nat
  action : HuntAction
  outcome : BlockOutcome
  test : Bool
  windows : Nat
  sefSamples : Nat
  securingTrip : Bool
  insertionDropped : Bool
  time : TimeOfDay
  deriving DecidableEq, Repr

/-- The reasons a hunt ends with, in the order of R170's table. -/
inductive EndReason where
  | finished | stepLimit | aborted | tripped | unitFailed | breakerFailed | pauseTimeout | measurement
  | interfered
  deriving DecidableEq, Repr

/-- What interfered with a hunt (R170): a unit by its order index, or the breaker. -/
inductive Interference where
  | unit (index : Nat)
  | breaker
  deriving DecidableEq, Repr

/-- The detail of an end reason (R170). -/
inductive EndDetail where
  | none
  | unitCode (code : FailCode)
  | breakerAnswer (o : OpOutcome)
  | port (p : Port)
  | interference (i : Interference)
  | block (b : Nat)
  deriving DecidableEq, Repr

/-- An entry of the faulty-section list (R161). -/
structure FaultySection where
  address : Nat
  index : Nat
  deriving DecidableEq, Repr

/-- The events a hunt in STOPPING records in its result without changing the reason (R167). -/
structure StoppingNotes where
  trip : Bool
  unexpectedMove : Bool
  unitReport : Bool
  measurementLoss : Bool
  breakerFail : Bool
  deriving DecidableEq, Repr

/-- The result record of a hunt (R170). -/
structure HuntResult where
  feeder : Feeder
  reason : EndReason
  steps : Nat
  lastBlock : Nat
  faulty : List FaultySection
  detail : EndDetail
  notes : StoppingNotes
  started : TimeOfDay
  ended : TimeOfDay
  deriving DecidableEq, Repr

/-- What the engine holds of the current block while it runs: the outcome of its action, the windows observed,
the SEF samples of the last of them, the TRIP condition of the open window, a TRIP held for the first window,
and a trip noted in SECURING (R157 to R163). -/
structure BlockRun where
  outcome : BlockOutcome
  windows : Nat
  sefSamples : Nat
  windowTrip : Bool
  heldTrip : Bool
  securingTrip : Bool
  deriving DecidableEq, Repr

/-- The hunt engine (R152). `current` is the block being executed or, while PAUSED, about to begin, and 0 for none;
`pauseTimer` runs while PAUSED; `abortPort` is the port of the abort in STOPPING; `faulty`, `lastBlock`, `notes`
and `started` are what the result record of the hunt in progress will carry. `memory` is the working copy of the
255 hunt blocks. `asks` numbers the close requests sent, for the free value of log entry 63: the model's own field. -/
structure Hunt where
  state : HuntState
  feeder : Option Feeder
  current : Nat
  phase : HuntPhase
  awaiting : Awaiting
  run : BlockRun
  pauseReason : PauseReason
  pauseTimer : Option Timer
  detourFirst : Nat
  returnSlot : Option ReturnSlot
  insertion : Option Nat
  pendingDetour : Bool
  stepMode : Bool
  steps : Nat
  lockSet : List Nat
  trace : List TraceRecord
  result : Option HuntResult
  outstanding : Bool
  faulty : List FaultySection
  lastBlock : Nat
  notes : StoppingNotes
  started : TimeOfDay
  abortPort : Option Port
  memory : List HuntBlock
  asks : Nat
  deriving DecidableEq, Repr

/-! ### Event log (R172 to R176) -/

/-- The blocks that append records, in the order of R198's source codes. -/
inductive Block where
  | frameReceiver | timeBase | protectionUnit | breakerInterface | recloseSequencer | holdTable
  | fireController | settingStore | lineBusController | huntEngine | eventLog
  deriving DecidableEq, Repr

/-- The source of a record (R172). -/
inductive RecordSource where
  | port (p : Port)
  | block (b : Block)
  deriving DecidableEq, Repr

/-- The record classes of the setting store, in the order of R177. -/
inductive RecordClass where
  | group | curve | fireTable | exposure | corridor | unitList | isolation | huntBlock | holds | fireRequests
  deriving DecidableEq, Repr

/-- A record of the setting store, by class and index (R177). -/
structure RecordId where
  cls : RecordClass
  index : Nat
  deriving DecidableEq, Repr

/-- The refusals of a close request (R59). -/
inductive CloseRefusal where
  | busy | notOpen | barred
  deriving DecidableEq, Repr

/-- The causes named in a LEVEL_CHANGED record (R120). -/
inductive LevelCause where
  | request | expiry | exposure
  deriving DecidableEq, Repr

/-- What a SETTINGS_WRITTEN record names (R28, R103, R113, R125, R144, R151). -/
inductive SettingName where
  | curve (n : Nat)
  | group (f : Feeder) (l : Letter)
  | exposure (f : Feeder)
  | corridor (f : Feeder)
  | unitList (f : Feeder)
  | huntMemory (first count : Nat)
  deriving DecidableEq, Repr

/-- The details of an event record, one constructor per kind, in the order of R198 (a kind with two forms has
two constructors). Each carries the fields its appending rule names. -/
inductive Details where
  | powerOn
  | restart
  /-- R56; `late`: marked LATE_OPEN (R58). -/
  | trip (late : Bool) (purposes : TripPurposes) (cause : Option Cause) (requesters : List Requester)
      (cut : Option CutClose) (closedFirst : Bool) (elapsed : Nat)
  /-- R60. -/
  | close (purpose : ClosePurpose) (requester : Requester) (elapsed : Nat)
  /-- R77. -/
  | lockout (reason : LockoutReason) (shots : Nat) (cause : Option Cause) (level : Level) (limit : Nat)
      (refusal : Option CloseRefusal)
  /-- R57. -/
  | breakerFail (purposes : TripPurposes) (cause : Option Cause) (requesters : List Requester)
      (cut : Option CutClose) (position : Decoded) (elapsed : Nat)
  /-- R61. -/
  | closeFail (purpose : ClosePurpose) (requester : Requester) (position : Decoded)
  /-- R62. -/
  | unexpectedMove (toOpen : Bool) (before after : Decoded)
  /-- R50, R51. -/
  | positionFault (cleared : Bool) (stableClosed : Bool) (op : Option OpKind)
  /-- R92; `asker`: the feeder whose trip asked for a PATROL entry (R101). -/
  | holdPlaced (entry : Hold) (refresh : Bool) (port : Option Port) (count : Nat) (asker : Option Feeder)
  /-- R92. -/
  | holdRemoved (entry : Hold) (cause : RemovalCause) (port : Option Port)
  /-- R122. -/
  | levelChanged (old new site : Level) (exposure : Exposure) (before after : Letter)
      (cause : Option LevelCause) (port : Option Port)
  /-- R41. -/
  | sefAlarm (residual baseline delay : Nat)
  /-- R37. -/
  | baselineHigh (value limit : Nat)
  /-- R9. -/
  | measurementLost (last : Byte)
  /-- R7. -/
  | measurementRestored
  /-- R155. -/
  | huntStart (first detour : Nat) (stepMode : Bool) (locked : Nat) (port : Port)
  /-- R162. -/
  | huntStep (trace : TraceRecord)
  /-- R156: HUNT_STEP marked PAUSED. -/
  | huntPaused (block : Nat) (reason : PauseReason)
  /-- R170. -/
  | huntEnd (result : HuntResult)
  /-- R138. -/
  | unitSilent (address : Nat) (place : Option UnitPlace) (source : EntrySource) (kind : UnitCommandKind)
  /-- R141. -/
  | linebusStuck
  /-- R141. -/
  | linebusRestored (elapsed : Nat)
  /-- R28, R103, R113, R125, R144, R151. -/
  | settingsWritten (what : SettingName) (port : Port)
  /-- R116. -/
  | fireTableWritten (start : Nat) (old new : List Nat) (port : Port)
  /-- R117: FIRE_TABLE_WRITTEN marked RESTORE. -/
  | fireTableRestored (port : Port)
  /-- R12. -/
  | timeSet (time : TimeOfDay) (wasSet : Bool)
  /-- R180. -/
  | storeFaultLoad (count : Nat) (first : List RecordId)
  /-- R179. -/
  | storeFaultWrite (record : RecordId)
  /-- R182: STORE_FAULT marked CLEARED. -/
  | storeFaultCleared
  deriving DecidableEq, Repr

/-- A record of the event log (R172). Its kind follows from its details. -/
structure LogRecord where
  seq : Word
  stamp : Stamp
  feeder : Option Feeder
  source : RecordSource
  details : Details
  deriving DecidableEq, Repr

/-- The event log: the records held, oldest first, and the next sequence number. -/
structure Log where
  records : List LogRecord
  next : Word
  deriving DecidableEq, Repr

/-! ### Setting store (R177 to R183) -/

/-- A record of the nonvolatile image: its class, its index, the length of its contents in bytes, the contents and the
check code over the rest (R177). The contents are held as the value that their bytes carry. -/
structure Stored (α : Type) where
  cls : RecordClass
  index : Nat
  length : Nat
  value : α
  check : Word
  deriving DecidableEq, Repr

/-- The nonvolatile image: the 286 records of R177. -/
structure Image where
  groupsA : PerFeeder (Stored SettingGroup)
  groupsB : PerFeeder (Stored SettingGroup)
  curves : List (Stored Curve)
  table : Stored (List Nat)
  exposure : PerFeeder (Stored Exposure)
  corridor : PerFeeder (Stored (PerFeeder Bool))
  unitLists : PerFeeder (Stored (List Nat))
  isolation : Stored (List Bool)
  hunt : List (Stored HuntBlock)
  holds : PerFeeder (Stored (List Hold))
  fireRequests : Stored (PerPort (Option FireRequest))
  deriving DecidableEq, Repr

/-- The port writes of R178 with the contents carried in the request. -/
inductive PortWrite where
  | curve (n : Nat) (points : Curve)
  | group (f : Feeder) (l : Letter) (g : SettingGroup)
  | fireBlock (start : Nat) (values : List Nat)
  | restoreTable
  | exposure (f : Feeder) (e : Exposure)
  | corridor (f : Feeder) (c : PerFeeder Bool)
  | unitList (f : Feeder) (l : List Nat)
  | huntBlocks (first : Nat) (blocks : List HuntBlock)
  | repair
  deriving DecidableEq, Repr

/-- The owners of an internal write (R178). -/
inductive RetentionOwner where
  | holds (f : Feeder)
  | fireRequests
  | isolation
  deriving DecidableEq, Repr

/-- The contents an internal write takes when it begins (R178). -/
inductive Retained where
  | holds (f : Feeder) (l : List Hold)
  | fireRequests (r : PerPort (Option FireRequest))
  | isolation (flags : List Bool)
  deriving DecidableEq, Repr

/-- The job of a queue entry (R178). An internal write holds its contents once it has begun. -/
inductive StoreJob where
  | port (p : Port) (w : PortWrite)
  | internal (o : RetentionOwner) (taken : Option Retained)
  deriving DecidableEq, Repr

/-- An entry of the store's write queue (R178). -/
structure StoreEntry where
  job : StoreJob
  begun : Bool
  deriving DecidableEq, Repr

/-- The causes of the fault state (R183). -/
inductive StoreFault where
  | load | write
  deriving DecidableEq, Repr

/-- The setting store's volatile state: fault state with its cause, damaged list, write queue. -/
structure Store where
  fault : Option StoreFault
  damaged : List RecordId
  queue : List StoreEntry
  deriving DecidableEq, Repr

/-! ### Master ports (R184 to R194) -/

/-- The statuses of R196. -/
inductive Status where
  | notReady | accepted | placed | refreshed | removed | withdrawn | cleared | queued | tripConfirmed
  | closeConfirmed | alreadyOpen | closeFail | cut | notOpen | restarted | acceptedVolatile | portBusy
  | frame | unknown | authority | sequence | argument
  | busy | inUse | full | notFound | huntActive | isolated | state | barred
  | storeFault | busStuck | automatic | range | structure | unitRange | breakerFail
  deriving DecidableEq, Repr

/-- A response frame (R196), without its check code. -/
structure Response where
  status : Status
  code : Byte
  counter : Word
  data : List Byte
  deriving DecidableEq, Repr

/-- The states of a port's request slot (R184). IN_FLIGHT holds the code of the request. -/
inductive PortSlot where
  | idle
  | receiving
  | inFlight (code : Byte)
  | ready (r : Response)
  deriving DecidableEq, Repr

/-- The attention flags of R191, in its order. -/
inductive AttentionFlag where
  | trip | lockout | holds | level | hunt | linebus | measurement | store
  deriving DecidableEq, Repr

/-- A master port at the dispatcher: slot, busy note, orphan mark, control counter, attention flags and mask,
the reset line, the log's read pointer, overrun mark and lost count for the port (R173), and the bytes it
clocked out in its last transfer. -/
structure PortState where
  slot : PortSlot
  busyNote : Option Byte
  orphan : Bool
  counter : Word
  flags : BitVec 8
  mask : BitVec 8
  inReset : Bool
  pointer : Word
  overrun : Bool
  lost : Nat
  clockedOut : List Byte
  deriving DecidableEq, Repr

/-- A RESTART that waits (R194): the port of the first one, and, once the pulse wait has ended, how many of the
store entries fixed at that moment are still to be completed. -/
structure RestartWait where
  port : Port
  fixed : Option Nat
  deriving DecidableEq, Repr

end Sys2Proof.Machine
end

