-- ==== Sys2Proof/Machine/Bytes.lean ====
section
/-! DEFINITION. Byte order and check codes: the most significant byte first (conventions), the CRC-16 of the ports
and the CRC-8 of the line bus (R195). -/

namespace Sys2Proof.Machine

/-- A number in one byte. -/
def u8 (n : Nat) : List Byte := [BitVec.ofNat 8 n]

/-- A number in two bytes, most significant first. -/
def u16 (n : Nat) : List Byte := [BitVec.ofNat 8 (n / 256), BitVec.ofNat 8 n]

/-- A number in four bytes, most significant first. -/
def u32 (n : Nat) : List Byte :=
  [BitVec.ofNat 8 (n / 16777216), BitVec.ofNat 8 (n / 65536), BitVec.ofNat 8 (n / 256), BitVec.ofNat 8 n]

/-- A yes or no in one byte. -/
def bit (b : Bool) : List Byte := u8 (if b then 1 else 0)

/-- The number two bytes carry, most significant first. -/
def be16 (hi lo : Byte) : Nat := hi.toNat * 256 + lo.toNat

/-- The number four bytes carry, most significant first. -/
def be32 (a b c d : Byte) : Nat := be16 a b * 65536 + be16 c d

/-- One bit of the CRC-16 register of R195: shift left, and add 0x1021 when a 1 falls out. -/
def crc16Bit (r : Word) : Word := if r.msb then (r <<< 1) ^^^ 0x1021#16 else r <<< 1

/-- One byte of the CRC-16, most significant bit first. -/
def crc16Byte (r : Word) (b : Byte) : Word :=
  crc16Bit (crc16Bit (crc16Bit (crc16Bit (crc16Bit (crc16Bit (crc16Bit (crc16Bit
    (r ^^^ (b.setWidth 16 <<< 8)))))))))

/-- The CRC-16 of R195: polynomial 0x1021, initial value 0xFFFF, no reflection, no final exclusive-or. -/
def crc16 (bytes : List Byte) : Word := bytes.foldl crc16Byte 0xFFFF#16

/-- One bit of the CRC-8 register of R195. -/
def crc8Bit (r : Byte) : Byte := if r.msb then (r <<< 1) ^^^ 0x1D#8 else r <<< 1

/-- One byte of the CRC-8, most significant bit first. -/
def crc8Byte (r : Byte) (b : Byte) : Byte :=
  crc8Bit (crc8Bit (crc8Bit (crc8Bit (crc8Bit (crc8Bit (crc8Bit (crc8Bit (r ^^^ b))))))))

/-- The CRC-8 of R195: polynomial 0x1D, initial value 0xFF, no reflection, no final exclusive-or. -/
def crc8 (bytes : List Byte) : Byte := bytes.foldl crc8Byte 0xFF#8

/-- The bytes of a request frame before its check code (R196). -/
def frameCovered (code : Byte) (fr : Frame) : List Byte :=
  code :: (u16 fr.counter.toNat ++ fr.length :: fr.payload)

/-- The number of bytes of the transfer that carries a request frame (R196). -/
def frameSize (fr : Frame) : Nat := fr.payload.length + 6

/-- Whether the check code of a request frame matches (R195, R196). -/
def frameCheckMatches (code : Byte) (fr : Frame) : Bool := crc16 (frameCovered code fr) == fr.check

/-- Whether a request frame passes rank FRAME: check code, length field, and at most 200 payload bytes (R187). -/
def framePasses (code : Byte) (fr : Frame) : Bool :=
  frameCheckMatches code fr && fr.length.toNat == fr.payload.length && decide (fr.payload.length ≤ 200)

/-- The request frame that a master builds for a counter value and a payload (R196). -/
def frameBuild (code : Byte) (counter : Word) (payload : List Byte) : Frame :=
  let fr : Frame := { counter := counter, length := BitVec.ofNat 8 payload.length, payload := payload, check := 0 }
  { fr with check := crc16 (frameCovered code fr) }

/-- The request frame after its code that a transfer's bytes spell: counter, length, payload, check code in the
last two bytes. None for a transfer too short to hold them. -/
def frameOfBytes (bytes : List Byte) : Option Frame :=
  match bytes with
  | c1 :: c0 :: len :: rest =>
    if rest.length < 2 then none
    else
      let tail := rest.drop (rest.length - 2)
      some
        { counter := BitVec.ofNat 16 (be16 c1 c0)
          length := len
          payload := rest.take (rest.length - 2)
          check := BitVec.ofNat 16 (be16 (tail.getD 0 0) (tail.getD 1 0)) }
  | _ => none

end Sys2Proof.Machine
end

