-- ==== Sys2Proof/Machine/Records.lean ====
section
/-! DEFINITION. The records of the nonvolatile image (R177): how the contents of each class are carried in bytes, the
check code over a record (R195), and what a write leaves. The codes and encodings that responses and event records
share with them (R197, R198) stand here too. -/

namespace Sys2Proof.Machine

/-! ### Numbers and codes -/

/-- A feeder's number 1..4 (conventions). -/
def feederNumber : Feeder → Nat
  | .f1 => 1
  | .f2 => 2
  | .f3 => 3
  | .f4 => 4

/-- A port's number 1..3, in the order of R198's source codes. -/
def portNumber : Port → Nat
  | .station => 1
  | .remote => 2
  | .panel => 3

/-- The classes in the order of R177. -/
def RecordClass.code : RecordClass → Nat
  | .group => 1
  | .curve => 2
  | .fireTable => 3
  | .exposure => 4
  | .corridor => 5
  | .unitList => 6
  | .isolation => 7
  | .huntBlock => 8
  | .holds => 9
  | .fireRequests => 10

/-- A level is carried as its number (R197). -/
def Level.number : Level → Nat
  | .l0 => 0
  | .l1 => 1
  | .l2 => 2
  | .l3 => 3

/-- URBAN 1, EXPOSED 2 (R197). -/
def Exposure.code : Exposure → Nat
  | .urban => 1
  | .exposed => 2

/-- The owners of a hold (R197). -/
def Owner.code : Owner → Nat
  | .master p => portNumber p
  | .fire => 4
  | .patrol => 5
  | .hunt => 6

/-- The severity of a kind, which is also its code (R88, R197). -/
def HoldKind.severity : HoldKind → Nat
  | .reclose => 1
  | .remote => 2
  | .all => 3

/-- The actions of R198. -/
def HuntAction.code : HuntAction → Nat
  | .openUnit => 1
  | .closeUnit => 2
  | .testCloseUnit => 3
  | .openBreaker => 4
  | .closeBreaker => 5
  | .testCloseBreaker => 6
  | .wait => 7
  | .mark => 8
  | .ret => 9
  | .finish => 10

/-- A test set: bits 0 to 4 (R198). -/
def Conditions.code (c : Conditions) : Nat :=
  (if c.sefSeen then 1 else 0) + (if c.ocSeen then 2 else 0) + (if c.trip then 4 else 0) +
    (if c.fpi then 8 else 0) + (if c.unitFail then 16 else 0)

/-- A set of feeders: bits 0 to 3 for F1 to F4 (R197). -/
def feederSetCode (c : PerFeeder Bool) : Nat :=
  (if c.f1 then 1 else 0) + (if c.f2 then 2 else 0) + (if c.f3 then 4 else 0) + (if c.f4 then 8 else 0)

/-! ### Compound values -/

/-- A time of day: six bytes, day then millisecond (R198). -/
def timeBytes (t : TimeOfDay) : List Byte := u16 t.day.toNat ++ u32 t.ms

/-- A stamp: the time of day, then the TIME_SET flag. -/
def stampBytes (s : Stamp) : List Byte := timeBytes s.time ++ bit s.timeSet

/-- A detail that a record may not have is omitted when absent (R198). -/
def optBytes {α : Type} (o : Option α) (g : α → List Byte) : List Byte :=
  match o with
  | some a => g a
  | none => []

/-- A list: a count byte followed by its items (R198). -/
def listBytes {α : Type} (l : List α) (g : α → List Byte) : List Byte :=
  u8 l.length ++ l.flatMap g

/-- A setting group, 56 bytes (R197). -/
def groupBytes (g : SettingGroup) : List Byte :=
  u16 g.ocPickup ++ u8 g.ocCurve ++ u8 g.ocTms ++ u32 g.ocReset ++ u16 g.hsRatio ++ u8 g.hsFrames ++
    u16 g.efPickup ++ u8 g.efCurve ++ u8 g.efTms ++ u32 g.efReset ++ u16 g.sefPickup ++ u16 g.sefDelay ++
    u8 g.shift ++ u16 g.limit ++ u16 g.huntPickup ++ u16 g.huntQuorum ++ u8 g.shots ++ u32 g.dead1 ++
    u32 g.dead2 ++ u32 g.dead3 ++ u32 g.dead4 ++ u32 g.reclaim ++ u16 g.tripConfirm ++ u16 g.closeConfirm ++
    u8 g.pulseCode

/-- A hunt block, 8 bytes (R198). -/
def huntBlockBytes (b : HuntBlock) : List Byte :=
  u8 b.action.code ++ u8 b.unit ++ u16 b.window ++
    u8 (b.repeats + (if b.senseNone then 16 else 0) + (if b.notify then 128 else 0)) ++
    u8 b.tests.code ++ u8 b.nextTrue ++ u8 b.nextFalse

/-- The points of a curve. -/
def curveBytes (c : Curve) : List Byte := listBytes c (fun q => u16 q.ratio ++ u32 q.rate)

/-! ### The formats of the ten classes (R177; log entry 39) -/

/-- How the records of a class are carried: the class, and the bytes of the contents. -/
structure RecordFormat (α : Type) where
  cls : RecordClass
  bytes : α → List Byte

/-- A setting group: the group record of R197. -/
def groupFormat : RecordFormat SettingGroup := { cls := .group, bytes := groupBytes }

/-- A curve: its points behind a count (R16). -/
def curveFormat : RecordFormat Curve := { cls := .curve, bytes := curveBytes }

/-- The 36 fields of the programmable table (R114). -/
def tableFormat : RecordFormat (List Nat) := { cls := .fireTable, bytes := fun t => t.flatMap u8 }

/-- An exposure class (R113). -/
def exposureFormat : RecordFormat Exposure := { cls := .exposure, bytes := fun e => u8 e.code }

/-- A patrol corridor: a set of feeders (R101). -/
def corridorFormat : RecordFormat (PerFeeder Bool) := { cls := .corridor, bytes := fun c => u8 (feederSetCode c) }

/-- A unit list: its addresses behind a count (R144). -/
def listFormat : RecordFormat (List Nat) := { cls := .unitList, bytes := fun l => listBytes l u8 }

/-- The isolated flags of addresses 1..31 (R146). -/
def isolationFormat : RecordFormat (List Bool) := { cls := .isolation, bytes := fun l => l.flatMap bit }

/-- A hunt block (R198). -/
def huntFormat : RecordFormat HuntBlock := { cls := .huntBlock, bytes := huntBlockBytes }

/-- Retained holds behind a count, each with owner, kind, tag, reason code and placed-at stamp (R104). -/
def holdsFormat : RecordFormat (List Hold) :=
  { cls := .holds
    bytes := fun l => listBytes l (fun h =>
      u8 h.owner.code ++ u8 h.kind.severity ++ u16 h.tag ++ u8 h.reason ++ stampBytes h.stamp) }

/-- One slot of the retained fire requests: level and set-at stamp, or empty (R126). -/
def retainedSlotBytes (r : Option FireRequest) : List Byte :=
  bit r.isSome ++ optBytes r (fun r => u8 r.level.number ++ stampBytes r.stamp)

/-- The three slots of the fire requests (R126). -/
def requestsFormat : RecordFormat (PerPort (Option FireRequest)) :=
  { cls := .fireRequests
    bytes := fun r => retainedSlotBytes r.station ++ retainedSlotBytes r.remote ++ retainedSlotBytes r.panel }

/-! ### Records (R177, R195) -/

/-- The check code of a record's class, index, length and contents. -/
def Stored.checkCode {α : Type} (fmt : RecordFormat α) (x : Stored α) : Word :=
  crc16 (u8 x.cls.code ++ u8 x.index ++ u16 x.length ++ fmt.bytes x.value)

/-- Whether a record read from a place agrees with it in class, index and length, and its check code matches (R177). -/
def Stored.matches {α : Type} (fmt : RecordFormat α) (i : Nat) (x : Stored α) : Bool :=
  x.cls == fmt.cls && x.index == i && x.length == (fmt.bytes x.value).length && x.check == x.checkCode fmt

/-- The record that a write of contents leaves at a place. -/
def stored {α : Type} (fmt : RecordFormat α) (i : Nat) (a : α) : Stored α :=
  let x : Stored α := { cls := fmt.cls, index := i, length := (fmt.bytes a).length, value := a, check := 0 }
  { x with check := x.checkCode fmt }

/-- A record left damaged by a cut write or a double read-back failure: its check code does not match (R105, R179;
log entry 39). -/
def Stored.damage {α : Type} (fmt : RecordFormat α) (x : Stored α) : Stored α :=
  { x with check := ~~~ x.checkCode fmt }

/-- The same contents for each feeder, in the records 1..4 of a class. -/
def storedFeeders {α : Type} (fmt : RecordFormat α) (a : α) : PerFeeder (Stored α) :=
  { f1 := stored fmt 1 a, f2 := stored fmt 2 a, f3 := stored fmt 3 a, f4 := stored fmt 4 a }

/-- The same contents in the records 1..n of a class. -/
def storedList {α : Type} (fmt : RecordFormat α) (n : Nat) (a : α) : List (Stored α) :=
  (List.range n).map (fun i => stored fmt (i + 1) a)

end Sys2Proof.Machine
end

