-- ==== Sys2Proof/Machine/Constants.lean ====
section
/-! DEFINITION. The fixed numbers of the manual: timer lengths, limits, the mask ROM (fixed fire action table,
fallback group, fallback curve), the factory contents of the store, and the values each block's state takes at
power-on and after RESTART. -/

namespace Sys2Proof.Machine

/-! ### Numbers -/

/-- Full scale of the inverse-time accumulators (R19). -/
def fullScale : Nat := 1048576

/-- The cap of the current ratio (R15). -/
def ratioCap : Nat := 640

/-- An overranged input (R3). -/
def overrange : Nat := 65535

/-- The frame watchdog in ms (R8). -/
def watchdogMs : Nat := 50

/-- The position-fault timer in ms (R50). -/
def positionFaultMs : Nat := 20

/-- The pause timer in ms (R156). -/
def pauseMs : Nat := 1800000

/-- One minute in ms (R98, R111). -/
def minuteMs : Nat := 60000

/-- The milliseconds of a day (R11). -/
def dayMs : Nat := 86400000

/-- The largest number of records the log holds (R172). -/
def logCapacity : Nat := 128

/-- The step budget of a hunt (R156, R162). -/
def stepBudget : Nat := 64

/-- The quiet gap in ms (R131). -/
def quietGapMs : Nat := 10

/-- From the end of the part's check character to the close of its reply window, in ms (R130). -/
def replyWindowMs : Nat := 17

/-- From the end of a check character to the opening of the reply window, in ms (R130, R134). -/
def windowOpensMs : Nat := 2

/-- The length of a clamp seen, in ms (R133, R139). -/
def clampMs : Nat := 20

/-- The part's own clamp in ms (R140). -/
def clampOutMs : Nat := 50

/-- The ACTIVE run beyond which the bus is STUCK, in ms (R141). -/
def stuckMs : Nat := 100

/-- The PASSIVE run that restores a STUCK bus, in ms (R141). -/
def restoreMs : Nat := 500

/-- The most master entries on a hold list (R89). -/
def masterHoldLimit : Nat := 9

/-- The most master entries in the transmit queue (R137). -/
def masterEntryLimit : Nat := 7

/-! ### Mask ROM -/

/-- The fixed copy of the fire action table, flat: nine fields for each of L0 to L3 (R114). -/
def fixedTable : List Nat :=
  [ 100, 0, 4, 0, 100, 100, 1, 1, 0,
    100, 0, 1, 1, 100, 100, 0, 1, 0,
    50, 2, 0, 1, 50, 50, 0, 1, 3,
    50, 1, 0, 1, 50, 25, 0, 0, 3 ]

/-- The fallback group (R181). -/
def fallbackGroup : SettingGroup :=
  { ocPickup := 2000, ocCurve := 1, ocTms := 100, ocReset := 0
    hsRatio := 128, hsFrames := 1
    efPickup := 2000, efCurve := 1, efTms := 100, efReset := 0
    sefPickup := 200, sefDelay := 500, shift := 10, limit := 1000
    huntPickup := 50, huntQuorum := 40, shots := 0
    dead1 := 5000, dead2 := 5000, dead3 := 5000, dead4 := 5000
    reclaim := 30000, tripConfirm := 200, closeConfirm := 400, pulseCode := 3 }

/-- The fallback curve (R30). -/
def fallbackCurve : Curve := [{ ratio := 16, rate := 8192 }, { ratio := 640, rate := 8192 }]

/-- An END block with every other field 0 (R149). -/
def endBlock : HuntBlock :=
  { action := .finish, unit := 0, window := 0, repeats := 0
    tests := { sefSeen := false, ocSeen := false, trip := false, fpi := false, unitFail := false }
    senseNone := false, nextTrue := 0, nextFalse := 0, notify := false }

/-! ### Values at power-on and after RESTART -/

/-- The same value for each feeder. -/
def forFeeders {α : Type} (a : α) : PerFeeder α := { f1 := a, f2 := a, f3 := a, f4 := a }

/-- The same value for each port. -/
def forPorts {α : Type} (a : α) : PerPort α := { station := a, remote := a, panel := a }

/-- Day 0, millisecond 0 (R11). -/
def timeZero : TimeOfDay := { day := 0, ms := 0 }

/-- A stamp of day 0, millisecond 0, TIME_SET clear (R176). -/
def stampZero : Stamp := { time := timeZero, timeSet := false }

/-- R10: NONE, watchdog stopped, no *last* (held as 0 and never read in NONE), no held values. -/
def receiverStart : Receiver := { state := .none, last := 0, held := none, watchdog := none }

/-- R22: accumulator 0, pickup and operated mark clear. -/
def inverseStart : Inverse := { ratio := 0, pickup := false, acc := 0, operated := false }

/-- R22: counter 0, operated mark clear. -/
def highSetStart : HighSet := { count := 0, operated := false }

/-- R10, R36, R43: unseeded, latch and freeze mark clear. -/
def baselineStart : Baseline := { acc := 0, seeded := false, high := false, frozen := false }

/-- R43: counter 0, every mark and latch clear. -/
def sefStart : Sef := { residual := 0, pickup := false, count := 0, operated := false, alarm := false }

/-- R10, R22, R43, R45: the protection unit with nothing counted and no window open. -/
def protectionStart : Protection :=
  { last := none, oc := inverseStart, ef := inverseStart, hs := highSetStart
    base := baselineStart, sef := sefStart, window := none }

/-- R67: no shot, marks clear, causes none, nothing in flight. -/
def sequencerStart (stableClosed : Bool) : Sequencer :=
  { state := if stableClosed then .inService else .open
    shots := 0, mark := false, cause := none, phase := none, pendingOpen := [], openTaken := false
    manualClose := none, reason := none, timer := none }

/-- R147: UNKNOWN, nothing indicated, silent mark clear, no contact and no command, isolated flag as restored. -/
def unitStart (isolated : Bool) : UnitRecord :=
  { place := none, switch := .unknown, faultPassed := false, localLock := false, batteryLow := false
    silent := false, isolated := isolated, lastContact := none, lastCommand := none }

/-- Nothing has happened to the block yet. -/
def blockRunStart : BlockRun :=
  { outcome := .done, windows := 0, sefSamples := 0, windowTrip := false, heldTrip := false
    securingTrip := false }

/-- No event noted in STOPPING (R167). -/
def notesStart : StoppingNotes :=
  { trip := false, unexpectedMove := false, unitReport := false, measurementLoss := false
    breakerFail := false }

/-- R152: IDLE, with nothing held; the hunt memory as loaded. -/
def huntStart (memory : List HuntBlock) : Hunt :=
  { state := .idle, feeder := none, current := 0, phase := .acting, awaiting := .nothing
    run := blockRunStart, pauseReason := .step, pauseTimer := none
    detourFirst := 0, returnSlot := none, insertion := none, pendingDetour := false
    stepMode := false, steps := 0, lockSet := [], trace := [], result := none, outstanding := false
    faulty := [], lastBlock := 0, notes := notesStart, started := timeZero, abortPort := none
    memory := memory, asks := 0 }

/-- R184, R188, R191: IDLE, no busy note, no orphan, counter 0, flags clear, mask empty. -/
def portStart : PortState :=
  { slot := .idle, busyNote := none, orphan := false, counter := 0, flags := 0, mask := 0
    inReset := false, pointer := 0, overrun := false, lost := 0, clockedOut := [] }

/-- No fault, nothing damaged, nothing queued (R180). -/
def storeStart : Store := { fault := none, damaged := [], queue := [] }

/-- The store's contents as the part leaves the factory: corridors empty (R103), exposure EXPOSED (R113), the
fixed table (R114), unit lists empty and isolated flags clear (R147), END blocks (R149), fire slots empty (R108),
hold lists empty. DESIGN CHOICE (log entry 4), unsafe: the manual gives no factory contents of the groups, the
curves and the retained holds; the groups are the fallback group and the curves the fallback curve. -/
def factoryImage : Image :=
  { groupsA :=
      { f1 := stored groupFormat 1 fallbackGroup, f2 := stored groupFormat 3 fallbackGroup
        f3 := stored groupFormat 5 fallbackGroup, f4 := stored groupFormat 7 fallbackGroup }
    groupsB :=
      { f1 := stored groupFormat 2 fallbackGroup, f2 := stored groupFormat 4 fallbackGroup
        f3 := stored groupFormat 6 fallbackGroup, f4 := stored groupFormat 8 fallbackGroup }
    curves := storedList curveFormat 4 fallbackCurve
    table := stored tableFormat 1 fixedTable
    exposure := storedFeeders exposureFormat .exposed
    corridor := storedFeeders corridorFormat (forFeeders false)
    unitLists := storedFeeders listFormat []
    isolation := stored isolationFormat 1 (List.replicate 31 false)
    hunt := storedList huntFormat 255 endBlock
    holds := storedFeeders holdsFormat []
    fireRequests := stored requestsFormat 1 (forPorts none) }

end Sys2Proof.Machine
end

