-- ==== Sys2Proof/Machine/State.lean ====
section
/-! DEFINITION. The state of the part: one field per block's state, the nonvolatile image, and the queue of
commands that wait. Fault and Refusal. State.reset: the part after power-on with its factory store. -/

namespace Sys2Proof.Machine

/-- Why the machine stops. -/
inductive Fault where
  /-- Raised by STORE_WRITE_COMPLETION when it names a read-back failure of a record that the write in hand does
  not hold: no event of the part. Safe: a claim about such a step cannot be proved of a next state. -/
  | noSuchRecord
  deriving DecidableEq, Repr

/-- Why a command has no meaning. -/
inductive Refusal where
  /-- Raised by exec for a row that has no meaning yet. Safe. No row is in this case. -/
  | notModelled (mnemonic : String)
  deriving DecidableEq, Repr

/-- The whole part. `powered` is false between POWER_LOSS and POWER_ON; `pending` is the model's queue of commands
that wait, first in, first out; every other field is the state a chapter of the manual gives a block. -/
structure State where
  powered : Bool
  ms : Ms
  time : TimeOfDay
  timeSet : Bool
  key : KeyPosition
  receivers : PerFeeder Receiver
  protection : PerFeeder Protection
  breakers : PerFeeder Breaker
  sequencers : PerFeeder Sequencer
  holds : PerFeeder HoldTable
  fire : FireController
  bus : Bus
  hunt : Hunt
  log : Log
  store : Store
  image : Image
  ports : PerPort PortState
  restart : Option RestartWait
  pending : List Instr
  deriving DecidableEq, Repr

/-- The effective settings of a feeder at L0 on the factory store: the fixed L0 record over group A (R119). -/
def State.resetEffective : Effective :=
  { level := .l0, letter := .a, group := fallbackGroup
    ocTms := 100, efTms := 100, hsFrames := 1, sefPickup := 200, sefDelay := 500
    sefTrip := false, levelShots := 4, shotLimit := 0, sefReclose := true, huntCloses := true
    patrol := false }

/-- The machine right after power-on reset (R176 and the reset values each chapter gives), with the factory
store (log entry 4) and the inputs at the levels of Config.resetPins (log entry 3). -/
def State.reset : State :=
  { powered := true
    ms := 0
    time := timeZero
    timeSet := false
    key := Config.resetPins.key
    receivers := forFeeders receiverStart
    protection := forFeeders protectionStart
    breakers := forFeeders
      { contacts := { openMade := true, closedMade := false }
        stableClosed := false, alarm := false, faultTimer := none, slot := .empty, failed := none
        lastTrip := none, lastClose := none, askPending := false, huntAsk := false }
    sequencers := forFeeders (sequencerStart false)
    holds := forFeeders { list := [], corridor := forFeeders false, pendingMark := false }
    fire :=
      { requests := forPorts none
        table := fixedTable
        replaced := false
        groups := forFeeders
          { a := { group := fallbackGroup, fallback := false }
            b := { group := fallbackGroup, fallback := false } }
        curves := List.replicate 4 fallbackCurve
        exposure := forFeeders .exposed
        site := .l0
        effective := forFeeders State.resetEffective
        pendingMark := false }
    bus :=
      { state := .gap, since := 0, mismatch := none, ackTimer := none, runStart := 0, lastActive := 0, queue := [], sent := []
        resetPorts := [], units := List.replicate 31 (unitStart false), lists := forFeeders []
        pendingMark := false }
    hunt := huntStart (List.replicate 255 endBlock)
    log :=
      { records :=
          [{ seq := 0, stamp := stampZero, feeder := none, source := .block .eventLog, details := .powerOn }]
        next := 1 }
    store := storeStart
    image := factoryImage
    ports := forPorts portStart
    restart := none
    pending := [] }

end Sys2Proof.Machine
end

