-- ==== Sys2Proof/Machine/Flags.lean ====
section
/-! DEFINITION. The attention flags of R191: eight per port, a mask, and the line they drive. -/

namespace Sys2Proof.Machine

/-- The bit of a flag in a flag set, bits 0 to 7 in R191's order (R197). -/
def AttentionFlag.bit : AttentionFlag → BitVec 8
  | .trip => 0x01
  | .lockout => 0x02
  | .holds => 0x04
  | .level => 0x08
  | .hunt => 0x10
  | .linebus => 0x20
  | .measurement => 0x40
  | .store => 0x80

/-- A block sets a flag at one port. While the port's reset line is asserted the setting does not reach it
(R193). Setting a flag already set changes nothing. -/
def PortState.setFlag (fl : AttentionFlag) (q : PortState) : PortState :=
  if q.inReset then q else { q with flags := q.flags ||| fl.bit }

/-- Whether a flag stands set at a port. -/
def PortState.hasFlag (fl : AttentionFlag) (q : PortState) : Bool := q.flags &&& fl.bit != 0

/-- The attention line of a port (R191): asserted while a flag is set that the mask does not hold. -/
def PortState.attentionLine (q : PortState) : Bool := q.flags &&& ~~~q.mask != 0

/-- A block sets a flag in every port (R191). -/
def State.setFlag (fl : AttentionFlag) (s : State) : State :=
  { s with ports :=
      { station := s.ports.station.setFlag fl
        remote := s.ports.remote.setFlag fl
        panel := s.ports.panel.setFlag fl } }

end Sys2Proof.Machine
end

