-- ==== Sys2Proof/Machine/Ops.lean ====
section
/-! DEFINITION. The named operations every block uses: access by feeder and by port, timers, the append to the
event log (R172, R173) and the answer to a port's request (R184, R193). -/

namespace Sys2Proof.Machine

/-! ### Access by feeder and by port -/

/-- The value of a feeder. -/
def feederGet {α : Type} (x : PerFeeder α) : Feeder → α
  | .f1 => x.f1
  | .f2 => x.f2
  | .f3 => x.f3
  | .f4 => x.f4

/-- Replace the value of one feeder. -/
def feederSet {α : Type} (x : PerFeeder α) (f : Feeder) (a : α) : PerFeeder α :=
  match f with
  | .f1 => { x with f1 := a }
  | .f2 => { x with f2 := a }
  | .f3 => { x with f3 := a }
  | .f4 => { x with f4 := a }

/-- The value of a port. -/
def portGet {α : Type} (x : PerPort α) : Port → α
  | .station => x.station
  | .remote => x.remote
  | .panel => x.panel

/-- Replace the value of one port. -/
def portSet {α : Type} (x : PerPort α) (p : Port) (a : α) : PerPort α :=
  match p with
  | .station => { x with station := a }
  | .remote => { x with remote := a }
  | .panel => { x with panel := a }

/-- The same function at every feeder. -/
def feederMap {α β : Type} (g : α → β) (x : PerFeeder α) : PerFeeder β :=
  { f1 := g x.f1, f2 := g x.f2, f3 := g x.f3, f4 := g x.f4 }

/-- The same function at every port. -/
def portMap {α β : Type} (g : α → β) (x : PerPort α) : PerPort β :=
  { station := g x.station, remote := g x.remote, panel := g x.panel }

/-- The feeders in order F1 to F4. -/
def allFeeders : List Feeder := [.f1, .f2, .f3, .f4]

/-- The ports in order. -/
def allPorts : List Port := [.station, .remote, .panel]

/-- The feeder a number names; none outside 1..4. -/
def feederOf (n : Nat) : Option Feeder :=
  match n with
  | 1 => some .f1
  | 2 => some .f2
  | 3 => some .f3
  | 4 => some .f4
  | _ => none

def State.receiver (s : State) (f : Feeder) : Receiver := feederGet s.receivers f
def State.unit (s : State) (f : Feeder) : Protection := feederGet s.protection f
def State.breaker (s : State) (f : Feeder) : Breaker := feederGet s.breakers f
def State.sequencer (s : State) (f : Feeder) : Sequencer := feederGet s.sequencers f
def State.holdTable (s : State) (f : Feeder) : HoldTable := feederGet s.holds f
def State.effective (s : State) (f : Feeder) : Effective := feederGet s.fire.effective f
def State.port (s : State) (p : Port) : PortState := portGet s.ports p

def State.setReceiver (s : State) (f : Feeder) (x : Receiver) : State :=
  { s with receivers := feederSet s.receivers f x }
def State.setUnit (s : State) (f : Feeder) (x : Protection) : State :=
  { s with protection := feederSet s.protection f x }
def State.setBreaker (s : State) (f : Feeder) (x : Breaker) : State :=
  { s with breakers := feederSet s.breakers f x }
def State.setSequencer (s : State) (f : Feeder) (x : Sequencer) : State :=
  { s with sequencers := feederSet s.sequencers f x }
def State.setHoldTable (s : State) (f : Feeder) (x : HoldTable) : State :=
  { s with holds := feederSet s.holds f x }
def State.setPort (s : State) (p : Port) (x : PortState) : State :=
  { s with ports := portSet s.ports p x }
def State.setHunt (s : State) (h : Hunt) : State := { s with hunt := h }
def State.setBus (s : State) (b : Bus) : State := { s with bus := b }
def State.setFire (s : State) (c : FireController) : State := { s with fire := c }
def State.setStore (s : State) (st : Store) : State := { s with store := st }
def State.setImage (s : State) (i : Image) : State := { s with image := i }
def State.setLog (s : State) (l : Log) : State := { s with log := l }

/-! ### Time and timers (R11) -/

/-- The stamp of the present moment (R11). -/
def State.stamp (s : State) : Stamp := { time := s.time, timeSet := s.timeSet }

/-- Elapsed milliseconds since a count, across the wrap of the counter (R11). -/
def elapsed (now start : Ms) : Nat := (now - start).toNat

/-- A timer started now. -/
def State.timer (s : State) (length : Nat) : Timer := { start := s.ms, length := length }

/-- Whether a running timer has reached its length. -/
def Timer.due (now : Ms) (t : Timer) : Bool := decide (t.length ≤ elapsed now t.start)

/-- Whether an optional timer runs and has reached its length. -/
def timerDue (now : Ms) (t : Option Timer) : Bool :=
  match t with
  | some t => t.due now
  | none => false

/-- The time left on a timer, in ms. -/
def Timer.left (now : Ms) (t : Timer) : Nat := t.length - elapsed now t.start

/-- The timer of an expiry (R98, R111). -/
def Expiry.timer (e : Expiry) : Timer := { start := e.start, length := e.minutes * minuteMs }

/-- The expiry a request carries: 0 minutes means absent (R93, R109). -/
def State.expiry (s : State) (minutes : Nat) : Option Expiry :=
  if minutes = 0 then none else some { minutes := minutes, start := s.ms }

/-- A quotient rounded up (R107, R128, R171). -/
def ceilDiv (n d : Nat) : Nat := (n + (d - 1)) / d

/-! ### The event log (R172, R173) -/

/-- What a drop does to a port whose read pointer names the dropped record (R173). -/
def PortState.dropped (old new : Word) (q : PortState) : PortState :=
  if q.pointer = old then
    { q with pointer := new, overrun := true, lost := min 65535 (q.lost + 1) }
  else q

/-- The sequence number of the oldest record, or the next one when no record is held. -/
def Log.oldest (l : Log) : Word :=
  match l.records with
  | r :: _ => r.seq
  | [] => l.next

/-- Drop the oldest record, as an append that finds the log full does first (R173). -/
def State.dropOldest (s : State) : State :=
  match s.log.records with
  | [] => s
  | r :: rest =>
    let l : Log := { s.log with records := rest }
    { s with log := l, ports := portMap (PortState.dropped r.seq l.oldest) s.ports }

/-- Make room for one record (R173). -/
def State.makeRoom (s : State) : State :=
  if s.log.records.length < logCapacity then s else s.dropOldest

/-- Append a record with the next sequence number and the stamp of the moment (R172). -/
def State.append (s : State) (feeder : Option Feeder) (source : RecordSource) (d : Details) : State :=
  let t := s.makeRoom
  let r : LogRecord :=
    { seq := t.log.next, stamp := t.stamp, feeder := feeder, source := source, details := d }
  { t with log := { records := t.log.records ++ [r], next := t.log.next + 1 } }

/-- Append a record of a feeder from a block. -/
def State.record (s : State) (f : Feeder) (b : Block) (d : Details) : State :=
  s.append (some f) (.block b) d

/-- The source of a record that a port's request caused, where its appending block names itself (R172). -/
def RecordSource.causedBy (p : Port) : RecordSource → RecordSource
  | .block _ => .port p
  | .port q => .port q

/-- A record that a port's request caused. -/
def LogRecord.causedBy (p : Port) (r : LogRecord) : LogRecord := { r with source := r.source.causedBy p }

/-- The log with the records appended since a next sequence number ascribed to a port. -/
def Log.ascribe (l : Log) (p : Port) (since : Word) : Log :=
  let old := l.records.length - (l.next - since).toNat
  { l with records := l.records.take old ++ (l.records.drop old).map (LogRecord.causedBy p) }

/-- What happens because of a port's request: a record that any block appends in it has the port as its source (R172; log
entry 14). -/
def State.causedBy (s : State) (p : Port) (g : State → State) : State :=
  let t := g s
  { t with log := t.log.ascribe p s.log.next }

/-! ### Answers to requests (R184, R193) -/

/-- An owner answers the request of a port: the response is built with the control counter as it stands, and the
slot becomes READY. An answer to an orphan request is discarded and clears the orphan mark (R193); a busy note is
dropped (R185). -/
def PortState.answer (status : Status) (data : List Byte) (q : PortState) : PortState :=
  if q.orphan then { q with orphan := false }
  else
    match q.slot with
    | .inFlight code =>
      { q with
        slot := .ready { status := status, code := code, counter := q.counter, data := data }
        busyNote := none }
    | _ => q

/-- Answer the request of a port. -/
def State.respond (s : State) (p : Port) (status : Status) (data : List Byte) : State :=
  s.setPort p ((s.port p).answer status data)

/-- Answer a refusal without detail, or a plain acceptance. -/
def State.reply (s : State) (p : Port) (status : Status) : State := s.respond p status []

/-! ### Access to lists -/

/-- Replace one element of a list by its image. -/
def listUpdate {α : Type} (l : List α) (i : Nat) (g : α → α) : List α := l.modify i g

/-- n indices from a first one on. -/
def indicesFrom (first : Nat) : Nat → List Nat
  | 0 => []
  | n + 1 => first :: indicesFrom (first + 1) n

/-- The record of an address 1..31 (R143). -/
def State.unitRecord (s : State) (a : Nat) : UnitRecord := s.bus.units.getD (a - 1) (unitStart false)

/-- Change the record of an address 1..31. -/
def State.updateUnit (s : State) (a : Nat) (g : UnitRecord → UnitRecord) : State :=
  s.setBus { s.bus with units := listUpdate s.bus.units (a - 1) g }

/-- The address at an order index of a feeder's list (R144). -/
def State.addressAt (s : State) (f : Feeder) (index : Nat) : Option Nat :=
  if index = 0 then none else (feederGet s.bus.lists f)[index - 1]?

/-- Curve n of the working set, n = 1..4 (R16). -/
def State.curve (s : State) (n : Nat) : Curve := s.fire.curves.getD (n - 1) fallbackCurve

/-- Hunt block n of the working copy, n = 1..255 (R149). -/
def State.huntBlock (s : State) (n : Nat) : HuntBlock := s.hunt.memory.getD (n - 1) endBlock

/-- The two groups of a feeder by letter. -/
def GroupPair.get (g : GroupPair) : Letter → WorkingGroup
  | .a => g.a
  | .b => g.b

/-- Replace a group by its letter. -/
def GroupPair.set (g : GroupPair) (l : Letter) (w : WorkingGroup) : GroupPair :=
  match l with
  | .a => { g with a := w }
  | .b => { g with b := w }

/-- A group of a feeder. -/
def State.workingGroup (s : State) (f : Feeder) (l : Letter) : WorkingGroup :=
  (feederGet s.fire.groups f).get l

/-- Whether a hunt is RUNNING, PAUSED or STOPPING on a feeder (R152). -/
def State.huntOn (s : State) (f : Feeder) : Bool :=
  (s.hunt.feeder == some f) &&
    (s.hunt.state == .running || s.hunt.state == .paused || s.hunt.state == .stopping)

/-- An event of the part: nothing happens in a part without supply (log entry 5). -/
def event (s : State) (g : State → State) : Host.Outcome State Fault Refusal :=
  .next (if s.powered then g s else s)

end Sys2Proof.Machine
end

