-- ==== Sys2Proof/Machine/Operands.lean ====
section
/-! DEFINITION. What a payload carries (R197, R198), and the ranges of the settings (R16, R114, R123, R149): every
operand form of the requests, read once and checked once. -/

namespace Sys2Proof.Machine

/-- Byte i of a payload as a number; 0 beyond its end. -/
def byteAt (pl : List Byte) (i : Nat) : Nat := (pl.getD i 0).toNat

/-- The two-byte number at byte i of a payload. -/
def wordAt (pl : List Byte) (i : Nat) : Nat := be16 (pl.getD i 0) (pl.getD (i + 1) 0)

/-- The four-byte number at byte i of a payload. -/
def longAt (pl : List Byte) (i : Nat) : Nat :=
  be32 (pl.getD i 0) (pl.getD (i + 1) 0) (pl.getD (i + 2) 0) (pl.getD (i + 3) 0)

/-- A fire level by its number (R197). -/
def levelOf (n : Nat) : Option Level :=
  match n with
  | 0 => some .l0
  | 1 => some .l1
  | 2 => some .l2
  | 3 => some .l3
  | _ => none

/-- A group letter: 1 for A and 2 for B (R197). -/
def letterOf (n : Nat) : Option Letter :=
  match n with
  | 1 => some .a
  | 2 => some .b
  | _ => none

/-- A hold kind (R197). -/
def holdKindOf (n : Nat) : Option HoldKind :=
  match n with
  | 1 => some .reclose
  | 2 => some .remote
  | 3 => some .all
  | _ => none

/-- An owner code of REMOVE-HOLD: 0 absent stands for the requesting port (R95, R197). -/
def ownerOf (p : Port) (n : Nat) : Option Owner :=
  match n with
  | 0 => some (.master p)
  | 1 => some (.master .station)
  | 2 => some (.master .remote)
  | 3 => some (.master .panel)
  | 4 => some .fire
  | 5 => some .patrol
  | 6 => some .hunt
  | _ => none

/-- An exposure class (R197). -/
def exposureOf (n : Nat) : Option Exposure :=
  match n with
  | 1 => some .urban
  | 2 => some .exposed
  | _ => none

/-- A kind of UNIT-COMMAND (R197). -/
def unitCommandOf (n : Nat) : Option UnitCommandKind :=
  match n with
  | 1 => some .open
  | 2 => some .close
  | 3 => some .query
  | 4 => some .clearIndication
  | _ => none

/-- Step mode: 0 off, 1 on (R197). -/
def stepModeOf (n : Nat) : Option Bool :=
  match n with
  | 0 => some false
  | 1 => some true
  | _ => none

/-- A set of feeders: bits 0 to 3 for F1 to F4 (R197). -/
def feederSetOf (n : Nat) : PerFeeder Bool :=
  { f1 := n.testBit 0, f2 := n.testBit 1, f3 := n.testBit 2, f4 := n.testBit 3 }

/-! ### Curves (R16) -/

/-- Whether each point's ratio rises above the one before and its rate does not fall. -/
def pointsRise : List Point → Bool
  | a :: b :: rest => decide (a.ratio < b.ratio) && decide (a.rate ≤ b.rate) && pointsRise (b :: rest)
  | _ => true

/-- The conditions of R16 on a curve. -/
def curveValid (c : Curve) : Bool :=
  decide (2 ≤ c.length) && decide (c.length ≤ 12) && ((c.head?.map Point.ratio) == some 16) &&
    pointsRise c && c.all (fun q => decide (q.ratio ≤ ratioCap) && decide (1 ≤ q.rate) && decide (q.rate ≤ fullScale))

/-- The points a WRITE-CURVE payload carries from byte i, n of them: each ratio (2) and rate (4). -/
def pointsAt (pl : List Byte) (i : Nat) : Nat → List Point
  | 0 => []
  | n + 1 => { ratio := wordAt pl i, rate := longAt pl (i + 2) } :: pointsAt pl (i + 6) n

/-! ### Setting groups (R123) -/

/-- Whether a value lies in a range. -/
def within (lo hi n : Nat) : Bool := decide (lo ≤ n) && decide (n ≤ hi)

/-- Whether every field lies within its range (R123). -/
def groupValid (g : SettingGroup) : Bool :=
  within 1 65535 g.ocPickup && within 1 4 g.ocCurve && within 5 150 g.ocTms && within 0 fullScale g.ocReset &&
    within 32 640 g.hsRatio && within 1 50 g.hsFrames &&
    within 1 65535 g.efPickup && within 1 4 g.efCurve && within 5 150 g.efTms && within 0 fullScale g.efReset &&
    within 1 2000 g.sefPickup && within 10 30000 g.sefDelay && within 8 12 g.shift && within 0 5000 g.limit &&
    within 10 2000 g.huntPickup && within 1 500 g.huntQuorum && within 0 4 g.shots &&
    within 100 180000 g.dead1 && within 100 180000 g.dead2 && within 100 180000 g.dead3 &&
    within 100 180000 g.dead4 && within 1000 300000 g.reclaim && within 40 500 g.tripConfirm &&
    within 60 1000 g.closeConfirm && within 0 7 g.pulseCode

/-- The group record that 56 bytes carry from byte i: the fields of R123 in order, each in the fewest of one, two
or four bytes that hold the largest value of its range (R197). -/
def groupAt (pl : List Byte) (i : Nat) : SettingGroup :=
  { ocPickup := wordAt pl i, ocCurve := byteAt pl (i + 2), ocTms := byteAt pl (i + 3)
    ocReset := longAt pl (i + 4), hsRatio := wordAt pl (i + 8), hsFrames := byteAt pl (i + 10)
    efPickup := wordAt pl (i + 11), efCurve := byteAt pl (i + 13), efTms := byteAt pl (i + 14)
    efReset := longAt pl (i + 15), sefPickup := wordAt pl (i + 19), sefDelay := wordAt pl (i + 21)
    shift := byteAt pl (i + 23), limit := wordAt pl (i + 24), huntPickup := wordAt pl (i + 26)
    huntQuorum := wordAt pl (i + 28), shots := byteAt pl (i + 30), dead1 := longAt pl (i + 31)
    dead2 := longAt pl (i + 35), dead3 := longAt pl (i + 39), dead4 := longAt pl (i + 43)
    reclaim := longAt pl (i + 47), tripConfirm := wordAt pl (i + 51), closeConfirm := wordAt pl (i + 53)
    pulseCode := byteAt pl (i + 55) }

/-! ### The fire action table (R114) -/

/-- Whether a value lies in the range of a field 0..8 of the table (R114). -/
def fireFieldValid (field value : Nat) : Bool :=
  match field with
  | 0 => within 10 100 value
  | 1 => within 0 50 value
  | 2 => within 0 4 value
  | 3 => within 0 1 value
  | 4 => within 25 100 value
  | 5 => within 10 100 value
  | 6 => within 0 1 value
  | 7 => within 0 1 value
  | _ => within 0 3 value

/-- Whether values meant for the indices from `start` on lie in their ranges; an index above 35 is not checked
(R115). -/
def fireValuesValid (start : Nat) : List Nat → Bool
  | [] => true
  | v :: rest => (decide (35 < start) || fireFieldValid (start % 9) v) && fireValuesValid (start + 1) rest

/-- Whether a list is a whole table within its ranges. -/
def fireTableValid (t : List Nat) : Bool := t.length == 36 && fireValuesValid 0 t

/-! ### Hunt blocks (R149, R198) -/

/-- A hunt action by its code (R198). -/
def huntActionOf (n : Nat) : Option HuntAction :=
  match n with
  | 1 => some .openUnit
  | 2 => some .closeUnit
  | 3 => some .testCloseUnit
  | 4 => some .openBreaker
  | 5 => some .closeBreaker
  | 6 => some .testCloseBreaker
  | 7 => some .wait
  | 8 => some .mark
  | 9 => some .ret
  | 10 => some .finish
  | _ => none

/-- The hunt block that 8 bytes carry from byte i (R198); none when a field is outside what R151 allows: an
action that is none of the ten, a unit above 8, a window above 500, a sense that is neither ANY nor NONE, or a
test-set member other than the five. Unused bits are ignored (R195). -/
def huntBlockAt (pl : List Byte) (i : Nat) : Option HuntBlock :=
  match huntActionOf (byteAt pl i) with
  | none => none
  | some a =>
    let m := byteAt pl (i + 4)
    let t := byteAt pl (i + 5)
    let sense := m / 16 % 4
    if byteAt pl (i + 1) ≤ 8 ∧ wordAt pl (i + 2) ≤ 500 ∧ sense ≤ 1 ∧ t < 32 then
      some
        { action := a, unit := byteAt pl (i + 1), window := wordAt pl (i + 2), repeats := m % 8
          tests :=
            { sefSeen := t.testBit 0, ocSeen := t.testBit 1, trip := t.testBit 2, fpi := t.testBit 3
              unitFail := t.testBit 4 }
          senseNone := sense == 1
          nextTrue := byteAt pl (i + 6), nextFalse := byteAt pl (i + 7), notify := m.testBit 7 }
    else none

/-- The n hunt blocks a payload carries from byte i; none when one of them is refused. -/
def huntBlocksAt (pl : List Byte) (i : Nat) : Nat → Option (List HuntBlock)
  | 0 => some []
  | n + 1 =>
    match huntBlockAt pl i, huntBlocksAt pl (i + 8) n with
    | some b, some bs => some (b :: bs)
    | _, _ => none

/-- Whether every field of a stored hunt block lies within its range (R149). -/
def huntBlockValid (b : HuntBlock) : Bool :=
  within 0 8 b.unit && within 0 500 b.window && within 0 7 b.repeats && within 0 255 b.nextTrue &&
    within 0 255 b.nextFalse

/-! ### Unit lists (R144) -/

/-- The n addresses a payload carries from byte i. -/
def addressesAt (pl : List Byte) (i : Nat) : Nat → List Nat
  | 0 => []
  | n + 1 => byteAt pl i :: addressesAt pl (i + 1) n

/-- Whether a list holds no element twice. -/
def noRepeats : List Nat → Bool
  | [] => true
  | a :: rest => !rest.contains a && noRepeats rest

/-- Whether a list may stand as a feeder's unit list beside the addresses taken by other lists. -/
def unitListValid (l taken : List Nat) : Bool :=
  decide (l.length ≤ 8) && l.all (fun a => within 1 31 a && !taken.contains a) && noRepeats l

/-! ### Retained holds (R104) -/

/-- Whether a stamp names a millisecond of a day (R11). -/
def stampValid (x : Stamp) : Bool := decide (x.time.ms < dayMs)

/-- Whether an entry may stand in a retained hold record: a master entry with a tag, or a PATROL entry, with a stamp and
without an expiry. -/
def retainedHoldValid (h : Hold) : Bool :=
  stampValid h.stamp && h.expiry.isNone &&
    match h.owner with
    | .master _ => within 1 65535 h.tag && within 0 255 h.reason
    | .patrol => h.kind == .all && h.tag == 0 && within 0 255 h.reason
    | _ => false

/-- Whether no two entries of a list share owner and tag (R89). -/
def holdsDistinct : List Hold → Bool
  | [] => true
  | h :: rest => rest.all (fun g => !(g.owner == h.owner && g.tag == h.tag)) && holdsDistinct rest

/-- Whether an owner is a master port. -/
def Owner.isMaster : Owner → Bool
  | .master _ => true
  | _ => false

/-- The number of master entries of a list (R89, R107). -/
def masterCount (l : List Hold) : Nat := l.countP (fun h => h.owner.isMaster)

/-- Whether a retained hold record passes its range check: entries of R104. DESIGN CHOICE (log entry 71), unsafe: R177 asks
for fields in range; the model also fails a record whose entries break the law of R89, with an owner and tag twice or more
than 9 master entries. -/
def retainedHoldsValid (l : List Hold) : Bool :=
  l.all retainedHoldValid && holdsDistinct l && decide (masterCount l ≤ masterHoldLimit)

/-- Whether a retained fire request is in range: a request of L0 cannot be held (R108), and neither an expiry nor a
restored mark is retained (R126). -/
def retainedRequestValid (r : Option FireRequest) : Bool :=
  match r with
  | none => true
  | some r => stampValid r.stamp && r.level != .l0 && r.expiry.isNone && !r.damaged

end Sys2Proof.Machine
end

