-- ==== Sys2Proof/Machine/Encode.lean ====
section
/-! DEFINITION. How values are carried to a master (R196, R197, R198): status codes, named values numbered from 1
in the order of their rule's list with 0 for absent, times of day, event records, and the bytes of a response.
Where the manual leaves a numbering or a layout open the choice is log entry 15. -/

namespace Sys2Proof.Machine

/-! ### Codes of named values -/

/-- The status codes of R196. -/
def Status.code : Status → Nat
  | .notReady => 0x00
  | .accepted => 0x01
  | .placed => 0x02
  | .refreshed => 0x03
  | .removed => 0x04
  | .withdrawn => 0x05
  | .cleared => 0x06
  | .queued => 0x07
  | .tripConfirmed => 0x08
  | .closeConfirmed => 0x09
  | .alreadyOpen => 0x0A
  | .closeFail => 0x0C
  | .cut => 0x0D
  | .notOpen => 0x0E
  | .restarted => 0x0F
  | .acceptedVolatile => 0x10
  | .portBusy => 0x11
  | .frame => 0x41
  | .unknown => 0x42
  | .authority => 0x43
  | .sequence => 0x44
  | .argument => 0x45
  | .busy => 0x50
  | .inUse => 0x51
  | .full => 0x52
  | .notFound => 0x53
  | .huntActive => 0x54
  | .isolated => 0x55
  | .state => 0x56
  | .barred => 0x57
  | .storeFault => 0x58
  | .busStuck => 0x59
  | .automatic => 0x5A
  | .range => 0x5B
  | .structure => 0x5C
  | .unitRange => 0x5D
  | .breakerFail => 0x5E

def Cause.code : Cause → Nat
  | .oc => 1
  | .hs => 2
  | .ef => 3
  | .sef => 4

def Letter.code : Letter → Nat
  | .a => 1
  | .b => 2

def Measurement.code : Measurement → Nat
  | .none => 1
  | .valid => 2
  | .lost => 3

def Decoded.code : Decoded → Nat
  | .open => 1
  | .closed => 2
  | .travel => 3
  | .invalid => 4

/-- The stable position: OPEN 1, CLOSED 2. -/
def stableCode (closed : Bool) : Nat := if closed then 2 else 1

def OpKind.code : OpKind → Nat
  | .trip => 1
  | .close => 2

/-- The purposes of R52: AUTO, REMOTE, LOCAL, HUNT. -/
def ClosePurpose.code : ClosePurpose → Nat
  | .auto => 1
  | .remote => 2
  | .localClose => 3
  | .hunt => 4

/-- The set of trip purposes: bits for PROTECTION, MANUAL, HUNT (R52). -/
def TripPurposes.code (p : TripPurposes) : Nat :=
  (if p.protection then 1 else 0) + (if p.manual then 2 else 0) + (if p.hunt then 4 else 0)

def TripPhase.code : TripPhase → Nat
  | .pulse => 1
  | .confirmWait => 2
  | .failPulse => 3

def CloseOpPhase.code : CloseOpPhase → Nat
  | .pulse => 1
  | .confirmWait => 2

/-- The code of a block as the source of a record (R198). -/
def Block.code : Block → Nat
  | .frameReceiver => 0x10
  | .timeBase => 0x11
  | .protectionUnit => 0x12
  | .breakerInterface => 0x13
  | .recloseSequencer => 0x14
  | .holdTable => 0x15
  | .fireController => 0x16
  | .settingStore => 0x17
  | .lineBusController => 0x18
  | .huntEngine => 0x19
  | .eventLog => 0x1A

def RecordSource.code : RecordSource → Nat
  | .port p => portNumber p
  | .block b => b.code

/-- A requester, by the source code of its port or block (log entry 15). -/
def Requester.code : Requester → Nat
  | .master p => portNumber p
  | .protection => Block.protectionUnit.code
  | .sequencer => Block.recloseSequencer.code
  | .hunt => Block.huntEngine.code

/-- The outcomes as answers, numbered in the order of R63's table (R197), of which ALREADY_OPEN is the third. -/
def OpOutcome.code : OpOutcome → Nat
  | .tripConfirmed => 1
  | .breakerFail => 2
  | .closeConfirmed => 4
  | .closeFail => 5
  | .cut => 6

/-- The status that answers a refused close (R59, R63). -/
def CloseRefusal.status : CloseRefusal → Status
  | .busy => .busy
  | .notOpen => .notOpen
  | .barred => .barred

def SeqState.code : SeqState → Nat
  | .inService => 1
  | .tripping => 2
  | .dead => 3
  | .reclosing => 4
  | .reclaim => 5
  | .lockout => 6
  | .open => 7
  | .hunt => 8
  | .failed => 9

def ClosePhase.code : ClosePhase → Nat
  | .asked => 1
  | .granted => 2

def LockoutReason.code : LockoutReason → Nat
  | .switchOnToFault => 1
  | .patrol => 2
  | .hold => 3
  | .shots => 4
  | .cause => 5
  | .shotsAtExpiry => 6
  | .causeAtExpiry => 7
  | .holdInDead => 8
  | .closeRefused => 9
  | .closeFail => 10
  | .breakerFail => 11

def RemovalCause.code : RemovalCause → Nat
  | .request => 1
  | .override => 2
  | .expired => 3
  | .fireLevel => 4
  | .huntEnd => 5
  | .patrolClear => 6

def LevelCause.code : LevelCause → Nat
  | .request => 1
  | .expiry => 2
  | .exposure => 3

def BusState.code : BusState → Nat
  | .gap => 1
  | .idle => 2
  | .preamble => 3
  | .sending => 4
  | .replyWait => 5
  | .listening => 6
  | .acking => 7
  | .clampOut => 8
  | .clampIn => 9
  | .stuck => 10

/-- The source of an entry: 1 HUNT, 2 STATION, 3 REMOTE, 4 PANEL (R199). -/
def EntrySource.code : EntrySource → Nat
  | .hunt => 1
  | .master p => portNumber p + 1

/-- The kind of a command transaction, as sent and as carried (R197, R199). -/
def UnitCommandKind.code : UnitCommandKind → Nat
  | .open => 1
  | .close => 2
  | .query => 3
  | .clearIndication => 4

def CompletionCode.code : CompletionCode → Nat
  | .done => 1
  | .refusedByUnit => 2
  | .noReply => 3
  | .checkFail => 4
  | .echoFail => 5
  | .aborted => 6
  | .busStuck => 7

def FailCode.code : FailCode → Nat
  | .completion c => c.code
  | .isolated => 8
  | .busy => 9

def SwitchState.code : SwitchState → Nat
  | .open => 1
  | .closed => 2
  | .unknown => 3

def Health.code : Health → Nat
  | .silent => 1
  | .localLock => 2
  | .ok => 3

def HuntState.code : HuntState → Nat
  | .idle => 1
  | .running => 2
  | .paused => 3
  | .stopping => 4
  | .done => 5

def HuntPhase.code : HuntPhase → Nat
  | .acting => 1
  | .observing => 2
  | .securing => 3

def PauseReason.code : PauseReason → Nat
  | .fire => 1
  | .hold => 2
  | .step => 3

def ReturnKind.code : ReturnKind → Nat
  | .detour => 1
  | .insertion => 2

def EndReason.code : EndReason → Nat
  | .finished => 1
  | .stepLimit => 2
  | .aborted => 3
  | .tripped => 4
  | .unitFailed => 5
  | .breakerFailed => 6
  | .pauseTimeout => 7
  | .measurement => 8
  | .interfered => 9

def StoppingNotes.code (n : StoppingNotes) : Nat :=
  (if n.trip then 1 else 0) + (if n.unexpectedMove then 2 else 0) + (if n.unitReport then 4 else 0) +
    (if n.measurementLoss then 8 else 0) + (if n.breakerFail then 16 else 0)

def StoreFault.code : StoreFault → Nat
  | .load => 1
  | .write => 2

/-- The kinds of record, numbered in the order of R198. -/
def Details.kind : Details → Nat
  | .powerOn => 1
  | .restart => 2
  | .trip .. => 3
  | .close .. => 4
  | .lockout .. => 5
  | .breakerFail .. => 6
  | .closeFail .. => 7
  | .unexpectedMove .. => 8
  | .positionFault .. => 9
  | .holdPlaced .. => 10
  | .holdRemoved .. => 11
  | .levelChanged .. => 12
  | .sefAlarm .. => 13
  | .baselineHigh .. => 14
  | .measurementLost .. => 15
  | .measurementRestored => 16
  | .huntStart .. => 17
  | .huntStep .. => 18
  | .huntPaused .. => 18
  | .huntEnd .. => 19
  | .unitSilent .. => 20
  | .linebusStuck => 21
  | .linebusRestored .. => 22
  | .settingsWritten .. => 23
  | .fireTableWritten .. => 24
  | .fireTableRestored .. => 24
  | .timeSet .. => 25
  | .storeFaultLoad .. => 26
  | .storeFaultWrite .. => 26
  | .storeFaultCleared => 26

/-! ### Compound values -/

/-- A named value that may be absent is carried as 0 then (R197). -/
def optCode {α : Type} (o : Option α) (g : α → Nat) : List Byte :=
  match o with
  | some a => u8 (g a)
  | none => u8 0

/-- A mark of a record occupies bit 7 of the first detail byte (R198). -/
def marked (m : Bool) : List Byte → List Byte
  | [] => if m then [0x80#8] else []
  | b :: rest => (if m then b ||| 0x80#8 else b) :: rest

/-- A cut close: its purpose and its requester. -/
def cutBytes (c : CutClose) : List Byte := u8 c.purpose.code ++ u8 c.requester.code

/-- A place in a unit list: the feeder and the order index. -/
def placeBytes (p : UnitPlace) : List Byte := u8 (feederNumber p.feeder) ++ u8 p.index

/-- A record of the store: its class and its index. -/
def recordIdBytes (r : RecordId) : List Byte := u8 r.cls.code ++ u8 r.index

/-- A trace record, as HUNT_STEP carries it (R162, R198). DESIGN CHOICE (log entry 16), unsafe: the dropped insertion that
R163 has the record of a DETOUR note is a byte of its own in every record, 0 or 1, before the time of day. -/
def traceBytes (t : TraceRecord) : List Byte :=
  u16 t.block ++ u8 t.action.code ++
    (match t.outcome with
      | .done => u8 1
      | .unitFail c => u8 2 ++ u8 c.code
      | .cut => u8 3
      | .detour => u8 4) ++
    bit t.test ++ u16 t.windows ++ u16 t.sefSamples ++ bit t.securingTrip ++ bit t.insertionDropped ++
    timeBytes t.time

/-- The detail of an end reason (R170). -/
def EndDetail.bytes : EndDetail → List Byte
  | .none => []
  | .unitCode c => u8 c.code
  | .breakerAnswer o => u8 o.code
  | .port p => u8 (portNumber p)
  | .interference (.unit i) => u8 i
  | .interference .breaker => u8 0
  | .block b => u16 b

/-- A result record as HUNT_END carries it (R170, R198), with the events noted in STOPPING before the times when there are
any (R167; log entry 16). -/
def resultBytes (r : HuntResult) : List Byte :=
  u8 (feederNumber r.feeder) ++ u8 r.reason.code ++ u16 r.steps ++ u16 r.lastBlock ++
    listBytes r.faulty (fun x => u8 x.address ++ u8 x.index) ++ r.detail.bytes ++
    (if r.notes.code = 0 then [] else u8 r.notes.code) ++ timeBytes r.started ++ timeBytes r.ended

/-- The outcome of a block, and its failure code or 0 (R162, R197). -/
def BlockOutcome.bytes : BlockOutcome → List Byte
  | .done => u8 1 ++ u8 0
  | .unitFail c => u8 2 ++ u8 c.code
  | .cut => u8 3 ++ u8 0
  | .detour => u8 4 ++ u8 0

/-- A trace record as READ-HUNT-TRACE carries it: each number in the fewest bytes that hold its range (R162, R197), the
dropped insertion of R163 as in HUNT_STEP (log entry 16). -/
def TraceRecord.bytes (t : TraceRecord) : List Byte :=
  u8 t.block ++ u8 t.action.code ++ t.outcome.bytes ++ bit t.test ++ u8 t.windows ++ u16 t.sefSamples ++
    bit t.securingTrip ++ bit t.insertionDropped ++ timeBytes t.time

/-- The detail of an end reason in one byte, 0 when the reason has none (R170, R197). DESIGN CHOICE (log entry 15), unsafe:
of an INTERFERED end a unit is carried as its order index 1..8 and the breaker as 0. -/
def EndDetail.code : EndDetail → Nat
  | .none => 0
  | .unitCode c => c.code
  | .breakerAnswer o => o.code
  | .port p => portNumber p
  | .interference (.unit i) => i
  | .interference .breaker => 0
  | .block b => b

/-- A result record as READ-HUNT carries it: each number in the fewest bytes that hold its range (R170, R197), the events
noted in STOPPING before the times (R167; log entry 16). -/
def HuntResult.bytes (r : HuntResult) : List Byte :=
  u8 (feederNumber r.feeder) ++ u8 r.reason.code ++ u8 r.steps ++ u8 r.lastBlock ++
    listBytes r.faulty (fun x => u8 x.address ++ u8 x.index) ++ u8 r.detail.code ++ u8 r.notes.code ++
    timeBytes r.started ++ timeBytes r.ended

/-- What a SETTINGS_WRITTEN record names. DESIGN CHOICE (log entry 67), unsafe: the class of the stored record in R177's
order, then what names it within its class: a curve's number, a feeder, a feeder and a group letter, or a first index and a
count. -/
def SettingName.bytes : SettingName → List Byte
  | .curve n => u8 RecordClass.curve.code ++ u8 n
  | .group f l => u8 RecordClass.group.code ++ u8 (feederNumber f) ++ u8 l.code
  | .exposure f => u8 RecordClass.exposure.code ++ u8 (feederNumber f)
  | .corridor f => u8 RecordClass.corridor.code ++ u8 (feederNumber f)
  | .unitList f => u8 RecordClass.unitList.code ++ u8 (feederNumber f)
  | .huntMemory a n => u8 RecordClass.huntBlock.code ++ u8 a ++ u16 n

/-- The port of a SETTINGS_WRITTEN record, where its rule names one: R103 names the corridor alone. -/
def SettingName.writer (p : Port) : SettingName → List Byte
  | .curve _ => u8 (portNumber p)
  | .group _ _ => u8 (portNumber p)
  | .exposure _ => u8 (portNumber p)
  | .corridor _ => []
  | .unitList _ => u8 (portNumber p)
  | .huntMemory _ _ => u8 (portNumber p)

/-- The tag of an entry that has one (R88). -/
def Hold.tagBytes (h : Hold) : List Byte := if h.owner.isMaster then u16 h.tag else []

/-- The details of an event record, in the order its rule names them (R198). DESIGN CHOICE (log entry 16), unsafe: a TRIP
record without a cut close omits R56's 'whether the breaker closed before opening' with it. -/
def Details.bytes : Details → List Byte
  | .powerOn => []
  | .restart => []
  | .trip late purposes cause requesters cut closedFirst time =>
    marked late (u8 purposes.code) ++ optBytes cause (fun c => u8 c.code) ++
      listBytes requesters (fun r => u8 r.code) ++
      optBytes cut (fun c => cutBytes c ++ bit closedFirst) ++ u32 time
  | .close purpose requester time => u8 purpose.code ++ u8 requester.code ++ u32 time
  | .lockout reason shots cause level limit refusal =>
    u8 reason.code ++ u16 shots ++ optBytes cause (fun c => u8 c.code) ++ u8 level.number ++ u16 limit ++
      optBytes refusal (fun r => u8 r.status.code)
  | .breakerFail purposes cause requesters cut position time =>
    u8 purposes.code ++ optBytes cause (fun c => u8 c.code) ++ listBytes requesters (fun r => u8 r.code) ++
      optBytes cut cutBytes ++ u8 position.code ++ u32 time
  | .closeFail purpose requester position => u8 purpose.code ++ u8 requester.code ++ u8 position.code
  | .unexpectedMove toOpen before after => u8 (if toOpen then 1 else 2) ++ u8 before.code ++ u8 after.code
  | .positionFault cleared stableClosed op =>
    marked cleared (u8 (stableCode stableClosed)) ++ optBytes op (fun k => u8 k.code)
  | .holdPlaced h refresh port count asker =>
    u8 h.owner.code ++ u8 h.kind.severity ++ h.tagBytes ++ u8 h.reason ++
      optBytes h.expiry (fun e => u16 e.minutes) ++ u8 (if refresh then 2 else 1) ++
      optBytes port (fun p => u8 (portNumber p)) ++ u16 count ++
      optBytes asker (fun f => u8 (feederNumber f))
  | .holdRemoved h cause port =>
    u8 h.owner.code ++ u8 h.kind.severity ++ h.tagBytes ++ u8 h.reason ++ u8 cause.code ++
      optBytes port (fun p => u8 (portNumber p))
  | .levelChanged old new site exposure before after cause port =>
    u8 old.number ++ u8 new.number ++ u8 site.number ++ u8 exposure.code ++ u8 before.code ++ u8 after.code ++
      optBytes cause (fun c => u8 c.code) ++ optBytes port (fun p => u8 (portNumber p))
  | .sefAlarm e b d => u16 e ++ u16 b ++ u16 d
  | .baselineHigh v l => u16 v ++ u16 l
  | .measurementLost last => u16 last.toNat
  | .measurementRestored => []
  | .huntStart first detour stepMode locked port =>
    u8 first ++ u8 detour ++ bit stepMode ++ u16 locked ++ u8 (portNumber port)
  | .huntStep t => traceBytes t
  | .huntPaused block reason => marked true (u16 block) ++ u8 reason.code
  | .huntEnd r => resultBytes r
  | .unitSilent address place source kind =>
    u8 address ++ optBytes place placeBytes ++ u8 source.code ++ u8 kind.code
  | .linebusStuck => []
  | .linebusRestored time => u32 time
  | .settingsWritten what port => what.bytes ++ what.writer port
  | .fireTableWritten start old new port =>
    u8 start ++ old.flatMap u8 ++ new.flatMap u8 ++ u8 (portNumber port)
  | .fireTableRestored port => marked true (u8 (portNumber port))
  | .timeSet time wasSet => timeBytes time ++ bit wasSet
  | .storeFaultLoad count first => u16 count ++ listBytes first recordIdBytes
  | .storeFaultWrite r => recordIdBytes r
  | .storeFaultCleared => marked true []

/-- An event record: a 12-byte head, then its details (R198). -/
def LogRecord.bytes (r : LogRecord) : List Byte :=
  u16 r.seq.toNat ++ u16 r.stamp.time.day.toNat ++ u32 r.stamp.time.ms ++
    u8 ((if r.stamp.timeSet then 128 else 0) + (match r.feeder with | some f => feederNumber f | none => 0)) ++
    u8 r.details.kind ++ u8 r.source.code ++ listBytes r.details.bytes (fun b => [b])

/-- The bytes of a response frame (R196). -/
def Response.bytes (r : Response) : List Byte :=
  let body :=
    u8 r.status.code ++ [r.code] ++ u16 r.counter.toNat ++ u16 r.data.length ++ r.data
  body ++ u16 (crc16 body).toNat

/-- The entry that bars a close, as a BARRED answer carries it: owner, kind, and tag where it has one (R90). -/
def barringBytes (h : Hold) : List Byte := u8 h.owner.code ++ u8 h.kind.severity ++ h.tagBytes

end Sys2Proof.Machine
end

