-- ==== Sys2Proof/Machine/Store.lean ====
section
/-! DEFINITION. The setting store's write queue (R178): entries in order of arrival, one worked on at a time, and
the retention writes the hold tables, the fire controller and the line bus controller request (R104, R126, R146).
What a completion does stands in StoreCommands.lean, what a load does in ResetCommands.lean. -/

namespace Sys2Proof.Machine

/-- A hold as it is retained: without its expiry (R104). -/
def Hold.retained (h : Hold) : Hold := { h with expiry := none }

/-- Whether an entry is part of the retained hold record: a master entry or PATROL (R104). -/
def Hold.isRetained (h : Hold) : Bool := h.owner.isMaster || h.owner == .patrol

/-- The retained hold record of a list (R104). -/
def retainedHolds (l : List Hold) : List Hold := (l.filter Hold.isRetained).map Hold.retained

/-- A fire request as it is retained: without expiry and restored mark (R126). -/
def FireRequest.retained (r : FireRequest) : FireRequest := { r with expiry := none, damaged := false }

/-- The retained fire-request record of the three slots (R126). -/
def retainedRequests (r : PerPort (Option FireRequest)) : PerPort (Option FireRequest) :=
  portMap (Option.map FireRequest.retained) r

/-- The contents an internal write takes: the working state as it stands (R178). -/
def State.retain (s : State) : RetentionOwner → Retained
  | .holds f => .holds f (retainedHolds (s.holdTable f).list)
  | .fireRequests => .fireRequests (retainedRequests s.fire.requests)
  | .isolation => .isolation (s.bus.units.map UnitRecord.isolated)

/-- An owner's retention-pending mark (R104, R126, R146). -/
def State.pendingMark (s : State) : RetentionOwner → Bool
  | .holds f => (s.holdTable f).pendingMark
  | .fireRequests => s.fire.pendingMark
  | .isolation => s.bus.pendingMark

/-- Set or clear an owner's retention-pending mark. -/
def State.setPendingMark (s : State) (o : RetentionOwner) (m : Bool) : State :=
  match o with
  | .holds f => s.setHoldTable f { s.holdTable f with pendingMark := m }
  | .fireRequests => s.setFire { s.fire with pendingMark := m }
  | .isolation => s.setBus { s.bus with pendingMark := m }

/-- Whether the store may begin an entry: not once a RESTART has nothing left to wait for in the store, since
what stands queued then joined after its pulse wait and is dropped (R178, R194; log entry 10). -/
def State.storeMayBegin (s : State) : Bool :=
  match s.restart with
  | some w => w.fixed != some 0
  | none => true

/-- Begin the head entry (R178): a port write carries its contents; an internal write takes the working state
and clears its owner's mark. -/
def State.beginHead (s : State) : State :=
  match s.store.queue with
  | [] => s
  | e :: rest =>
    if e.begun || !s.storeMayBegin then s
    else
      match e.job with
      | .port _ _ => s.setStore { s.store with queue := { e with begun := true } :: rest }
      | .internal o _ =>
        (s.setStore
          { s.store with
            queue := { job := .internal o (some (s.retain o)), begun := true } :: rest }).setPendingMark o false

/-- Queue an entry; an idle store begins it at once (R178). -/
def State.storeEnqueue (s : State) (j : StoreJob) : State :=
  (s.setStore { s.store with queue := s.store.queue ++ [{ job := j, begun := false }] }).beginHead

/-- Request a retention write: nothing under a store fault; nothing when the mark already stands; otherwise set
the mark and queue one internal write (R104, R126, R146). -/
def State.requestRetention (s : State) (o : RetentionOwner) : State :=
  if s.store.fault.isSome then s
  else if s.pendingMark o then s
  else (s.setPendingMark o true).storeEnqueue (.internal o none)

/-- The status of a change that a healthy store retains and a faulted one does not (R182). -/
def State.retainedStatus (s : State) (st : Status) : Status :=
  if s.store.fault.isSome then .acceptedVolatile else st

end Sys2Proof.Machine
end

