-- ==== Sys2Proof/Machine/Sequencer.lean ====
section
/-! DEFINITION. The reclose sequencer's own moves: entry into its states (R66, R67, R76, R77), the notice of a
placement (R83), parking and unparking under a hunt (R84, R85). What it does with the breaker interface's and the
protection unit's reports stands in Reclose.lean. -/

namespace Sys2Proof.Machine

/-- Enter LOCKOUT: the reason is recorded, a LOCKOUT record appended, the LOCKOUT flag set (R77). -/
def State.lockout (s : State) (f : Feeder) (reason : LockoutReason) (refusal : Option CloseRefusal) : State :=
  let q := s.sequencer f
  let e := s.effective f
  let t := s.setSequencer f
    { q with
      state := .lockout, phase := none, openTaken := false, manualClose := none, timer := none
      reason := some reason }
  (t.record f .recloseSequencer (.lockout reason q.shots q.cause e.level e.shotLimit refusal)).setFlag .lockout

/-- Enter OPEN with s at 0 and the mark clear (R71, R78, R81, R85). -/
def Sequencer.enterOpen (q : Sequencer) : Sequencer :=
  { q with state := .open, shots := 0, mark := false, phase := none, openTaken := false, timer := none }

/-- Enter RECLAIM with s at 0 and the switch-on-to-fault mark set (R76). -/
def Sequencer.enterReclaimMarked (q : Sequencer) (t : Timer) : Sequencer :=
  { q with state := .reclaim, shots := 0, mark := true, phase := none, manualClose := none, timer := some t }

/-- Enter HUNT from whatever state (R84). -/
def Sequencer.enterHunt (q : Sequencer) : Sequencer :=
  { q with
    state := .hunt, shots := 0, mark := false, phase := none, openTaken := false, manualClose := none
    timer := none }

/-- Leave HUNT by the stable position (R85). -/
def Sequencer.leaveHunt (stableClosed : Bool) (q : Sequencer) : Sequencer :=
  { q with state := if stableClosed then .inService else .open, shots := 0, mark := false }

/-- Change a feeder's sequencer. -/
def State.moveSequencer (s : State) (f : Feeder) (g : Sequencer → Sequencer) : State :=
  s.setSequencer f (g (s.sequencer f))

/-- The reclaim timer with the reclaim time of the active group, started now (R68). -/
def State.reclaimTimer (s : State) (f : Feeder) : Timer := s.timer (s.effective f).group.reclaim

/-- Enter RECLAIM with the mark (R76). -/
def State.enterReclaimMarked (s : State) (f : Feeder) : State :=
  s.moveSequencer f (·.enterReclaimMarked (s.reclaimTimer f))

/-- The sequencer takes a placement other than HUNT: in DEAD it locks out (R83). -/
def State.sequencerPlacement (s : State) (f : Feeder) : State :=
  if (s.sequencer f).state = .dead then s.lockout f .holdInDead none else s

/-- Set or clear the freeze mark of a feeder's protection unit (R36). -/
def State.setFreeze (s : State) (f : Feeder) (m : Bool) : State :=
  let u := s.unit f
  s.setUnit f { u with base := { u.base with frozen := m } }

/-- The HUNT placement: the freeze mark is set and the sequencer parks (R84, R92). -/
def State.park (s : State) (f : Feeder) : State :=
  (s.moveSequencer f Sequencer.enterHunt).setFreeze f true

/-- The HUNT removal: the sequencer leaves HUNT by the stable position and the freeze mark clears (R85, R92). -/
def State.unpark (s : State) (f : Feeder) : State :=
  (s.moveSequencer f (Sequencer.leaveHunt (s.breaker f).stableClosed)).setFreeze f false

end Sys2Proof.Machine
end

