-- ==== Sys2Proof/Machine/Holds.lean ====
section
/-! DEFINITION. The hold list (R88 to R92): queries, placements and removals, each handed on in R92's order, and
the automatic entries (R99 to R101). -/

namespace Sys2Proof.Machine

/-- The ceiling of a close purpose (R90). -/
def ClosePurpose.ceiling : ClosePurpose → Nat
  | .auto => 1
  | .remote => 2
  | .hunt => 2
  | .localClose => 3

/-- The close-permission query (R90): the first entry whose severity reaches the purpose's ceiling; none when the
close is permitted. -/
def barring (l : List Hold) (p : ClosePurpose) : Option Hold :=
  l.find? (fun h => decide (p.ceiling ≤ h.kind.severity))

/-- Whether an entry is the one of an owner and a tag (R89). -/
def Hold.isOf (o : Owner) (tag : Nat) (h : Hold) : Bool := h.owner == o && h.tag == tag

/-- Whether a list holds an entry of an owner. -/
def hasOwner (l : List Hold) (o : Owner) : Bool := l.any (fun h => h.owner == o)

/-- The source of a record that names a port, or the block that appends it (R172; log entry 14). -/
def sourceOf (p : Option Port) (b : Block) : RecordSource :=
  match p with
  | some p => .port p
  | none => .block b

/-- A placement or a refresh is handed on (R92 steps 2, 3 and 5): record and flag, the sequencer and for HUNT the
protection unit, the retention write of a master or PATROL entry. -/
def State.placed (s : State) (f : Feeder) (h : Hold) (refresh : Bool) (port : Option Port)
    (asker : Option Feeder) : State :=
  let d := Details.holdPlaced h refresh port (s.holdTable f).list.length asker
  let t := (s.append (some f) (sourceOf port .holdTable) d).setFlag .holds
  let u := if h.owner = .hunt then t.park f else t.sequencerPlacement f
  if h.isRetained then u.requestRetention (.holds f) else u

/-- A new entry joins the end of the list and is handed on (R92, R93). -/
def State.placeHold (s : State) (f : Feeder) (h : Hold) (port : Option Port) (asker : Option Feeder) : State :=
  let k := s.holdTable f
  (s.setHoldTable f { k with list := k.list ++ [h] }).placed f h false port asker

/-- A refresh replaces the entry in its place and is handed on (R94). -/
def State.refreshHold (s : State) (f : Feeder) (old new : Hold) (port : Port) : State :=
  let k := s.holdTable f
  (s.setHoldTable f { k with list := k.list.replace old new }).placed f new true (some port) none

/-- The first three steps of a removal (R92): the entry leaves the list, record and flag, the sequencer and for
HUNT the protection unit. The hunt engine is told, and the retention write requested, by the caller. -/
def State.takeOffHold (s : State) (f : Feeder) (h : Hold) (cause : RemovalCause) (port : Option Port) : State :=
  let k := s.holdTable f
  let t := s.setHoldTable f { k with list := k.list.erase h }
  let u := (t.append (some f) (sourceOf port .holdTable) (.holdRemoved h cause port)).setFlag .holds
  if h.owner = .hunt then u.unpark f else u

/-- An automatic entry: no tag, no expiry (R88). -/
def State.automaticHold (s : State) (o : Owner) (k : HoldKind) (reason : Nat) : Hold :=
  { owner := o, kind := k, tag := 0, reason := reason, expiry := none, stamp := s.stamp }

/-- A placement of an automatic entry: an entry already there stays as it is (R99, R100, R101). -/
def State.placeAutomatic (s : State) (f : Feeder) (o : Owner) (k : HoldKind) (asker : Option Feeder) : State :=
  if hasOwner (s.holdTable f).list o then s else s.placeHold f (s.automaticHold o k 0) none asker

/-- The FIRE placement (R99). -/
def State.placeFire (s : State) (f : Feeder) : State := s.placeAutomatic f .fire .reclose none

/-- The HUNT placement (R100). -/
def State.placeHunt (s : State) (f : Feeder) : State := s.placeAutomatic f .hunt .reclose none

/-- The PATROL placement on one feeder's list, asked for by a feeder's trip (R101). -/
def State.placePatrolOn (s : State) (asker f : Feeder) : State :=
  s.placeAutomatic f .patrol .all (some asker)

/-- The PATROL placement of a feeder and, in order of feeder number, of its corridor (R101). -/
def State.placePatrol (s : State) (f : Feeder) : State :=
  let c := (s.holdTable f).corridor
  (allFeeders.filter (fun g => feederGet c g && g != f)).foldl (fun t g => t.placePatrolOn f g)
    (s.placePatrolOn f f)

/-- The HUNT removal (R100): steps 1 to 3 of R92; the entry is not retained. -/
def State.removeHunt (s : State) (f : Feeder) : State :=
  match (s.holdTable f).list.find? (fun h => h.owner == .hunt) with
  | some h => s.takeOffHold f h .huntEnd none
  | none => s

/-- The retention write after a removal (R92 step 5). -/
def State.retainAfter (s : State) (f : Feeder) (h : Hold) : State :=
  if h.isRetained then s.requestRetention (.holds f) else s

end Sys2Proof.Machine
end

