-- ==== Sys2Proof/Machine/Reclose.lean ====
section
/-! DEFINITION. What the reclose sequencer does with reports (R69 to R85): the protection unit's trip reports, the
breaker interface's outcomes, grants and refusals, unexpected movements, and the decision at a confirmed trip. -/

namespace Sys2Proof.Machine

/-- The dead time of the shot that follows s shots (R71). -/
def SettingGroup.deadTime (g : SettingGroup) : Nat → Nat
  | 0 => g.dead1
  | 1 => g.dead2
  | 2 => g.dead3
  | _ => g.dead4

/-- The dead time that the next DEAD would use (R86; log entry 56, DEDUCED): that of the shot after the count s which the
sequencer would enter DEAD with. A sequence in progress keeps s, and raises it by 1 at the grant of the close it still
waits for (R69, R73); an open taken or held, and every other state, has the next sequence begin at 0. -/
def SettingGroup.nextDeadTime (g : SettingGroup) (q : Sequencer) : Nat :=
  let s :=
    match q.state with
    | .tripping => if q.openTaken then 0 else q.shots
    | .dead => q.shots + 1
    | .reclosing =>
      if q.phase = some .granted then q.shots else if q.pendingOpen = [] then q.shots + 1 else 0
    | .reclaim => q.shots
    | _ => 0
  g.deadTime (if s < 4 then s else 0)

/-- Test 5 of R71: whether the last trip cause may reclose. -/
def Effective.mayReclose (e : Effective) : Option Cause → Bool
  | none => false
  | some .sef => e.sefReclose
  | some _ => true

/-- Whether the sequencer is in RECLOSING with a close phase. -/
def Sequencer.reclosingIn (q : Sequencer) (ph : ClosePhase) : Bool :=
  q.state == .reclosing && q.phase == some ph

/-- The decision of R71 between DEAD and LOCKOUT; the mark is cleared in either outcome. -/
def State.decideReclose (s : State) (f : Feeder) : State :=
  let q := s.sequencer f
  let e := s.effective f
  let t := s.setSequencer f { q with mark := false }
  if q.mark then t.lockout f .switchOnToFault none
  else if e.patrol then t.lockout f .patrol none
  else if (s.holdTable f).list ≠ [] then t.lockout f .hold none
  else if ¬ q.shots < e.shotLimit then t.lockout f .shots none
  else if !e.mayReclose q.cause then t.lockout f .cause none
  else
    s.setSequencer f
      { q with
        state := .dead, mark := false, phase := none, openTaken := false
        timer := some (s.timer (e.group.deadTime q.shots)) }

/-- The PATROL placement of R71 and R79, when the patrol flag of the level's record is set. -/
def State.patrolIfDue (s : State) (f : Feeder) : State :=
  if (s.effective f).patrol then s.placePatrol f else s

/-- The confirmation of a protection trip in TRIPPING (R71). DESIGN CHOICE (log entry 66), unsafe: every PATROL placement is
made, with the records it causes, before the sequencer's own decision and its LOCKOUT record. -/
def State.confirmTrip (s : State) (f : Feeder) : State :=
  let t := s.patrolIfDue f
  if (s.sequencer f).openTaken then t.moveSequencer f Sequencer.enterOpen else t.decideReclose f

/-- Entry into TRIPPING from IN_SERVICE, RECLAIM or RECLOSING (R69): from IN_SERVICE s becomes 0; from RECLAIM
and RECLOSING it is kept, and so is the mark. -/
def Sequencer.enterTripping (cause : Option Cause) (q : Sequencer) : Sequencer :=
  { q with
    state := .tripping, cause := cause, phase := none, openTaken := false, timer := none
    shots := if q.state = .inService then 0 else q.shots }

/-- Whether a protection trip takes the sequencer to TRIPPING (R69). -/
def Sequencer.takesTrip (q : Sequencer) : Bool :=
  q.state == .inService || q.state == .reclaim || q.reclosingIn .granted

/-- The protection unit's report of a trip request (R69). In TRIPPING the cause is recorded when none is. -/
def State.protectionReport (s : State) (f : Feeder) (c : Cause) : State :=
  let q := s.sequencer f
  if q.takesTrip then s.setSequencer f (q.enterTripping (some c))
  else if q.state = .tripping ∧ q.cause = none then s.setSequencer f { q with cause := some c }
  else s

/-- The end of a trip in TRIPPING, with the outcome's cause recorded when none is (R70). -/
def State.endTripping (s : State) (f : Feeder) (cause : Option Cause) : State :=
  let q := s.sequencer f
  (s.setSequencer f { q with cause := q.cause.or cause }).confirmTrip f

/-- An outcome TRIP_CONFIRMED (R70, R79, R85). `protection`: the operation's purposes include PROTECTION. DESIGN CHOICE
(log entry 55), unsafe: R85 takes a trip of the hunt engine in IN_SERVICE or RECLAIM to OPEN; the model takes one of any
requester without PROTECTION there, a MANUAL-OPEN's that ended a hunt among them. In FAILED the PATROL placements come
before the LOCKOUT record (log entry 66). -/
def State.seqTripConfirmed (s : State) (f : Feeder) (protection : Bool) (cause : Option Cause) : State :=
  let q := s.sequencer f
  if q.state = .tripping then s.endTripping f cause
  else if q.state = .failed then
    (if protection then s.patrolIfDue f else s).lockout f .breakerFail none
  else if protection && q.takesTrip then (s.setSequencer f (q.enterTripping cause)).confirmTrip f
  else if q.state = .inService ∨ q.state = .reclaim then s.setSequencer f q.enterOpen
  else s

/-- An answer ALREADY_OPEN (R63, R70): only one to PROTECTION ends or makes a trip. -/
def State.seqAlreadyOpen (s : State) (f : Feeder) (protection : Bool) (cause : Option Cause) : State :=
  let q := s.sequencer f
  if !protection then s
  else if q.state = .tripping then s.endTripping f cause
  else if q.takesTrip then (s.setSequencer f (q.enterTripping cause)).confirmTrip f
  else s

/-- An outcome BREAKER_FAIL (R79). Nothing stays held outside RECLOSING phase ASKED (R67). -/
def State.seqBreakerFail (s : State) (f : Feeder) : State :=
  let q := s.sequencer f
  if q.state = .hunt then s
  else
    s.setSequencer f
      { q with
        state := .failed, phase := none, pendingOpen := [], openTaken := false, manualClose := none, timer := none }

/-- A LATE_OPEN report (R79). -/
def State.seqLateOpen (s : State) (f : Feeder) : State :=
  let q := s.sequencer f
  if q.state = .failed ∨ q.state = .inService ∨ q.state = .reclaim then s.lockout f .breakerFail none else s

/-- Whether the sequencer stands in OPEN or LOCKOUT. -/
def Sequencer.standsOpen (q : Sequencer) : Bool := q.state == .open || q.state == .lockout

/-- An outcome CLOSE_CONFIRMED (R74 for AUTO; R76, R80 and R85 for the others). -/
def State.seqCloseConfirmed (s : State) (f : Feeder) (p : ClosePurpose) : State :=
  let q := s.sequencer f
  if p = .auto then
    if q.reclosingIn .granted then
      s.setSequencer f
        { q with state := .reclaim, mark := false, phase := none, timer := some (s.reclaimTimer f) }
    else s
  else if q.standsOpen then s.enterReclaimMarked f
  else s

/-- An outcome CLOSE_FAIL (R74 for AUTO, R80 for a manual close; one of a hunt close changes nothing, R85). -/
def State.seqCloseFail (s : State) (f : Feeder) (p : ClosePurpose) : State :=
  let q := s.sequencer f
  match p with
  | .auto => if q.reclosingIn .granted then s.lockout f .closeFail none else s
  | .hunt => s
  | _ => if q.standsOpen then s.lockout f .closeFail none else s

/-- An answer CUT (R69 for AUTO, R80 for a manual close). -/
def State.seqCut (s : State) (f : Feeder) (p : ClosePurpose) : State :=
  let q := s.sequencer f
  match p with
  | .auto => if q.reclosingIn .granted then s.setSequencer f (q.enterTripping none) else s
  | .hunt => s
  | _ => s.setSequencer f { q with manualClose := none }

/-- The grant of the AUTO close in RECLOSING with phase ASKED (R73): s rises by 1 and the phase is GRANTED; a
pending open takes the sequencer to OPEN, and its trip is passed by the caller. -/
def State.seqGrant (s : State) (f : Feeder) : State :=
  let q := s.sequencer f
  if q.reclosingIn .asked then
    let g := { q with shots := q.shots + 1, phase := some .granted }
    s.setSequencer f (if q.pendingOpen = [] then g else g.enterOpen)
  else s

/-- A refusal of the AUTO close in RECLOSING with phase ASKED (R73). -/
def State.seqRefused (s : State) (f : Feeder) (r : CloseRefusal) : State :=
  let q := s.sequencer f
  if q.reclosingIn .asked then
    if q.pendingOpen = [] then s.lockout f .closeRefused (some r) else s.setSequencer f q.enterOpen
  else s

/-- An unexpected movement (R81). -/
def State.seqUnexpected (s : State) (f : Feeder) (toOpen : Bool) : State :=
  let q := s.sequencer f
  if toOpen then
    if q.state = .inService ∨ q.state = .reclaim then s.setSequencer f q.enterOpen else s
  else if q.standsOpen || q.state == .dead then s.enterReclaimMarked f
  else s

end Sys2Proof.Machine
end

