-- ==== Sys2Proof/Machine/Breaker.lean ====
section
/-! DEFINITION. The breaker interface (R49 to R61): position decoding, coil outputs, the taking of a trip or close
request, and the records of an operation's end. Who is told of an outcome, and in which order (R63), stands in
Movements.lean. -/

namespace Sys2Proof.Machine

/-- The decoded position of the two contacts (R49). -/
def decode (c : Contacts) : Decoded :=
  match c.openMade, c.closedMade with
  | true, false => .open
  | false, true => .closed
  | false, false => .travel
  | true, true => .invalid

/-- The decoded position of a breaker interface. -/
def Breaker.decoded (b : Breaker) : Decoded := decode b.contacts

/-- The trip coil output: energised exactly while the slot holds a trip in PULSE or FAIL_PULSE (R52). -/
def Breaker.tripCoil (b : Breaker) : Bool :=
  match b.slot with
  | .trip op => op.phase == .pulse || op.phase == .failPulse
  | _ => false

/-- The close coil output: energised exactly while the slot holds a close in PULSE (R52). -/
def Breaker.closeCoil (b : Breaker) : Bool :=
  match b.slot with
  | .close op => op.phase == .pulse
  | _ => false

/-- The breaker-fail output (R57, R58). -/
def Breaker.breakerFailOutput (b : Breaker) : Bool := b.failed.isSome

/-- A coil pulse in flight (R65): a slot in PULSE or FAIL_PULSE. -/
def Breaker.pulsing (b : Breaker) : Bool := b.tripCoil || b.closeCoil

/-- Whether a coil pulse is in flight on any feeder (R65, R194). -/
def State.anyPulse (s : State) : Bool :=
  s.breakers.f1.pulsing || s.breakers.f2.pulsing || s.breakers.f3.pulsing || s.breakers.f4.pulsing

/-- The pulse length of a pulse code: 20 × 2^x ms (R52). -/
def pulseMs (x : Nat) : Nat := 20 * 2 ^ x

/-- One purpose as a set. -/
def TripPurpose.single : TripPurpose → TripPurposes
  | .protection => { protection := true, manual := false, hunt := false }
  | .manual => { protection := false, manual := true, hunt := false }
  | .hunt => { protection := false, manual := false, hunt := true }

/-- Two sets of purposes joined (R55). -/
def TripPurposes.join (a b : TripPurposes) : TripPurposes :=
  { protection := a.protection || b.protection, manual := a.manual || b.manual, hunt := a.hunt || b.hunt }

/-- A trip request: its purpose, its requester and, for PROTECTION, its cause (R52). -/
structure TripRequest where
  purpose : TripPurpose
  requester : Requester
  cause : Option Cause
  deriving DecidableEq, Repr

/-- How the breaker interface takes a trip request (R53 to R55): it starts a pulse, cuts a close to do so, joins a
trip in flight, or answers at once ALREADY_OPEN or, in FAIL_PULSE, BREAKER_FAIL. -/
inductive TripTaken where
  | started
  | cut (op : CloseOp)
  | joined
  | alreadyOpen
  | failed
  deriving DecidableEq, Repr

/-- A new trip operation with the request as its first requester; its times are fixed from the active group as it
stands (R52). -/
def State.newTrip (s : State) (f : Feeder) (r : TripRequest) (cut : Option CutClose) : TripOp :=
  let g := (s.effective f).group
  { purposes := r.purpose.single, requesters := [r.requester], cause := r.cause, phase := .pulse
    pulseLength := pulseMs g.pulseCode, confirmTime := g.tripConfirm, started := s.ms, cut := cut
    closedFirst := false }

/-- A request joined to a trip (R55). A requester that stands among the requesters already is not listed twice (log entry
43). -/
def TripOp.join (op : TripOp) (r : TripRequest) : TripOp :=
  { op with
    purposes := op.purposes.join r.purpose.single
    requesters := if op.requesters.contains r.requester then op.requesters else op.requesters ++ [r.requester]
    cause := op.cause.or r.cause }

/-- What a LATE_OPEN record will carry of a failed trip (R58). -/
def TripOp.asFailed (op : TripOp) : FailedTrip :=
  { purposes := op.purposes, requesters := op.requesters, cause := op.cause, started := op.started }

/-- The breaker interface takes a trip request (R53). -/
def State.tripRequest (s : State) (f : Feeder) (r : TripRequest) : State × TripTaken :=
  let b := s.breaker f
  match b.slot with
  | .close op =>
    (s.setBreaker f
      { b with
        slot := .trip (s.newTrip f r (some { purpose := op.purpose, requester := op.requester }))
        lastClose := some { outcome := .cut, time := s.time } }, .cut op)
  | .trip op =>
    let j := op.join r
    if op.phase = .failPulse then
      (s.setBreaker f { b with slot := .trip j, failed := some j.asFailed }, .failed)
    else (s.setBreaker f { b with slot := .trip j }, .joined)
  | .empty =>
    if b.stableClosed then (s.setBreaker f { b with slot := .trip (s.newTrip f r none) }, .started)
    else (s, .alreadyOpen)

/-- How the breaker interface takes a close request (R59): granted, its pulse begun, or refused, with the barring
entry for BARRED. -/
inductive CloseTaken where
  | granted
  | refused (r : CloseRefusal) (bar : Option Hold)
  deriving DecidableEq, Repr

/-- A new close operation; its times are fixed from the active group as it stands (R52). -/
def State.newClose (s : State) (f : Feeder) (p : ClosePurpose) (r : Requester) : CloseOp :=
  let g := (s.effective f).group
  { purpose := p, requester := r, phase := .pulse, pulseLength := pulseMs g.pulseCode
    confirmTime := g.closeConfirm, started := s.ms }

/-- The breaker interface takes a close request: BUSY, NOT_OPEN, BARRED, or the pulse begins (R59). -/
def State.closeRequest (s : State) (f : Feeder) (p : ClosePurpose) (r : Requester) : State × CloseTaken :=
  let b := s.breaker f
  if b.slot ≠ .empty then (s, .refused .busy none)
  else if b.stableClosed then (s, .refused .notOpen none)
  else
    match barring (s.holdTable f).list p with
    | some h => (s, .refused .barred (some h))
    | none => (s.setBreaker f { b with slot := .close (s.newClose f p r) }, .granted)

/-- The source of an operation's record: the port whose request came first, or the interface (log entry 14). -/
def requesterSource (rs : List Requester) : RecordSource :=
  match rs with
  | .master p :: _ => .port p
  | _ => .block .breakerInterface

/-- The record and state change of TRIP_CONFIRMED (R56, R58): the slot empties, the TRIP record is appended, the
TRIP flag set, and a breaker-fail output that stood is released with it. -/
def State.tripConfirmedRecord (s : State) (f : Feeder) (op : TripOp) : State :=
  let b := s.breaker f
  let t := s.setBreaker f
    { b with slot := .empty, lastTrip := some { outcome := .tripConfirmed, time := s.time } }
  let u := (t.append (some f) (requesterSource op.requesters)
    (.trip false op.purposes op.cause op.requesters op.cut op.closedFirst (elapsed s.ms op.started))).setFlag .trip
  u.setBreaker f { u.breaker f with failed := none }

/-- The record and state change of BREAKER_FAIL (R57): the output is asserted; in PULSE the pulse runs on as
FAIL_PULSE, in CONFIRM_WAIT the slot empties. -/
def State.breakerFailRecord (s : State) (f : Feeder) (op : TripOp) : State :=
  let b := s.breaker f
  let t := s.setBreaker f
    { b with
      slot := if op.phase = .pulse then .trip { op with phase := .failPulse } else .empty
      failed := some op.asFailed
      lastTrip := some { outcome := .breakerFail, time := s.time } }
  (t.append (some f) (requesterSource op.requesters)
    (.breakerFail op.purposes op.cause op.requesters op.cut b.decoded (elapsed s.ms op.started))).setFlag .trip

/-- The record and state change of a late open (R58): the output is released, a TRIP record marked LATE_OPEN is
appended and the TRIP flag set. -/
def State.lateOpenRecord (s : State) (f : Feeder) (x : FailedTrip) : State :=
  let t := s.setBreaker f { s.breaker f with failed := none }
  (t.append (some f) (requesterSource x.requesters)
    (.trip true x.purposes x.cause x.requesters none false (elapsed s.ms x.started))).setFlag .trip

/-- The record and state change of CLOSE_CONFIRMED (R60). -/
def State.closeConfirmedRecord (s : State) (f : Feeder) (op : CloseOp) : State :=
  let b := s.breaker f
  let t := s.setBreaker f
    { b with slot := .empty, lastClose := some { outcome := .closeConfirmed, time := s.time } }
  (t.append (some f) (requesterSource [op.requester])
    (.close op.purpose op.requester (elapsed s.ms op.started))).setFlag .trip

/-- The record and state change of CLOSE_FAIL (R61). -/
def State.closeFailRecord (s : State) (f : Feeder) (op : CloseOp) : State :=
  let b := s.breaker f
  let t := s.setBreaker f
    { b with slot := .empty, lastClose := some { outcome := .closeFail, time := s.time } }
  (t.append (some f) (requesterSource [op.requester])
    (.closeFail op.purpose op.requester b.decoded)).setFlag .trip

/-- The record and flag of an unexpected movement (R62). -/
def State.unexpectedRecord (s : State) (f : Feeder) (toOpen : Bool) (before after : Decoded) : State :=
  (s.record f .breakerInterface (.unexpectedMove toOpen before after)).setFlag .trip

/-- The kind of the operation in flight, if any. -/
def Slot.kind : Slot → Option OpKind
  | .empty => none
  | .trip _ => some .trip
  | .close _ => some .close

/-- Set the position-fault alarm with its record and flag (R50, R51). DESIGN CHOICE (log entry 51), unsafe: of the
operation in flight, which R50 has the record carry without naming its fields, the record carries the kind alone. -/
def State.positionFault (s : State) (f : Feeder) : State :=
  let b := s.breaker f
  let t := s.setBreaker f { b with alarm := true, faultTimer := none }
  (t.record f .breakerInterface (.positionFault false b.stableClosed b.slot.kind)).setFlag .trip

/-- Clear a standing position-fault alarm with its record (R50). -/
def State.clearPositionFault (s : State) (f : Feeder) : State :=
  let b := s.breaker f
  if b.alarm then
    (s.setBreaker f { b with alarm := false }).record f .breakerInterface
      (.positionFault true b.stableClosed b.slot.kind)
  else s

end Sys2Proof.Machine
end

