-- ==== Sys2Proof/Machine/Bus.lean ====
section
/-! DEFINITION. The line bus controller (R129 to R148): its states, the transmit queue, the frames it sends and
judges, the unit records, completion and its handing on (R138 steps 1 to 4), the hunt engine's offer and
withdrawal (R142). What the hunt engine does when it is told stands in Hunt.lean and Movements.lean. -/

namespace Sys2Proof.Machine

/-! ### States and the transmit queue -/

/-- The bus enters a state now; `sent` holds the characters the part sends there. -/
def State.enterBus (s : State) (st : BusState) (sent : List Byte) : State :=
  s.setBus { s.bus with state := st, since := s.ms, mismatch := none, ackTimer := none, sent := sent }

/-- The priority of an entry (R137). -/
def busPriority (src : EntrySource) (k : UnitCommandKind) : Nat :=
  match src, k with
  | .hunt, _ => 1
  | .master _, .query => 5
  | .master _, _ => 3

/-- The priority of an entry of the queue. -/
def BusEntry.priority (e : BusEntry) : Nat := busPriority e.source e.kind

/-- Whether an entry is the hunt engine's. -/
def BusEntry.isHunt (e : BusEntry) : Bool := e.source == .hunt

/-- A new entry joins behind the entries of its own priority and ahead of those of lower priority (R137). -/
def busInsert (e : BusEntry) : List BusEntry → List BusEntry
  | [] => [e]
  | x :: rest => if x.priority ≤ e.priority then x :: busInsert e rest else e :: x :: rest

/-- The number of master entries (R137, R145). -/
def masterEntries (q : List BusEntry) : Nat := q.countP (fun e => !e.isHunt)

/-- The head of the queue begins its preamble (R131, R132). -/
def State.startPreamble (s : State) : State :=
  match s.bus.queue with
  | [] => s
  | e :: rest => (s.setBus { s.bus with queue := { e with phase := .preamble } :: rest }).enterBus .preamble []

/-- A new entry, with no attempt made. DESIGN CHOICE (log entry 68), unsafe: one that joins the queue while a clamp is seen
has its clamp wait clear, since R139 gives the wait to the entries that stand in the queue when the clamp is recognised. -/
def State.newEntry (s : State) (src : EntrySource) (a : Nat) (k : UnitCommandKind) : BusEntry :=
  { source := src, address := a, kind := k, attempts := 0, queuedAt := s.ms, clampWait := false
    phase := .waiting }

/-- An entry joins the queue; from IDLE the part enters PREAMBLE in the same event (R131, R137). -/
def State.busEnqueue (s : State) (e : BusEntry) : State :=
  let t := s.setBus { s.bus with queue := busInsert e s.bus.queue }
  if s.bus.state = .idle then t.startPreamble else t

/-- Put every entry that is in the given phase back to waiting (R132, R139). -/
def backToWaiting (ph : EntryPhase) (q : List BusEntry) : List BusEntry :=
  q.map (fun e => if e.phase = ph then { e with phase := .waiting } else e)

/-- The entry in preamble becomes the transaction in flight (R132). -/
def preambleToFlight (q : List BusEntry) : List BusEntry :=
  q.map (fun e => if e.phase = .preamble then { e with phase := .inFlight } else e)

/-- The transaction in flight, if any. -/
def Bus.inFlight (b : Bus) : Option BusEntry := b.queue.find? (fun e => e.phase == .inFlight)

/-- The hunt engine's entry, if it stands in the queue. -/
def Bus.huntEntry (b : Bus) : Option BusEntry := b.queue.find? BusEntry.isHunt

/-! ### Frames (R130, R199) -/

/-- The data characters of a command: OPEN and CLOSE name the source of the entry (R130). -/
def BusEntry.data (e : BusEntry) : List Byte :=
  match e.kind with
  | .open => u8 e.source.code
  | .close => u8 e.source.code
  | .query => []
  | .clearIndication => []

/-- The characters of a command frame: kind, destination, source 0, length, data, check (R130, R199). -/
def BusEntry.chars (e : BusEntry) : List Byte :=
  let body := u8 e.kind.code ++ u8 e.address ++ u8 0 ++ u8 e.data.length ++ e.data
  body ++ [crc8 body]

/-- The part's reply to a REPORT: a status character of ACK without data, and its check (R134, R199). -/
def ackChars : List Byte := let body := u8 0x30; body ++ [crc8 body]

/-- Whether the last character of a frame is the CRC-8 over the others. -/
def checkMatches (chars : List Byte) : Bool :=
  match chars.getLast? with
  | some c => crc8 chars.dropLast == c
  | none => false

/-- The switch state of a unit byte: bits 1..0; the value 3 is read as UNKNOWN (R199). -/
def switchOf (b : Byte) : SwitchState :=
  match b.toNat % 4 with
  | 1 => .open
  | 2 => .closed
  | _ => .unknown

/-- What a unit's frame carries: the unit byte and the condition byte, each when present (R135). -/
structure UnitWord where
  unit : Option Byte
  condition : Option Byte
  deriving DecidableEq, Repr

/-- How a reply is judged (R134): the outcome, and the data that update the record when its check matches. -/
structure ReplyJudged where
  outcome : CompletionCode
  carried : Option UnitWord
  deriving DecidableEq, Repr

/-- The judgement of a complete reply (R134, R199). A reply of any status with a matching check and a data count of
0 to 2 updates the record (log entry 23). -/
def judgeReply (chars : List Byte) (framing : Bool) : ReplyJudged :=
  let st := (chars.getD 0 0).toNat
  let n := st % 4
  if framing || !checkMatches chars || n == 3 || chars.length != n + 2 then
    { outcome := .checkFail, carried := none }
  else
    let w : UnitWord :=
      { unit := if n = 0 then none else some (chars.getD 1 0)
        condition := if n < 2 then none else some (chars.getD 2 0) }
    { outcome := if st / 16 = 1 then .done else if st / 16 = 2 then .refusedByUnit else .checkFail
      carried := some w }

/-- A REPORT that is taken: its source and its two data bytes (R134, R135). -/
structure ReportTaken where
  source : Nat
  unit : Byte
  condition : Byte
  deriving DecidableEq, Repr

/-- The judgement of a frame heard in LISTENING: none when it is discarded (R134, R199). A REPORT of a length other
than 2 is discarded (log entry 24). Bits 7..5 of the addresses are unused and ignored (R195). -/
def judgeReport (chars : List Byte) (framing : Bool) : Option ReportTaken :=
  let kind := (chars.getD 0 0).toNat
  let dest := (chars.getD 1 0).toNat % 32
  let source := (chars.getD 2 0).toNat % 32
  let len := (chars.getD 3 0).toNat
  if framing || !checkMatches chars || chars.length != 7 || len != 2 || dest != 0 || source == 0 ||
      !(decide (0x10 ≤ kind) && decide (kind ≤ 0x13)) then none
  else some { source := source, unit := chars.getD 4 0, condition := chars.getD 5 0 }

/-! ### The wire (R129 to R132, R199) -/

/-- What the bus reads while two stations drive it: ACTIVE dominates (R129). -/
def WireLevel.dominate : WireLevel → WireLevel → WireLevel
  | .passive, .passive => .passive
  | _, _ => .active

/-- The level of a bit: 0 is ACTIVE (R129). -/
def bitLevel (b : Bool) : WireLevel := if b then .passive else .active

/-- The levels of a character, one for each bit time: the start bit, the data bits least significant first, the stop bit
(R129, R199). -/
def characterLevels (c : Byte) : List WireLevel :=
  .active :: (List.range 8).map (fun i => bitLevel (c.getLsbD i)) ++ [.passive]

/-- Whether the ten levels of a character hold a framing error: the stop bit reads ACTIVE (R129). -/
def framingError (levels : List WireLevel) : Bool := levels.getD 9 .active == .active

/-- The levels of a preamble: the sync slot, then the priority, most significant bit first (R130, R132). -/
def preambleLevels (priority : Nat) : List WireLevel :=
  [.active, bitLevel (priority.testBit 2), bitLevel (priority.testBit 1), bitLevel (priority.testBit 0)]

/-- The entry in preamble, if any. -/
def Bus.contending (b : Bus) : Option BusEntry := b.queue.find? (fun e => e.phase == .preamble)

/-- The levels the part sends in its preamble and in its frames. -/
def Bus.levels (b : Bus) : List WireLevel :=
  match b.state with
  | .preamble =>
    match b.contending with
    | some e => preambleLevels e.priority
    | none => []
  | _ => b.sent.flatMap characterLevels

/-- What the part's driver does (R131): per slot in PREAMBLE, per bit in SENDING and ACKING until an echo mismatch
releases it (R133), ACTIVE in CLAMP_OUT, released in every other state. -/
def Bus.driver (b : Bus) : Driver :=
  match b.state with
  | .preamble => .levels b.levels
  | .sending => if b.mismatch.isSome then .released else .levels b.levels
  | .acking => if b.mismatch.isSome then .released else .levels b.levels
  | .clampOut => .clamping
  | .gap => .released
  | .idle => .released
  | .replyWait => .released
  | .listening => .released
  | .clampIn => .released
  | .stuck => .released

/-! ### Unit records (R135, R136, R143) -/

/-- The health of a record (R143). -/
def UnitRecord.health (r : UnitRecord) : Health :=
  if r.silent then .silent else if r.localLock then .localLock else .ok

/-- The record after a frame from the unit: contact, unit byte, condition byte (R135 steps 1 to 3). -/
def UnitRecord.heard (r : UnitRecord) (now : Stamp) (w : UnitWord) : UnitRecord :=
  let a := { r with lastContact := some now, silent := false }
  let b :=
    match w.unit with
    | some u => { a with switch := switchOf u, faultPassed := u.toNat.testBit 4 }
    | none => a
  match w.condition with
  | some c => { b with localLock := c.toNat.testBit 0, batteryLow := c.toNat.testBit 1 }
  | none => b

/-- Whether a change of a record sets the LINEBUS flag (R135). -/
def unitNews (old new : UnitRecord) : Bool :=
  (!old.faultPassed && new.faultPassed) ||
    ((old.health == .localLock) != (new.health == .localLock)) ||
    (!old.batteryLow && new.batteryLow) || (old.silent && !new.silent)

/-- The record of a unit takes a frame (R135). -/
def State.unitHeard (s : State) (a : Nat) (w : UnitWord) : State :=
  let old := s.unitRecord a
  let new := old.heard s.stamp w
  let t := s.updateUnit a (fun _ => new)
  if unitNews old new then t.setFlag .linebus else t

/-- Whether a reported state is a switch move (R136). -/
def isMove (old new : SwitchState) : Bool := new != .unknown && old != .unknown && old != new

/-- Whether an entry of the queue asks for a state of an address (R136). -/
def BusEntry.explains (a : Nat) (st : SwitchState) (e : BusEntry) : Bool :=
  e.address == a && ((e.kind == .open && st == .open) || (e.kind == .close && st == .closed))

/-- The controller takes a REPORT (R135, R136): the record, and at an unexplained move the LINEBUS flag and, for a
unit of the feeder of a hunt, the order index the hunt engine is told. -/
def State.takeReport (s : State) (r : ReportTaken) : State × Option Nat :=
  let old := s.unitRecord r.source
  let t := s.unitHeard r.source { unit := some r.unit, condition := some r.condition }
  let new := switchOf r.unit
  if isMove old.switch new && !s.bus.queue.any (BusEntry.explains r.source new) then
    (t.setFlag .linebus,
      match old.place with
      | some p => if s.huntOn p.feeder then some p.index else none
      | none => none)
  else (t, none)

/-- Set or clear the isolated flag of an address, with the LINEBUS flag and the retention write of a change
(R146, R161). -/
def State.setIsolated (s : State) (a : Nat) (v : Bool) : State :=
  if (s.unitRecord a).isolated = v then s
  else ((s.updateUnit a (fun r => { r with isolated := v })).setFlag .linebus).requestRetention .isolation

/-! ### Attempts and completion (R138) -/

/-- The silent mark of a NO_REPLY completion, with its record when the mark was clear (R138 step 2). -/
def State.markSilent (s : State) (e : BusEntry) : State :=
  let r := s.unitRecord e.address
  if r.silent then s
  else
    (s.updateUnit e.address (fun r => { r with silent := true })).append (r.place.map UnitPlace.feeder)
      (match e.source with
        | .master p => .port p
        | .hunt => .block .lineBusController)
      (.unitSilent e.address r.place e.source e.kind)

/-- A completed entry is handed on, steps 2 to 4 (R138). Step 5, telling the hunt engine, is the caller's. -/
def State.busHandOn (s : State) (e : BusEntry) (c : CompletionCode) : State :=
  let wasSilent := (s.unitRecord e.address).silent
  let t := if c = .noReply then s.markSilent e else s
  let u :=
    if e.isHunt then t
    else
      t.updateUnit e.address (fun r =>
        { r with lastCommand := some { source := e.source, kind := e.kind, code := c, time := s.time } })
  if !e.isHunt || (c == .noReply && !wasSilent) then u.setFlag .linebus else u

/-- What the end of the attempt in flight leaves (R138). -/
inductive AttemptEnd where
  /-- No transaction of the part was in flight. -/
  | nothing
  /-- A failed attempt short of three: the entry waits again. -/
  | again (e : BusEntry)
  /-- The entry has completed and left the queue. -/
  | complete (e : BusEntry) (c : CompletionCode)
  deriving DecidableEq, Repr

/-- Whether an attempt's outcome is a failure that counts (R138). -/
def CompletionCode.isFailure : CompletionCode → Bool
  | .noReply => true
  | .checkFail => true
  | .echoFail => true
  | _ => false

/-- The attempt in flight ends (R138): a third failure or any other outcome completes the entry, which leaves the
queue and is handed on; an earlier failure is counted and the entry waits in its place. The bus enters GAP. -/
def State.endAttempt (s : State) (c : CompletionCode) : State × AttemptEnd :=
  let g := s.enterBus .gap []
  match s.bus.inFlight with
  | none => (g, .nothing)
  | some e =>
    if c.isFailure && decide (e.attempts + 1 < 3) then
      let e' := { e with attempts := e.attempts + 1, phase := .waiting }
      (g.setBus { g.bus with queue := g.bus.queue.replace e e' }, .again e')
    else
      ((g.setBus { g.bus with queue := g.bus.queue.erase e }).busHandOn e c, .complete e c)

/-! ### The hunt engine's entry (R142) -/

/-- The answer to the hunt engine's offer (R141, R142). -/
inductive Offer where
  /-- The entry has joined the queue. -/
  | taken
  /-- The bus is STUCK: the offer completes BUS_STUCK. -/
  | stuck
  /-- A hunt entry already stands, or no address stands at the order index (log entry 35). -/
  | busy
  deriving DecidableEq, Repr

/-- The hunt engine offers a command for an order index of its feeder (R142). -/
def State.offerHunt (s : State) (f : Feeder) (index : Nat) (k : UnitCommandKind) : State × Offer :=
  match s.addressAt f index with
  | none => (s, .busy)
  | some a =>
    if s.bus.huntEntry.isSome then (s, .busy)
    else if s.bus.state = .stuck then (s, .stuck)
    else (s.busEnqueue (s.newEntry .hunt a k), .taken)

/-- The answer to a withdrawal (R142). -/
inductive Withdrawal where
  | withdrawn
  | inFlight
  /-- No hunt entry stands. -/
  | absent
  deriving DecidableEq, Repr

/-- The hunt engine withdraws its entry (R142). A preamble in progress is broken off, and the part listens on
(log entry 20). -/
def State.withdrawHunt (s : State) : State × Withdrawal :=
  match s.bus.huntEntry with
  | none => (s, .absent)
  | some e =>
    if e.phase = .inFlight then (s, .inFlight)
    else
      let t := s.setBus { s.bus with queue := s.bus.queue.erase e }
      (if e.phase = .preamble then t.enterBus .listening [] else t, .withdrawn)

end Sys2Proof.Machine
end

