-- ==== Sys2Proof/Machine/Hunt.lean ====
section
/-! DEFINITION. The hunt engine (R149 to R170): the execution of blocks, what the engine does when it is told of a
completion, an answer, a window, a trip, a removal or a recomputation, and the end of a hunt.

A function that may go on to another block answers a `Go`: the state reached, and the block that begins next in
the same event, if any. `State.huntRun` carries the chain on until a block waits for an event or the hunt ends; the
step budget of R156 bounds it. -/

namespace Sys2Proof.Machine

/-- A state of the part, and the block the engine begins next in the same event, if any. -/
abbrev Go := State × Option Nat

/-! ### Blocks and tests (R149, R150, R159) -/

/-- The block being executed. -/
def State.currentBlock (s : State) : HuntBlock := s.huntBlock s.hunt.current

/-- Whether an action is a TEST action (R150). -/
def HuntAction.isTest : HuntAction → Bool
  | .testCloseUnit => true
  | .testCloseBreaker => true
  | _ => false

/-- Whether an action is a close action (R150). -/
def HuntAction.isClose : HuntAction → Bool
  | .closeUnit => true
  | .testCloseUnit => true
  | .closeBreaker => true
  | .testCloseBreaker => true
  | _ => false

/-- Whether an action needs a unit (R150). -/
def HuntAction.needsUnit : HuntAction → Bool
  | .openUnit => true
  | .closeUnit => true
  | .testCloseUnit => true
  | .mark => true
  | _ => false

/-- The largest number of windows a block observes (R149, R150). -/
def HuntBlock.maxWindows (b : HuntBlock) : Nat :=
  if b.action.isTest then (if b.repeats = 0 then 8 else b.repeats) else 1

/-- No condition true. -/
def noConditions : Conditions :=
  { sefSeen := false, ocSeen := false, trip := false, fpi := false, unitFail := false }

/-- Whether a condition of the block's test set is true. -/
def HuntBlock.anyTrue (b : HuntBlock) (c : Conditions) : Bool :=
  (b.tests.sefSeen && c.sefSeen) || (b.tests.ocSeen && c.ocSeen) || (b.tests.trip && c.trip) ||
    (b.tests.fpi && c.fpi) || (b.tests.unitFail && c.unitFail)

/-- The block's test by its sense (R149). -/
def HuntBlock.test (b : HuntBlock) (c : Conditions) : Bool :=
  if b.senseNone then !b.anyTrue c else b.anyTrue c

/-- The block a test chooses (R162). -/
def HuntBlock.next (b : HuntBlock) (test : Bool) : Nat := if test then b.nextTrue else b.nextFalse

/-- Change what the engine holds of the current block. -/
def State.setRun (s : State) (r : BlockRun) : State := s.setHunt { s.hunt with run := r }

/-- The record of the current block's unit, if its order index names one. -/
def State.huntUnit (s : State) (f : Feeder) : Option UnitRecord :=
  (s.addressAt f s.currentBlock.unit).map s.unitRecord

/-- Whether the current block's unit has the indication FAULT_PASSED in its record (R159). -/
def State.huntFpi (s : State) (f : Feeder) : Bool :=
  match s.huntUnit f with
  | some r => r.faultPassed
  | none => false

/-- Cancel an observation window (R45). -/
def State.cancelWindow (s : State) (f : Feeder) : State := s.setUnit f { s.unit f with window := none }

/-! ### The end of a hunt (R169, R170) -/

/-- What an end releases (R169): the line bus entry is withdrawn, or left outstanding when it is in flight; an open
window is cancelled. -/
def State.huntRelease (s : State) (f : Feeder) : State :=
  let w := s.withdrawHunt
  let t :=
    match w.2 with
    | .inFlight => w.1.setHunt { w.1.hunt with outstanding := true }
    | _ => w.1
  t.cancelWindow f

/-- The result record of the hunt in progress (R170). -/
def State.huntResult (s : State) (f : Feeder) (r : EndReason) (d : EndDetail) : HuntResult :=
  { feeder := f, reason := r, steps := s.hunt.steps, lastBlock := s.hunt.lastBlock, faulty := s.hunt.faulty
    detail := d, notes := s.hunt.notes, started := s.hunt.started, ended := s.time }

/-- The engine enters DONE with its result record; the pause timer, the pending detour and the pending insertion are
dropped and the lock set emptied (R169, R170 step 2). -/
def Hunt.done (h : Hunt) (r : HuntResult) : Hunt :=
  { h with
    state := .done, current := 0, phase := .acting, awaiting := .nothing, run := blockRunStart
    pauseTimer := none, insertion := none, pendingDetour := false, lockSet := [], result := some r
    abortPort := none }

/-- The hunt ends (R169, R170): HUNT removal, DONE with the result record, HUNT_END record and flag. -/
def State.huntFinish (s : State) (f : Feeder) (r : EndReason) (d : EndDetail) : State :=
  let t := (s.huntRelease f).removeHunt f
  let result := t.huntResult f r d
  ((t.setHunt (t.hunt.done result)).record f .huntEngine (.huntEnd result)).setFlag .hunt

/-- The hunt ends, and no block begins. -/
def State.huntOver (s : State) (f : Feeder) (r : EndReason) (d : EndDetail) : Go := (s.huntFinish f r d, none)

/-! ### Pauses and the choice of the next block (R156, R162 to R166) -/

/-- Enter PAUSED with reason STEP before a block (R162). -/
def State.stepPause (s : State) (b : Nat) : State :=
  s.setHunt
    { s.hunt with
      state := .paused, pauseReason := .step, pauseTimer := some (s.timer pauseMs), current := b
      phase := .acting, awaiting := .nothing, run := blockRunStart }

/-- Enter PAUSED with reason FIRE or HOLD: timer, record and flag (R156). A TRIP held for the block stays held, as the block
is to begin again (R158, R163; log entry 63). -/
def State.closePause (s : State) (f : Feeder) (r : PauseReason) : State :=
  let t := s.setHunt
    { s.hunt with
      state := .paused, pauseReason := r, pauseTimer := some (s.timer pauseMs), phase := .acting
      awaiting := .nothing, run := { blockRunStart with heldTrip := s.hunt.run.heldTrip } }
  (t.record f .huntEngine (.huntPaused s.hunt.current r)).setFlag .hunt

/-- Go on to a chosen block: with step mode on the engine pauses before it (R162). -/
def State.proceed (s : State) (b : Nat) : Go := if s.hunt.stepMode then (s.stepPause b, none) else (s, some b)

/-- Whether a detour cannot be taken: no detour chain, or an occupied return slot (R163). -/
def Hunt.detourBlocked (h : Hunt) : Bool := h.detourFirst == 0 || h.returnSlot.isSome

/-- The detour is taken with its natural next (R163): TRIPPED when it is blocked, else the natural next is saved and
the engine continues at the detour first. A pending insertion is dropped. -/
def State.takeDetour (s : State) (f : Feeder) (next : Nat) : Go :=
  let h := { s.hunt with pendingDetour := false, insertion := none }
  let t := s.setHunt h
  if h.detourBlocked then t.huntOver f .tripped .none
  else (t.setHunt { h with returnSlot := some { block := next, kind := .detour } }).proceed h.detourFirst

/-- The choice of the next block at a completion (R162): a pending detour, else a pending insertion, else the chosen
pointer, where 0 ends the hunt. -/
def State.chooseNext (s : State) (f : Feeder) (next : Nat) : Go :=
  let h := s.hunt
  if h.pendingDetour then s.takeDetour f next
  else
    match h.insertion with
    | some i =>
      (s.setHunt
        { h with insertion := none, returnSlot := some { block := next, kind := .insertion } }).proceed i
    | none => if next = 0 then s.huntOver f .finished .none else s.proceed next

/-- Whether a block's notify flag counts: for RETURN and END every field but the action is ignored (R150). -/
def HuntBlock.notifies (b : HuntBlock) : Bool := b.notify && b.action != .ret && b.action != .finish

/-- The trace record of the current block (R162). -/
def State.traceRecord (s : State) (o : BlockOutcome) (test : Bool) : TraceRecord :=
  let r := s.hunt.run
  { block := s.hunt.current, action := s.currentBlock.action, outcome := o, test := test, windows := r.windows
    sefSamples := r.sefSamples, securingTrip := r.securingTrip
    insertionDropped := o == .detour && s.hunt.insertion.isSome, time := s.time }

/-- The completion of the current block, steps 1 and 2 of R162. -/
def State.traceBlock (s : State) (f : Feeder) (o : BlockOutcome) (test : Bool) : State :=
  let r := s.traceRecord o test
  let h := s.hunt
  let t := s.setHunt { h with trace := h.trace ++ [r], steps := h.steps + 1, lastBlock := h.current }
  if s.currentBlock.notifies then (t.record f .huntEngine (.huntStep r)).setFlag .hunt else t

/-- The current block completes with a test result, and the next is chosen (R162). -/
def State.completeBlock (s : State) (f : Feeder) (o : BlockOutcome) (test : Bool) : Go :=
  (s.traceBlock f o test).chooseNext f (s.currentBlock.next test)

/-- The current block completes with outcome DETOUR (R163): its test is evaluated with TRIP true and UNIT_FAIL as its
action gave, and the detour is taken. -/
def State.detourBlock (s : State) (f : Feeder) : Go :=
  let failed := match s.hunt.run.outcome with | .unitFail _ => true | _ => false
  let test := s.currentBlock.test { noConditions with trip := true, unitFail := failed }
  let t := s.cancelWindow f
  (t.setHunt { t.hunt with pendingDetour := true }).completeBlock f .detour test

/-! ### Unit and breaker operations of the engine (R157, R158, R160) -/

/-- The outcome of an offer to the line bus controller: none when the entry has joined the queue. -/
def State.huntOffer (s : State) (f : Feeder) (k : UnitCommandKind) : State × Option FailCode :=
  let o := s.offerHunt f s.currentBlock.unit k
  match o.2 with
  | .taken => (o.1.setHunt { o.1.hunt with awaiting := .unit }, none)
  | .stuck => (o.1, some (.completion .busStuck))
  | .busy => (o.1, some .busy)

/-- A close that a trip has cut is answered to a master and reported to the sequencer (R54, R63). -/
def State.tellCut (s : State) (f : Feeder) (op : CloseOp) : State :=
  let t :=
    match op.requester with
    | .master p => s.reply p .cut
    | _ => s
  t.seqCut f op.purpose

/-- The engine's trip request (R158, R160). -/
def State.huntTrip (s : State) (f : Feeder) : State × TripTaken :=
  let r := s.tripRequest f { purpose := .hunt, requester := .hunt, cause := none }
  match r.2 with
  | .cut op => (r.1.tellCut f op, r.2)
  | _ => r

/-- The engine's trip joined in FAIL_PULSE is answered BREAKER_FAIL at once (R55): the hunt ends (R158), and the sequencer
takes the outcome last (R63, R79; log entry 54). -/
def State.huntTripFailed (s : State) (f : Feeder) : Go :=
  ((s.huntFinish f .breakerFailed (.breakerAnswer .breakerFail)).seqBreakerFail f, none)

/-- Whether the engine goes on waiting for its trip. -/
def State.awaitTrip (s : State) : Go := (s.setHunt { s.hunt with awaiting := .trip }, none)

/-- Phase SECURING (R160): what a TEST action closed is opened again. -/
def State.huntSecure (s : State) (f : Feeder) : Go :=
  let t := s.setHunt { s.hunt with phase := .securing, awaiting := .nothing }
  if s.currentBlock.action = .testCloseUnit then
    if (t.huntUnit f).map UnitRecord.switch = some .open then t.completeBlock f t.hunt.run.outcome true
    else
      let o := t.huntOffer f .open
      match o.2 with
      | none => (o.1, none)
      | some c => o.1.huntOver f .unitFailed (.unitCode c)
  else if !(t.breaker f).stableClosed then t.completeBlock f t.hunt.run.outcome true
  else
    let r := t.huntTrip f
    match r.2 with
    | .started => r.1.awaitTrip
    | .cut _ => r.1.awaitTrip
    | .joined => r.1.awaitTrip
    | .alreadyOpen => r.1.completeBlock f r.1.hunt.run.outcome true
    | .failed => r.1.huntTripFailed f

/-- A test has been decided (R159, R160): a true test of a TEST action passes the block to SECURING. -/
def State.testDecided (s : State) (f : Feeder) (test : Bool) : Go :=
  if test && s.currentBlock.action.isTest then s.huntSecure f
  else s.completeBlock f s.hunt.run.outcome test

/-! ### Observation (R159, R160) -/

/-- Open an observation window; a held TRIP passes to it (R159, R163). -/
def State.openWindow (s : State) (f : Feeder) : State :=
  let r := s.hunt.run
  let t := s.setHunt
    { s.hunt with phase := .observing, awaiting := .nothing, run := { r with windowTrip := r.heldTrip, heldTrip := false } }
  t.setUnit f
    { t.unit f with
      window := some { length := s.currentBlock.window, samples := 0, sefSamples := 0, pickupSamples := 0 } }

/-- Count a closed window with its SEF samples (R162). -/
def State.countWindow (s : State) (sef : Nat) : State :=
  let r := s.hunt.run
  s.setHunt
    { s.hunt with
      phase := .observing, awaiting := .nothing
      run := { r with windows := r.windows + 1, sefSamples := sef, windowTrip := false } }

/-- Observe up to n more windows (R159, R160). A window of length 0 closes as it opens, with every count 0. -/
def huntObserve (f : Feeder) : Nat → State → Go
  | 0, s => s.testDecided f false
  | n + 1, s =>
    if s.currentBlock.window = 0 then
      let t := s.countWindow 0
      if s.currentBlock.test { noConditions with fpi := s.huntFpi f } then t.testDecided f true
      else huntObserve f n t
    else (s.openWindow f, none)

/-- The protection unit reports a closed window (R45, R159, R160). -/
def State.windowClosed (s : State) (f : Feeder) (w : WindowReport) : Go :=
  let b := s.currentBlock
  let c : Conditions :=
    { sefSeen := decide (w.quorum ≤ w.sefSamples), ocSeen := decide (1 ≤ w.pickupSamples)
      trip := s.hunt.run.windowTrip, fpi := s.huntFpi f, unitFail := false }
  let t := s.countWindow w.sefSamples
  if b.test c then t.testDecided f true
  else huntObserve f (b.maxWindows - t.hunt.run.windows) t

/-! ### Acting (R156 to R158) -/

/-- The current block's action has ended without a failure: a pending detour is taken, or the block observes
(R158, R159, R163). -/
def State.actionEnded (s : State) (f : Feeder) (o : BlockOutcome) : Go :=
  let t := s.setHunt { s.hunt with awaiting := .nothing, run := { s.hunt.run with outcome := o } }
  if t.hunt.pendingDetour then t.detourBlock f else huntObserve f t.currentBlock.maxWindows t

/-- The current block's unit action has failed (R157). -/
def State.unitFailed (s : State) (f : Feeder) (c : FailCode) : Go :=
  let t := s.setHunt { s.hunt with awaiting := .nothing, run := { s.hunt.run with outcome := .unitFail c } }
  let b := t.currentBlock
  if b.tests.unitFail then
    if t.hunt.pendingDetour then t.detourBlock f
    else t.testDecided f (b.test { noConditions with unitFail := true, trip := t.hunt.run.heldTrip })
  else t.huntOver f .unitFailed (.unitCode c)

/-- A unit action (R157): a CLOSE to an isolated unit is not offered. -/
def State.actUnit (s : State) (f : Feeder) (k : UnitCommandKind) : Go :=
  if k = .close ∧ (s.huntUnit f).map UnitRecord.isolated = some true then s.unitFailed f .isolated
  else
    let o := s.huntOffer f k
    match o.2 with
    | none => (o.1, none)
    | some c => o.1.unitFailed f c

/-- OPEN-BREAKER (R158). -/
def State.actOpenBreaker (s : State) (f : Feeder) : Go :=
  let r := s.huntTrip f
  match r.2 with
  | .started => r.1.awaitTrip
  | .cut _ => r.1.awaitTrip
  | .joined => r.1.awaitTrip
  | .alreadyOpen => r.1.actionEnded f .done
  | .failed => r.1.huntTripFailed f

/-- A stopping hunt ends: nothing of it remains in flight (R167). The abort is what causes the end's records (R172). -/
def State.huntAborted (s : State) (f : Feeder) : State :=
  match s.hunt.abortPort with
  | some p => s.causedBy p (fun s => s.huntFinish f .aborted (.port p))
  | none => s.huntFinish f .aborted .none

/-- The refusal of the engine's close, while RUNNING (R158): NOT_OPEN ends the action, BARRED withdraws it, and BUSY ends it
when a trip has been taken while it was in flight, and else the hunt. -/
def State.huntRefused (s : State) (f : Feeder) : CloseRefusal → Go
  | .notOpen => s.actionEnded f .done
  | .barred => (s.closePause f .hold, none)
  | .busy =>
    if s.hunt.run.heldTrip || s.hunt.pendingDetour then s.actionEnded f .cut
    else s.huntOver f .interfered (.interference .breaker)

/-- The engine is told whether its close pulse has begun (R158, R167), when it awaits that on the feeder: a pulse begun is
awaited to its outcome. -/
def State.huntCloseTaken (s : State) (f : Feeder) (c : CloseTaken) : Go :=
  if s.hunt.awaiting ≠ .ask ∨ s.hunt.feeder ≠ some f then (s, none)
  else
    match c with
    | .granted => (s.setHunt { s.hunt with awaiting := .close }, none)
    | .refused r _ =>
      if s.hunt.state = .running then s.huntRefused f r
      else if s.hunt.state = .stopping then (s.huntAborted f, none)
      else (s, none)

/-- The breaker interface takes the engine's close request (R59, R158). -/
def State.takeHuntClose (s : State) (f : Feeder) : Go :=
  let r := (s.setBreaker f { s.breaker f with huntAsk := false }).closeRequest f .hunt .hunt
  r.1.huntCloseTaken f r.2

/-- The engine sends its close request, which stands at the breaker interface until it is taken (R158). -/
def State.sendHuntClose (s : State) (f : Feeder) : State :=
  (s.setHunt { s.hunt with awaiting := .ask, asks := s.hunt.asks + 1 }).setBreaker f
    { s.breaker f with huntAsk := true }

/-- CLOSE-BREAKER and TEST-CLOSE-BREAKER (R158). Whether the request is taken in the event in which it is sent is a free value
(log entry 63); one that stands is taken with a tick. -/
def State.actCloseBreaker (s : State) (f : Feeder) : Go :=
  if (s.breaker f).stableClosed then s.actionEnded f .done
  else if Config.takesHuntClose s.hunt.asks then (s.sendHuntClose f).takeHuntClose f
  else (s.sendHuntClose f, none)

/-- The permission check of a close action (R156): the reason that refuses it, if one does. -/
def State.closeCheck (s : State) (f : Feeder) : Option PauseReason :=
  if !(s.effective f).huntCloses then some .fire
  else if (barring (s.holdTable f).list .hunt).isSome then some .hold
  else none

/-- The close of a close action that is permitted. -/
def State.actClose (s : State) (f : Feeder) : Go :=
  match s.currentBlock.action with
  | .closeUnit => s.actUnit f .close
  | .testCloseUnit => s.actUnit f .close
  | _ => s.actCloseBreaker f

/-- MARK (R161): the unit joins the faulty-section list and takes the isolated flag. -/
def State.markUnit (s : State) (f : Feeder) : State :=
  let i := s.currentBlock.unit
  match s.addressAt f i with
  | none => s
  | some a =>
    let l := s.hunt.faulty
    let t := if l.any (fun x => x.address == a) then s
      else s.setHunt { s.hunt with faulty := l ++ [{ address := a, index := i }] }
    t.setIsolated a true

/-- RETURN (R165). DESIGN CHOICE (log entry 59), unsafe: the block evaluates no test, and its trace record carries the test
result false. -/
def State.huntReturn (s : State) (f : Feeder) : Go :=
  let t := s.traceBlock f .done false
  match t.hunt.returnSlot with
  | none => t.huntOver f .finished .none
  | some x => (t.setHunt { t.hunt with returnSlot := none }).chooseNext f x.block

/-- A block becomes the current block, RUNNING in ACTING with nothing done yet (R156). -/
def Hunt.enterBlock (h : Hunt) (b : Nat) : Hunt :=
  { h with
    state := .running, current := b, phase := .acting, awaiting := .nothing, run := blockRunStart
    pauseTimer := none }

/-- A block begins: its action is taken (R156). DESIGN CHOICE (log entry 59), unsafe: an END block evaluates no test, and its
trace record carries the test result false. -/
def State.beginBlock (s : State) (f : Feeder) (b : Nat) : Go :=
  let t := s.setHunt (s.hunt.enterBlock b)
  match t.currentBlock.action with
  | .finish => (t.traceBlock f .done false).huntOver f .finished .none
  | .ret => t.huntReturn f
  | .mark => (t.markUnit f).completeBlock f .done (t.currentBlock.test noConditions)
  | .wait => huntObserve f 1 t
  | .openUnit => t.actUnit f .open
  | .openBreaker => t.actOpenBreaker f
  | _ =>
    match t.closeCheck f with
    | some r => (t.closePause f r, none)
    | none => t.actClose f

/-- The chain of blocks of one event, within n more steps (R156): the block that would exceed the step budget ends
the hunt with STEP_LIMIT. -/
def huntChain (f : Feeder) : Nat → Go → State
  | _, (s, none) => s
  | 0, (s, some b) => s.huntFinish f .stepLimit (.block b)
  | n + 1, (s, some b) => huntChain f n (s.beginBlock f b)

/-- Carry a chain of blocks on until the engine waits for an event or the hunt has ended. -/
def State.huntRun (g : Go) (f : Feeder) : State := huntChain f (stepBudget - g.1.hunt.steps) g

/-! ### What the engine is told -/

/-- Whether the engine is in a state on a feeder. -/
def State.huntIs (s : State) (f : Feeder) (st : HuntState) : Bool :=
  s.hunt.feeder == some f && s.hunt.state == st

/-- Whether a hunt is RUNNING or PAUSED on a feeder (R168). -/
def State.huntAlive (s : State) (f : Feeder) : Bool := s.huntIs f .running || s.huntIs f .paused

/-- A hunt in STOPPING notes an event in its result (R167). -/
def State.huntNote (s : State) (g : StoppingNotes → StoppingNotes) : State :=
  s.setHunt { s.hunt with notes := g s.hunt.notes }

/-- A protection trip report or an unexpected open while RUNNING (R163). DESIGN CHOICE (log entry 60), unsafe: a trip noted
during an OPEN-BREAKER that awaits its answer leaves the engine's state as it is, since no field or trace mark is given
for it. -/
def State.tripRunning (s : State) (f : Feeder) : State :=
  let h := s.hunt
  let b := s.currentBlock
  match h.phase with
  | .observing =>
    if b.tests.trip then s.setRun { h.run with windowTrip := true } else State.huntRun (s.detourBlock f) f
  | .securing => s.setRun { h.run with securingTrip := true }
  | .acting =>
    if b.action = .openBreaker ∧ h.awaiting = .trip then s
    else
      let t :=
        if 1 ≤ b.window ∧ b.tests.trip then s.setRun { h.run with heldTrip := true }
        else s.setHunt { h with pendingDetour := true }
      if h.awaiting = .tripReport then State.huntRun (t.actionEnded f .cut) f else t

/-- A protection trip report or an unexpected open while PAUSED (R163). -/
def State.tripPaused (s : State) (f : Feeder) : State :=
  let h := s.hunt
  let slot : ReturnSlot := { block := h.current, kind := .detour }
  if h.detourBlocked then s.huntFinish f .tripped .none
  else if h.pauseReason = .step then
    s.setHunt { h with insertion := none, pendingDetour := false, returnSlot := some slot, current := h.detourFirst }
  else
    State.huntRun
      (s.setHunt { h with insertion := none, pendingDetour := false, returnSlot := some slot, pauseTimer := none },
        some h.detourFirst) f

/-- The engine takes a protection trip report or an unexpected open by where the hunt stands (R163). -/
def State.huntTripTaken (s : State) (f : Feeder) : State :=
  if s.huntIs f .running then s.tripRunning f
  else if s.huntIs f .paused then s.tripPaused f
  else s

/-- The protection unit's trip report (R26, R163); in STOPPING it is noted (R167). -/
def State.huntTripReport (s : State) (f : Feeder) : State :=
  if s.huntIs f .stopping then s.huntNote (fun n => { n with trip := true }) else s.huntTripTaken f

/-- An unexpected movement of the hunt feeder's breaker (R62, R163, R168). -/
def State.huntUnexpected (s : State) (f : Feeder) (toOpen : Bool) : State :=
  if s.huntIs f .stopping then s.huntNote (fun n => { n with unexpectedMove := true })
  else if toOpen then s.huntTripTaken f
  else if s.huntAlive f then s.huntFinish f .interfered (.interference .breaker)
  else s

/-- An unexplained switch move of a unit of the hunt feeder (R136, R168). -/
def State.huntUnitMove (s : State) (f : Feeder) (index : Nat) : State :=
  if s.huntIs f .stopping then s.huntNote (fun n => { n with unitReport := true })
  else if s.huntAlive f then s.huntFinish f .interfered (.interference (.unit index))
  else s

/-- The hunt feeder's entry into LOST (R9, R168). -/
def State.huntMeasurementLost (s : State) (f : Feeder) : State :=
  if s.huntIs f .stopping then s.huntNote (fun n => { n with measurementLoss := true })
  else if s.huntAlive f then s.huntFinish f .measurement .none
  else s

/-- A BREAKER_FAIL outcome on the hunt feeder, whoever requested the trip (R158, R167, R168). -/
def State.huntBreakerFail (s : State) (f : Feeder) : State :=
  if s.huntIs f .stopping then s.huntNote (fun n => { n with breakerFail := true })
  else if s.huntAlive f then s.huntFinish f .breakerFailed (.breakerAnswer .breakerFail)
  else s

/-- The answer to the engine's trip (R158, R160, R167). A BREAKER_FAIL is told through `State.huntBreakerFail`
first. -/
def State.huntTripAnswer (s : State) (f : Feeder) : State :=
  if s.hunt.awaiting ≠ .trip then s
  else if s.huntIs f .stopping then s.huntAborted f
  else if s.huntIs f .running then
    if s.hunt.phase = .securing then
      State.huntRun (s.completeBlock f s.hunt.run.outcome true) f
    else State.huntRun (s.actionEnded f .done) f
  else s

/-- The answer CLOSE_CONFIRMED or CLOSE_FAIL to the engine's close (R158, R167). -/
def State.huntCloseAnswer (s : State) (f : Feeder) (confirmed : Bool) : State :=
  if s.hunt.awaiting ≠ .close then s
  else if s.huntIs f .stopping then s.huntAborted f
  else if s.huntIs f .running then
    if confirmed then State.huntRun (s.actionEnded f .done) f
    else s.huntFinish f .breakerFailed (.breakerAnswer .closeFail)
  else s

/-- The answer CUT to the engine's close (R158, R167): it goes on with a trip already taken, or waits in ACTING for
the report of the trip that cut it. -/
def State.huntCloseCut (s : State) (f : Feeder) : State :=
  if s.hunt.awaiting ≠ .close then s
  else if s.huntIs f .stopping then s.huntAborted f
  else if s.huntIs f .running then
    if s.hunt.run.heldTrip || s.hunt.pendingDetour then State.huntRun (s.actionEnded f .cut) f
    else s.setHunt { s.hunt with awaiting := .tripReport }
  else s

/-- A window report reaches the engine (R159). -/
def State.huntWindowReport (s : State) (f : Feeder) (w : WindowReport) : State :=
  if s.huntIs f .running && s.hunt.phase == .observing then State.huntRun (s.windowClosed f w) f else s

/-- The completion of the hunt engine's line bus entry (R157, R160, R167, R169): one of an ended hunt clears the
outstanding entry and is otherwise ignored. -/
def State.huntUnitDone (s : State) (c : CompletionCode) : State :=
  match s.hunt.feeder with
  | none => s
  | some f =>
    if s.hunt.awaiting = .unit ∧ s.hunt.state = .stopping then s.huntAborted f
    else if s.hunt.awaiting = .unit ∧ s.hunt.state = .running then
      if s.hunt.phase = .securing then
        if c = .done then State.huntRun (s.completeBlock f s.hunt.run.outcome true) f
        else s.huntFinish f .unitFailed (.unitCode (.completion c))
      else if c = .done then State.huntRun (s.actionEnded f .done) f
      else State.huntRun (s.unitFailed f (.completion c)) f
    else s.setHunt { s.hunt with outstanding := false }

/-- A failed attempt, short of three, of the hunt engine's entry: a stopping or an ended hunt withdraws again
(R142, R167, R169). -/
def State.huntAttemptFailed (s : State) : State :=
  match s.hunt.feeder with
  | none => s
  | some f =>
    if s.hunt.state = .stopping ∧ s.hunt.awaiting = .unit then (s.withdrawHunt.1).huntAborted f
    else if s.hunt.state = .running then s
    else
      let t := s.withdrawHunt.1
      t.setHunt { t.hunt with outstanding := false }

/-- The close requests that stand at the breaker interfaces are taken (R59, R158). -/
def State.takeHuntCloses (s : State) : State :=
  allFeeders.foldl (fun s f => if (s.breaker f).huntAsk then State.huntRun (s.takeHuntClose f) f else s) s

/-- The engine is told of a recomputation of its feeder's settings or of a removal from its hold list: a close paused
for FIRE or HOLD is tested again (R156). -/
def State.huntRecheck (s : State) (f : Feeder) : State :=
  if s.huntIs f .paused && s.hunt.pauseReason != .step then
    match s.closeCheck f with
    | some r => s.setHunt { s.hunt with pauseReason := r }
    | none =>
      let h := s.hunt.enterBlock s.hunt.current
      let t := s.setHunt { h with run := { h.run with heldTrip := s.hunt.run.heldTrip } }
      State.huntRun (t.actClose f) f
  else s

/-- The waiting block of a STEP pause begins (R166). -/
def State.huntResume (s : State) (f : Feeder) : State :=
  State.huntRun (s.setHunt { s.hunt with pauseTimer := none }, some s.hunt.current) f

/-- HUNT-ABORT in RUNNING or PAUSED (R167): the engine enters STOPPING; a waiting entry is withdrawn; the hunt ends at
once when nothing of it remains in flight. In every other state nothing changes. -/
def State.huntAbortBy (s : State) (f : Feeder) (p : Port) : State :=
  if s.huntAlive f then
    let t := (s.setHunt
      { s.hunt with
        state := .stopping, abortPort := some p, pauseTimer := none, pendingDetour := false
        insertion := none }).cancelWindow f
    match t.hunt.awaiting with
    | .unit =>
      let w := t.withdrawHunt
      if w.2 = .inFlight then w.1 else w.1.huntAborted f
    | .trip => t
    | .ask => t
    | .close => t
    | _ => t.huntAborted f
  else s

end Sys2Proof.Machine
end

