-- ==== Sys2Proof/Machine/Movements.lean ====
section
/-! DEFINITION. What a breaker movement or an operation's end means, and who is told of it (R54, R56 to R63): the
record and the flag first, then each requester in the order of the slot, last the reclose sequencer. Log entries
12, 28, 33 and 46 say what the manual leaves open here. -/

namespace Sys2Proof.Machine

/-! ### Outcomes handed on (R63) -/

/-- A requester of a trip receives the outcome TRIP_CONFIRMED. -/
def State.answerTripConfirmed (f : Feeder) (s : State) (r : Requester) : State :=
  match r with
  | .master p => s.reply p .tripConfirmed
  | .hunt => s.huntTripAnswer f
  | .protection => s
  | .sequencer => s

/-- A requester of a trip receives the outcome BREAKER_FAIL. -/
def State.answerBreakerFail (f : Feeder) (s : State) (r : Requester) : State :=
  match r with
  | .master p => s.reply p .breakerFail
  | .hunt => (s.huntBreakerFail f).huntTripAnswer f
  | .protection => s
  | .sequencer => s

/-- The trip in the slot is confirmed (R56, R63). -/
def State.tripConfirmed (s : State) (f : Feeder) (op : TripOp) : State :=
  (op.requesters.foldl (State.answerTripConfirmed f) (s.tripConfirmedRecord f op)).seqTripConfirmed f
    op.purposes.protection op.cause

/-- A late open (R58). -/
def State.lateOpen (s : State) (f : Feeder) (x : FailedTrip) : State := (s.lateOpenRecord f x).seqLateOpen f

/-- The close in the slot is confirmed (R60, R63). -/
def State.closeConfirmed (s : State) (f : Feeder) (op : CloseOp) : State :=
  let t := s.closeConfirmedRecord f op
  let u :=
    match op.requester with
    | .master p => t.reply p .closeConfirmed
    | .hunt => t.huntCloseAnswer f true
    | .protection => t
    | .sequencer => t
  u.seqCloseConfirmed f op.purpose

/-- The close in the slot has failed (R61, R63); the lockout of a manual close is caused by its request (R80, R172). -/
def State.closeFailed (s : State) (f : Feeder) (op : CloseOp) : State :=
  let t := s.closeFailRecord f op
  let u :=
    match op.requester with
    | .master p => t.reply p .closeFail
    | .hunt => t.huntCloseAnswer f false
    | .protection => t
    | .sequencer => t
  match op.requester with
  | .master p => u.causedBy p (fun u => u.seqCloseFail f op.purpose)
  | _ => u.seqCloseFail f op.purpose

/-- A close has been cut by a trip that the engine did not ask for (R54, R63). -/
def State.closeCut (s : State) (f : Feeder) (op : CloseOp) : State :=
  match op.requester with
  | .hunt => (s.huntCloseCut f).seqCut f op.purpose
  | _ => s.tellCut f op

/-- A master's trip is passed to the breaker interface (R78); an answer given at once is the response (R63). The
BREAKER_FAIL that answers a trip joined in FAIL_PULSE (R55) is told as one that R57 decides: to the hunt engine (R158), and
last to the sequencer (R79); that the engine hears of it is log entry 52's. The opens the sequencer held are not passed
here: their caller passes them. -/
def State.passTrip (f : Feeder) (s : State) (p : Port) : State :=
  let r := s.tripRequest f { purpose := .manual, requester := .master p, cause := none }
  match r.2 with
  | .started => r.1
  | .joined => r.1
  | .cut op => r.1.closeCut f op
  | .alreadyOpen => (r.1.reply p .alreadyOpen).seqAlreadyOpen f false none
  | .failed => ((r.1.reply p .breakerFail).huntBreakerFail f).seqBreakerFail f

/-- The sequencer takes an outcome BREAKER_FAIL (R79). DESIGN CHOICE (log entry 53), unsafe: the MANUAL-OPENs held in
RECLOSING phase ASKED are held nowhere else (R67), so that they are passed once the sequencer is in FAILED, as R78 passes
one taken there. -/
def State.failSequencer (s : State) (f : Feeder) : State :=
  if (s.sequencer f).state = .hunt then s
  else (s.sequencer f).pendingOpen.foldl (State.passTrip f) (s.seqBreakerFail f)

/-- The trip in the slot has failed (R57, R63); the hunt engine is told whoever requested the trip (R158). DESIGN CHOICE
(log entry 54), unsafe: the engine is told before the sequencer, also when it did not request the trip, so that the hunt's
end takes the sequencer out of HUNT before R79 moves it to FAILED. -/
def State.breakerFailed (s : State) (f : Feeder) (op : TripOp) : State :=
  ((op.requesters.foldl (State.answerBreakerFail f) (s.breakerFailRecord f op)).huntBreakerFail f).failSequencer f

/-- An unexpected movement: record and flag, the sequencer, the hunt engine (R62). -/
def State.unexpectedMovement (s : State) (f : Feeder) (toOpen : Bool) (before after : Decoded) : State :=
  ((s.unexpectedRecord f toOpen before after).seqUnexpected f toOpen).huntUnexpected f toOpen

/-! ### Contact changes (R49, R50) -/

/-- The stable position after a reading (R49). -/
def stableAfter (wasClosed : Bool) : Decoded → Bool
  | .open => false
  | .closed => true
  | .travel => wasClosed
  | .invalid => wasClosed

/-- The position-fault timer after a reading (R50): INVALID starts it unless the alarm stands already (log entry
46); any other position cancels it. -/
def State.faultTimerAfter (s : State) (b : Breaker) (after : Decoded) : Option Timer :=
  if after = .invalid then (if b.alarm then none else some (s.timer positionFaultMs)) else none

/-- The inputs of a feeder take new levels: contacts, stable position, position-fault timer, and the clearing of a
standing alarm at OPEN or CLOSED (R49, R50). -/
def State.readContacts (s : State) (f : Feeder) (c : Contacts) : State :=
  let b := s.breaker f
  let after := decode c
  let t := s.setBreaker f
    { b with
      contacts := c, stableClosed := stableAfter b.stableClosed after
      faultTimer := s.faultTimerAfter b after }
  if after = .open ∨ after = .closed then t.clearPositionFault f else t

/-- A change of the decoded position to OPEN (R56, R57, R58, R62). -/
def State.changedToOpen (s : State) (f : Feeder) (wasClosed : Bool) (before : Decoded) : State :=
  let b := s.breaker f
  match b.slot with
  | .trip op =>
    if op.phase = .failPulse then
      let t := s.setBreaker f { b with slot := .empty }
      match b.failed with
      | some x => t.lateOpen f x
      | none => t
    else s.tripConfirmed f op
  | _ =>
    match b.failed with
    | some x => s.lateOpen f x
    | none => if wasClosed then s.unexpectedMovement f true before .open else s

/-- A change of the decoded position to CLOSED (R54, R60, R62). -/
def State.changedToClosed (s : State) (f : Feeder) (wasClosed : Bool) (before : Decoded) : State :=
  let b := s.breaker f
  match b.slot with
  | .close op => s.closeConfirmed f op
  | .trip op =>
    if wasClosed then s
    else if op.cut.isSome then s.setBreaker f { b with slot := .trip { op with closedFirst := true } }
    else s.unexpectedMovement f false before .closed
  | .empty => if wasClosed then s else s.unexpectedMovement f false before .closed

/-- A contact change (R49): the reading, then what the movement means. -/
def State.contactChange (s : State) (f : Feeder) (c : Contacts) : State :=
  let b := s.breaker f
  if c = b.contacts then s
  else
    let t := s.readContacts f c
    match decode c with
    | .open => t.changedToOpen f b.stableClosed b.decoded
    | .closed => t.changedToClosed f b.stableClosed b.decoded
    | .travel => t
    | .invalid => t

/-! ### Timers of an operation -/

/-- The pulse timer of an operation (R52). -/
def Slot.pulseTimer : Slot → Option Timer
  | .empty => none
  | .trip op => if op.phase = .confirmWait then none else some { start := op.started, length := op.pulseLength }
  | .close op => if op.phase = .pulse then some { start := op.started, length := op.pulseLength } else none

/-- The trip-confirm timer (R53, R57). -/
def Slot.tripConfirmTimer : Slot → Option Timer
  | .trip op => if op.phase = .failPulse then none else some { start := op.started, length := op.confirmTime }
  | _ => none

/-- The close-confirm timer (R59, R61). -/
def Slot.closeConfirmTimer : Slot → Option Timer
  | .close op => some { start := op.started, length := op.confirmTime }
  | _ => none

/-- Whether a trip that cut a close is confirmed by the contacts reading OPEN at a timer's end (R54). -/
def Breaker.confirmsAtTimer (b : Breaker) (op : TripOp) : Bool := op.cut.isSome && b.decoded == .open

/-- The end of a coil pulse at its length (R54, R56, R57, R60). -/
def State.pulseEnd (s : State) (f : Feeder) : State :=
  let b := s.breaker f
  match b.slot with
  | .empty => s
  | .trip op =>
    match op.phase with
    | .pulse =>
      if b.confirmsAtTimer op then s.tripConfirmed f op
      else s.setBreaker f { b with slot := .trip { op with phase := .confirmWait } }
    | .confirmWait => s
    | .failPulse => s.setBreaker f { b with slot := .empty }
  | .close op =>
    if op.phase = .pulse then s.setBreaker f { b with slot := .close { op with phase := .confirmWait } } else s

/-- The end of the trip-confirm time (R54, R57). -/
def State.tripTimeEnd (s : State) (f : Feeder) : State :=
  let b := s.breaker f
  match b.slot with
  | .trip op =>
    if op.phase = .failPulse then s
    else if b.confirmsAtTimer op then s.tripConfirmed f op
    else s.breakerFailed f op
  | _ => s

/-- The end of the close-confirm time (R61). -/
def State.closeTimeEnd (s : State) (f : Feeder) : State :=
  match (s.breaker f).slot with
  | .close op => s.closeFailed f op
  | _ => s

/-! ### The pulse wait of a RESTART (R194) -/

/-- The end of the pulse wait fixes the store entries that are still to be completed (R178, R194). -/
def State.pollRestart (s : State) : State :=
  match s.restart with
  | some w =>
    if w.fixed.isNone && !s.anyPulse then
      { s with restart := some { w with fixed := some s.store.queue.length } }
    else s
  | none => s

end Sys2Proof.Machine
end

