-- ==== Sys2Proof/Machine/Protection.lean ====
section
/-! DEFINITION. The protection unit and the frame receiver: the evaluation of one sample (R13 to R26, R33 to R46),
the clearings of R22 and R43, the push of new settings (R14, R38, R44), sequence checking and gap fill
(R1 to R9). -/

namespace Sys2Proof.Machine

/-! ### Overcurrent elements (R15 to R24) -/

/-- The current ratio (R15). -/
def currentRatio (i p : Nat) : Nat := min ratioCap (16 * i / p)

/-- The rate between two points (R17). -/
def rateBetween (a b : Point) (m : Nat) : Nat :=
  a.rate + (b.rate - a.rate) * (m - a.ratio) / (b.ratio - a.ratio)

/-- The rate of a curve at a picked-up ratio (R17). -/
def curveRate : Curve → Nat → Nat
  | [], _ => 0
  | [a], _ => a.rate
  | a :: b :: rest, m => if m < b.ratio then rateBetween a b m else curveRate (b :: rest) m

/-- The increment of an accumulator (R18). -/
def increment (rate tms : Nat) : Nat := max 1 (rate * 100 / tms)

/-- The reset of an accumulator on a sample that is not picked up (R20). -/
def resetAcc (acc d : Nat) : Nat := if d = 0 then 0 else acc - d

/-- One sample at an inverse-time element (R18 to R21): the new state, and whether the element operates. -/
def Inverse.sample (x : Inverse) (m : Nat) (c : Curve) (tms d : Nat) : Inverse × Bool :=
  if 16 ≤ m then
    let acc := min fullScale (x.acc + increment (curveRate c m) tms)
    let full := acc == fullScale
    ({ ratio := m, pickup := true, acc := acc, operated := full }, full && !x.operated)
  else
    let acc := resetAcc x.acc d
    ({ ratio := m, pickup := false, acc := acc, operated := x.operated && acc == fullScale }, false)

/-- One sample at the high-set element (R23, R24). -/
def HighSet.sample (x : HighSet) (m h n : Nat) : HighSet × Bool :=
  if h ≤ m then
    let c := min 50 (x.count + 1)
    let op := decide (n ≤ c) && !x.operated
    ({ count := c, operated := x.operated || op }, op)
  else ({ count := 0, operated := false }, false)

/-! ### Baseline and SEF (R33 to R44) -/

/-- The baseline B (R33). -/
def Baseline.value (b : Baseline) (k : Nat) : Nat := b.acc / 2 ^ k

/-- The seeding of an unseeded baseline (R35). -/
def Baseline.seed (b : Baseline) (i0 k limit : Nat) : Baseline :=
  { b with acc := min i0 limit * 2 ^ k, seeded := true, high := b.high || decide (limit < i0) }

/-- A change of the accumulator under the limit, with the latch as R37 gives. -/
def Baseline.limited (b : Baseline) (acc k limit : Nat) : Baseline :=
  if limit < acc / 2 ^ k then { b with acc := limit * 2 ^ k, high := true }
  else { b with acc := acc, high := b.high && !decide (acc / 2 ^ k < limit) }

/-- The update of the baseline on a qualifying sample (R36, R37). -/
def Baseline.update (b : Baseline) (i0 k limit : Nat) : Baseline :=
  b.limited (b.acc + i0 - b.acc / 2 ^ k) k limit

/-- The compensated residual (R39). -/
def compensated (i0 b : Nat) : Nat := i0 - b

/-- One sample at the SEF element (R39, R41, R42): the new state with the alarm latch cleared when the counter stands
at 0, and whether the element operates. -/
def Sef.sample (x : Sef) (e ps ds : Nat) (frozen : Bool) : Sef × Bool :=
  if ps ≤ e then
    let c := min (2 * ds) (x.count + 2)
    let op := c == 2 * ds && !x.operated && !frozen
    ({ residual := e, pickup := true, count := c, operated := x.operated || op, alarm := x.alarm && c != 0 }, op)
  else
    let c := x.count - 1
    ({ residual := e, pickup := false, count := c, operated := false, alarm := x.alarm && c != 0 }, false)

/-- The largest phase current of a sample (R13). -/
def Sample.imax (x : Sample) : Nat := max x.ia (max x.ib x.ic)

/-- The one cause of a sample's trip request, by the order of R25. -/
def tripCause (oc hs ef sef : Bool) : Option Cause :=
  if hs then some .hs else if oc then some .oc else if ef then some .ef else if sef then some .sef else none

/-- The result of steps 1 to 3 of R34 with the overcurrent elements: the unit, what it records, the trip cause. -/
structure Evaluated where
  unit : Protection
  seeded : Bool
  seedHigh : Bool
  alarm : Bool
  cause : Option Cause
  deriving DecidableEq, Repr

/-- Steps 1 to 3 of R34 and the overcurrent elements on one sample (R13, R34), with the curves of OC and EF and the
effective settings in force. -/
def Protection.evaluate (u : Protection) (e : Effective) (oc ef : Curve) (x : Sample) : Evaluated :=
  let g := e.group
  let seeds := !u.base.seeded
  let base := if seeds then u.base.seed x.i0 g.shift g.limit else u.base
  let m := currentRatio x.imax g.ocPickup
  let o := u.oc.sample m oc e.ocTms g.ocReset
  let h := u.hs.sample m g.hsRatio e.hsFrames
  let r := u.ef.sample (currentRatio x.i0 g.efPickup) ef e.efTms g.efReset
  let q := u.sef.sample (compensated x.i0 (base.value g.shift)) e.sefPickup e.sefDelay u.base.frozen
  let alarms := q.2 && !e.sefTrip && !u.sef.alarm
  { unit :=
      { u with
        last := some x, oc := o.1, ef := r.1, hs := h.1, base := base
        sef := { q.1 with alarm := q.1.alarm || alarms } }
    seeded := seeds
    seedHigh := seeds && !u.base.high && base.high
    alarm := alarms
    cause := tripCause o.2 h.2 r.2 (q.2 && e.sefTrip) }

/-- The BASELINE_HIGH record and its flag (R37). -/
def State.baselineHigh (s : State) (f : Feeder) (value limit : Nat) : State :=
  (s.record f .protectionUnit (.baselineHigh value limit)).setFlag .measurement

/-- The protection unit's trip request, and its reports to the reclose sequencer and, during a hunt, to the hunt
engine, in that order (R25, R26, R53; log entry 12). A BREAKER_FAIL answered at once to a request joined in FAIL_PULSE
(R55) reaches the hunt engine and the sequencer as one that R57 decides, before the reports (R70, R79; log entry 52). -/
def State.protectionTrip (s : State) (f : Feeder) (c : Cause) : State :=
  let r := s.tripRequest f { purpose := .protection, requester := .protection, cause := some c }
  let t :=
    match r.2 with
    | .started => r.1
    | .joined => r.1
    | .failed => (r.1.huntBreakerFail f).failSequencer f
    | .cut op => r.1.closeCut f op
    | .alreadyOpen => r.1.seqAlreadyOpen f true (some c)
  (t.protectionReport f c).huntTripReport f

/-- Steps 1 to 3 of R34: the elements are evaluated, the records of a clamped seeding and of an alarm are appended,
and a trip is requested. DESIGN CHOICE (log entry 57), unsafe: SEF_ALARM is appended before the records that follow a trip
requested on the same sample, whose order R172 leaves open. -/
def State.evaluateSample (s : State) (f : Feeder) (x : Sample) : State :=
  let e := s.effective f
  let v := (s.unit f).evaluate e (s.curve e.group.ocCurve) (s.curve e.group.efCurve) x
  let t := s.setUnit f v.unit
  let t := if v.seedHigh then t.baselineHigh f x.i0 e.group.limit else t
  let t :=
    if v.alarm then
      (t.record f .protectionUnit
        (.sefAlarm v.unit.sef.residual (v.unit.base.value e.group.shift) e.sefDelay)).setFlag .measurement
    else t
  match v.cause with
  | some c => t.protectionTrip f c
  | none => t

/-- Step 4 of R34: the baseline update of a qualifying sample (R36, R37). -/
def State.updateBaseline (s : State) (f : Feeder) (x : Sample) : State :=
  let g := (s.effective f).group
  let u := s.unit f
  if u.sef.pickup || u.base.frozen then s
  else
    let b := u.base.update x.i0 g.shift g.limit
    let t := s.setUnit f { u with base := b }
    if b.high && !u.base.high then t.baselineHigh f x.i0 g.limit else t

/-- A window after one more sample (R46). -/
def Window.count (w : Window) (sef pickup : Bool) : Window :=
  { w with
    samples := w.samples + 1
    sefSamples := w.sefSamples + (if sef then 1 else 0)
    pickupSamples := w.pickupSamples + (if pickup then 1 else 0) }

/-- The report of a window (R45). -/
def Window.report (w : Window) (quorum : Nat) : WindowReport :=
  { samples := w.samples, sefSamples := w.sefSamples, pickupSamples := w.pickupSamples, quorum := quorum }

/-- Step 5 of R34: an open window takes the sample, and reports when it is complete (R45, R46). -/
def State.windowSample (s : State) (f : Feeder) : State :=
  let g := (s.effective f).group
  let u := s.unit f
  match u.window with
  | none => s
  | some w =>
    let v := w.count (decide (g.huntPickup ≤ u.sef.residual)) (u.oc.pickup || u.ef.pickup)
    if w.length ≤ v.samples then
      (s.setUnit f { u with window := none }).huntWindowReport f (v.report g.huntQuorum)
    else s.setUnit f { u with window := some v }

/-- The protection unit takes one sample whole (R13, R34). The sample that seeds the baseline does not update it
(R35). -/
def State.takeSample (s : State) (f : Feeder) (x : Sample) : State :=
  let seeds := !(s.unit f).base.seeded
  let t := s.evaluateSample f x
  (if seeds then t else t.updateBaseline f x).windowSample f

/-! ### Clearings (R6, R9, R22, R43) -/

/-- The clearing of a discontinuity (R6, R22, R43). -/
def Protection.clearCounts (u : Protection) : Protection :=
  { u with
    oc := { u.oc with pickup := false, acc := 0, operated := false }
    ef := { u.ef with pickup := false, acc := 0, operated := false }
    hs := highSetStart
    sef := { u.sef with count := 0, operated := false, alarm := false } }

/-- The clearing of an entry into LOST (R9, R22, R43): the last sample, the freeze mark and the window are kept. -/
def Protection.clearLost (u : Protection) : Protection :=
  { u with
    oc := inverseStart, ef := inverseStart, hs := highSetStart
    base := { acc := 0, seeded := false, high := false, frozen := u.base.frozen }
    sef := sefStart }

/-! ### The push of settings (R14, R38, R44) -/

/-- The baseline at a push (R38): rebased when k changes, then limited. An unseeded baseline is not touched. -/
def Baseline.push (b : Baseline) (oldShift newShift limit : Nat) : Baseline :=
  if b.seeded then
    b.limited (if oldShift = newShift then b.acc else b.value oldShift * 2 ^ newShift) newShift limit
  else b

/-- The SEF element at a push (R44). -/
def Sef.push (x : Sef) (oldTrip newTrip : Bool) (delay : Nat) : Sef :=
  { x with count := min x.count (2 * delay), operated := x.operated && !(!oldTrip && newTrip) }

/-- The protection unit takes new effective settings (R14, R38, R44). -/
def State.push (s : State) (f : Feeder) (old new : Effective) : State :=
  let u := s.unit f
  let b := u.base.push old.group.shift new.group.shift new.group.limit
  let t := s.setUnit f { u with base := b, sef := u.sef.push old.sefTrip new.sefTrip new.sefDelay }
  if b.high && !u.base.high then t.baselineHigh f (u.base.value old.group.shift) new.group.limit else t

/-! ### The frame receiver (R1 to R9) -/

/-- A measurement frame that reached a frame receiver (R1). -/
structure Measured where
  feeder : Feeder
  sequence : Byte
  sample : Sample
  fault : Bool
  deriving DecidableEq, Repr

/-- The overrange rule (R3). -/
def Sample.overranged (x : Sample) (flag : Bool) : Sample :=
  if flag then { x with ia := overrange, ib := overrange, ic := overrange } else x

/-- The frame a transfer at the measurement port carries; none when it is discarded there (R2, R196). -/
def measuredOf (bytes : List Byte) : Option Measured :=
  if bytes.length = 13 ∧ crc16 (bytes.take 11) = BitVec.ofNat 16 (wordAt bytes 11) then
    match feederOf (byteAt bytes 0) with
    | some f =>
      some
        { feeder := f
          sequence := bytes.getD 1 0
          sample := Sample.overranged
            { ia := wordAt bytes 2, ib := wordAt bytes 4, ic := wordAt bytes 6, i0 := wordAt bytes 8 }
            ((byteAt bytes 10).testBit 0)
          fault := (byteAt bytes 10).testBit 1 }
    | none => none
  else none

/-- The forward distance (R4). -/
def forwardDistance (s last : Byte) : Nat := (s - last).toNat

/-- What the receiver hands the protection unit for an accepted frame: whether it clears first, and the samples in
order (R4 to R7). -/
def Receiver.samples (r : Receiver) (m : Measured) : Bool × List Sample :=
  if r.state = .valid then
    let h := r.held.getD m.sample
    match forwardDistance m.sequence r.last with
    | 1 => (false, [m.sample])
    | 2 => (false, [h, m.sample])
    | 3 => (false, [h, h, m.sample])
    | _ => (true, [m.sample])
  else (false, [m.sample])

/-- The receiver after an accepted frame (R4, R7, R8). -/
def receiverAfter (now : Ms) (m : Measured) : Receiver :=
  { state := .valid, last := m.sequence, held := some m.sample, watchdog := some { start := now, length := watchdogMs } }

/-- An accepted frame is processed (R3 to R8). DESIGN CHOICE (log entry 58), unsafe: MEASUREMENT_RESTORED is appended after
the records that the frame's samples append at other blocks, whose order R172 leaves open. -/
def State.acceptFrame (s : State) (m : Measured) : State :=
  let f := m.feeder
  let r := s.receiver f
  let h := r.samples m
  let t := if h.1 then s.setUnit f (s.unit f).clearCounts else s
  let t := h.2.foldl (fun t x => t.takeSample f x) t
  let t := t.setReceiver f (receiverAfter s.ms m)
  if r.state = .lost then (t.record f .frameReceiver .measurementRestored).setFlag .measurement else t

/-- A transfer at the measurement port (R1, R2). -/
def State.measurementTransfer (s : State) (bytes : List Byte) : State :=
  match measuredOf bytes with
  | some m => if m.fault then s else s.acceptFrame m
  | none => s

/-- The expiry of the frame watchdog (R9). -/
def State.watchdogEnd (s : State) (f : Feeder) : State :=
  let r := s.receiver f
  let t := s.setReceiver f { r with state := .lost, watchdog := none }
  let t := t.setUnit f (t.unit f).clearLost
  ((t.record f .frameReceiver (.measurementLost r.last)).setFlag .measurement).huntMeasurementLost f

end Sys2Proof.Machine
end

