-- ==== Sys2Proof/Machine/Fire.lean ====
section
/-! DEFINITION. Removals handed on whole (R92), and the fire controller: site level, effective settings and their
recomputation (R112, R119 to R122). -/

namespace Sys2Proof.Machine

/-- A removal with all its steps (R92): the entry leaves, record and flag, sequencer and protection unit, the hunt
engine is told, and the retention write is requested. -/
def State.removeHold (s : State) (f : Feeder) (h : Hold) (cause : RemovalCause) (port : Option Port) : State :=
  ((s.takeOffHold f h cause port).huntRecheck f).retainAfter f h

/-- The FIRE removal (R99). -/
def State.removeFire (s : State) (f : Feeder) : State :=
  match (s.holdTable f).list.find? (fun h => h.owner == .fire) with
  | some h => s.removeHold f h .fireLevel none
  | none => s

/-- The higher of two levels. -/
def Level.higher (a b : Level) : Level := if a.number < b.number then b else a

/-- The level of a slot: L0 for an empty one. -/
def slotLevel (r : Option FireRequest) : Level :=
  match r with
  | some r => r.level
  | none => .l0

/-- The site level: the highest among the live requests (R112). -/
def siteLevel (r : PerPort (Option FireRequest)) : Level :=
  (slotLevel r.station).higher ((slotLevel r.remote).higher (slotLevel r.panel))

/-- A feeder's effective level: the site level, capped at L1 for an URBAN feeder (R112). -/
def cappedLevel (site : Level) (x : Exposure) : Level :=
  if x = .urban ∧ 1 < site.number then .l1 else site

/-- A field of a level's record in the flat table (R114). -/
def tableField (t : List Nat) (l : Level) (field : Nat) : Nat := t.getD (9 * l.number + field) 0

/-- The group a level's record names: field 8 values 1 and 3 name B (R114). -/
def tableLetter (t : List Nat) (l : Level) : Letter := if tableField t l 8 % 2 = 1 then .b else .a

/-- A value scaled by a percentage, kept at or above a minimum (R119). -/
def scaled (least value scale : Nat) : Nat := max least (value * scale / 100)

/-- The effective high-set frames (R14, R119). -/
def effectiveFrames (override own : Nat) : Nat := if 0 < override ∧ override < own then override else own

/-- The effective settings of a level over a table and a feeder's groups (R119, R181). -/
def effectiveOf (t : List Nat) (groups : GroupPair) (l : Level) : Effective :=
  let letter := tableLetter t l
  let w := groups.get letter
  let g := w.group
  { level := l, letter := letter, group := g
    ocTms := scaled 5 g.ocTms (tableField t l 0)
    efTms := scaled 5 g.efTms (tableField t l 0)
    hsFrames := effectiveFrames (tableField t l 1) g.hsFrames
    sefPickup := scaled 1 g.sefPickup (tableField t l 4)
    sefDelay := scaled 10 g.sefDelay (tableField t l 5)
    sefTrip := tableField t l 3 == 1 || w.fallback
    levelShots := tableField t l 2
    shotLimit := min g.shots (tableField t l 2)
    sefReclose := tableField t l 6 == 1
    huntCloses := tableField t l 7 == 1
    patrol := decide (2 ≤ tableField t l 8) }

/-- The effective settings a feeder would have now (R119). -/
def State.computeEffective (s : State) (f : Feeder) : Effective :=
  effectiveOf s.fire.table (feederGet s.fire.groups f) (cappedLevel s.fire.site (feederGet s.fire.exposure f))

/-- The effective settings of a feeder are replaced. -/
def State.setEffective (s : State) (f : Feeder) (e : Effective) : State :=
  s.setFire { s.fire with effective := feederSet s.fire.effective f e }

/-- What a recomputation names as its cause (R120): the cause and the port of a LEVEL_CHANGED record, and whether
that port's request is the event itself. -/
structure FireCause where
  cause : Option LevelCause
  port : Option Port
  deriving DecidableEq, Repr

/-- The source of a LEVEL_CHANGED record: the port whose request caused it, or the fire controller (R172). -/
def FireCause.source (c : FireCause) : RecordSource :=
  if c.cause = some .expiry then .block .fireController else sourceOf c.port .fireController

/-- The LEVEL_CHANGED record and flag of a changed effective level (R122). -/
def State.levelChanged (s : State) (f : Feeder) (old new : Effective) (c : FireCause) : State :=
  if old.level = new.level then s
  else
    (s.append (some f) c.source
      (.levelChanged old.level new.level s.fire.site (feederGet s.fire.exposure f) old.letter new.letter
        c.cause c.port)).setFlag .level

/-- The FIRE entry is brought into line with the level's shot limit (R121). -/
def State.reconcileFire (s : State) (f : Feeder) (e : Effective) : State :=
  if e.levelShots = 0 then s.placeFire f else s.removeFire f

/-- The recomputation of one feeder (R120 steps 1 to 5). DEDUCED (log entry 62), unsafe: a LOCKOUT record that the FIRE
placement of step 3 causes carries the level and the shot limit that step 1 has put in force. -/
def State.recomputeFeeder (c : FireCause) (s : State) (f : Feeder) : State :=
  let old := s.effective f
  let new := s.computeEffective f
  ((((s.setEffective f new).levelChanged f old new c).reconcileFire f new).push f old new).huntRecheck f

/-- The site level is found first (R120). -/
def State.findSite (s : State) : State := s.setFire { s.fire with site := siteLevel s.fire.requests }

/-- The recomputation of every feeder, in order (R120). -/
def State.recomputeAll (s : State) (c : FireCause) : State :=
  allFeeders.foldl (State.recomputeFeeder c) s.findSite

/-- The recomputation of one feeder alone (R113, R125). -/
def State.recomputeOne (s : State) (f : Feeder) (c : FireCause) : State := State.recomputeFeeder c s.findSite f

/-- A port's fire request is replaced by a slot content (R109 to R111). -/
def State.setRequest (s : State) (p : Port) (r : Option FireRequest) : State :=
  s.setFire { s.fire with requests := portSet s.fire.requests p r }

/-- A change of fire request: the recomputation, then the retention write (R120, R126). -/
def State.fireRequestChanged (s : State) (p : Port) (r : Option FireRequest) (cause : LevelCause) : State :=
  ((s.setRequest p r).recomputeAll { cause := some cause, port := some p }).requestRetention .fireRequests

end Sys2Proof.Machine
end

