-- ==== Sys2Proof/Machine/Requests.lean ====
section
/-! DEFINITION. The dispatcher (R184 to R190, R193): what a frame that ends at a port meets before its owner takes
it, the read of a response, and the authority of R189. -/

namespace Sys2Proof.Machine

/-! ### Authority (R189) -/

/-- Granted to the Station and Remote ports, with either key position. -/
def grantStationRemote : Port → Bool
  | .station => true
  | .remote => true
  | .panel => false

/-- The authority of the hunt requests (R153). -/
def grantHunt (k : KeyPosition) : Port → Bool
  | .station => true
  | .remote => k == .remotePos
  | .panel => k == .localPos

/-- The authority of MANUAL-OPEN. -/
def grantOpen (k : KeyPosition) : Port → Bool
  | .station => true
  | .remote => k == .remotePos
  | .panel => true

/-- The authority of MANUAL-CLOSE. -/
def grantClose (k : KeyPosition) : Port → Bool
  | .station => true
  | .remote => k == .remotePos
  | .panel => k == .localPos

/-- The authority of PATROL-CLEAR (R102). -/
def grantPatrolClear : Port → Bool
  | .station => false
  | .remote => true
  | .panel => true

/-- The authority of UNIT-COMMAND, by the kind carried (R145). -/
def grantUnitCommand (k : KeyPosition) (pl : List Byte) : Port → Bool
  | .station => true
  | .remote => k == .remotePos || !(byteAt pl 1 == 1 || byteAt pl 1 == 2)
  | .panel => k == .localPos || byteAt pl 1 != 2

/-- Whether the owner a REMOVE-HOLD carries names a master port other than the requester (R96). -/
def namesOtherMaster (p : Port) (pl : List Byte) : Bool :=
  match ownerOf p (byteAt pl 3) with
  | some (.master q) => q != p
  | _ => false

/-- Whether a REMOVE-HOLD carries the override mark. -/
def overrideMark (pl : List Byte) : Bool := (byteAt pl 4).testBit 0

/-- The authority of REMOVE-HOLD, by the owner and the override mark carried (R95, R96, R189): another master's entry needs
the mark, and the mark needs the Panel port and the key at LOCAL, whatever owner it comes with (log entry 49). -/
def grantRemoveHold (k : KeyPosition) (pl : List Byte) (p : Port) : Bool :=
  if overrideMark pl then p == .panel && k == .localPos else !namesOtherMaster p pl

/-! ### A frame ends at a port -/

/-- The port clocks out bytes in a transfer. -/
def State.clockOut (s : State) (p : Port) (bytes : List Byte) : State :=
  s.setPort p { s.port p with clockedOut := bytes }

/-- A transfer that writes n bytes clocks out NOT_READY in each (R196). -/
def State.clockNotReady (s : State) (p : Port) (n : Nat) : State := s.clockOut p (List.replicate n 0#8)

/-- The port's slot. -/
def State.setSlot (s : State) (p : Port) (x : PortSlot) : State := s.setPort p { s.port p with slot := x }

/-- The part waits for an owner's answer at a port. -/
def PortSlot.isInFlight : PortSlot → Bool
  | .inFlight _ => true
  | _ => false

/-- A frame that ends while an orphan request stands is refused PORT_BUSY at once (R193; log entry 25). -/
def State.refuseOrphan (s : State) (p : Port) (code : Byte) : State :=
  s.setSlot p (.ready { status := .portBusy, code := code, counter := (s.port p).counter, data := [] })

/-- A frame that ends while a request is in flight leaves a busy note, unless its check code does not match
(R185). -/
def State.noteBusy (s : State) (p : Port) (code : Byte) (matching : Bool) : State :=
  if matching then s.setPort p { s.port p with busyNote := some code } else s

/-- What a frame meets before its checks: a port in reset takes no transfer; an orphan request or a request in
flight turns it away; otherwise the slot becomes IN_FLIGHT with the code, and the checks follow
(R184, R185, R193). -/
def State.takeFrame (s : State) (p : Port) (size : Nat) (code : Byte) (matching : Bool)
    (check : State → State) : State :=
  let q := s.port p
  if q.inReset then s
  else
    let t := s.clockNotReady p size
    if q.orphan then t.refuseOrphan p code
    else if q.slot.isInFlight then t.noteBusy p code matching
    else check (t.setSlot p (.inFlight code))

/-- The refusals FRAME and UNKNOWN answer code 0 (R196). -/
def State.refuseUnnamed (s : State) (p : Port) (st : Status) : State := (s.setSlot p (.inFlight 0)).reply p st

/-- The counter of a control request that passed rank SEQUENCE rises by 1 (R188). -/
def State.countControl (s : State) (p : Port) : State :=
  let q := s.port p
  s.setPort p { q with counter := q.counter + 1 }

/-- A READ-class request: ranks FRAME and AUTHORITY, then its owner (R186, R187). -/
def State.readRequest (s : State) (p : Port) (code : Byte) (granted : Bool) (fr : Frame)
    (owner : State → State) : State :=
  s.takeFrame p (frameSize fr) code (frameCheckMatches code fr) fun t =>
    if !framePasses code fr then t.refuseUnnamed p .frame
    else if !granted then t.reply p .authority
    else owner t

/-- A control-class request: ranks FRAME, AUTHORITY and SEQUENCE, the increment, then its owner (R187, R188), which acts
because of the port's request (R172). -/
def State.controlRequest (s : State) (p : Port) (code : Byte) (granted : Bool) (fr : Frame)
    (owner : State → State) : State :=
  s.takeFrame p (frameSize fr) code (frameCheckMatches code fr) fun t =>
    if !framePasses code fr then t.refuseUnnamed p .frame
    else if !granted then t.reply p .authority
    else if fr.counter ≠ (t.port p).counter then t.reply p .sequence
    else (t.countControl p).causedBy p owner

/-! ### Answers of owners -/

/-- The answer ACCEPTED with data. -/
def State.answerData (s : State) (p : Port) (data : List Byte) : State := s.respond p .accepted data

/-- A refusal at rank ARGUMENT. -/
def State.badArgument (s : State) (p : Port) : State := s.reply p .argument

/-- A value of a fixed width that may be absent: zeros then (log entry 16). -/
def padded {α : Type} (o : Option α) (n : Nat) (g : α → List Byte) : List Byte :=
  match o with
  | some a => g a
  | none => List.replicate n 0#8

/-- The time left on a timer that may not run, in ms. -/
def State.timeLeft (s : State) (t : Option Timer) : Nat :=
  match t with
  | some t => t.left s.ms
  | none => 0

/-- A setting write of a healthy store is queued; a store in its fault state refuses it (R178, R182). -/
def State.queueWrite (s : State) (p : Port) (w : PortWrite) : State :=
  if s.store.fault.isSome then s.reply p .storeFault else s.storeEnqueue (.port p w)

/-! ### Reading a response (R184, R185) -/

/-- The bytes a transfer of a given count clocks out of a response; 0x00 past its end (R196). -/
def clocked (bytes : List Byte) (count : Nat) : List Byte :=
  (bytes ++ List.replicate count 0#8).take count

/-- A transfer that only reads. -/
def State.readTransfer (s : State) (p : Port) (count : Nat) : State :=
  let q := s.port p
  if q.inReset then s
  else
    match q.slot with
    | .ready r =>
      let t := s.clockOut p (clocked r.bytes count)
      if r.bytes.length ≤ count then t.setSlot p .idle else t
    | .inFlight _ =>
      match q.busyNote with
      | some code =>
        let r : Response := { status := .portBusy, code := code, counter := q.counter, data := [] }
        let t := s.clockOut p (clocked r.bytes count)
        t.setPort p { t.port p with busyNote := none }
      | none => s.clockNotReady p count
    | _ => s.clockNotReady p count

end Sys2Proof.Machine
end

