-- ==== Sys2Proof/Machine/BreakerCommands.lean ====
section
/-! DEFINITION. The breaker interface's events: POSITION_CONTACT_CHANGE (R49), POSITION_FAULT_TIMER_EXPIRY (R50),
PULSE_TIMER_EXPIRY (R56), TRIP_CONFIRM_TIME_EXPIRY (R57), CLOSE_CONFIRM_TIME_EXPIRY (R61). Each may end the pulse
wait of a RESTART (R194). -/

namespace Sys2Proof.Machine

def execPositionContactChange (f : Feeder) (c : Contacts) (s : State) : Host.Outcome State Fault Refusal :=
  event s (fun s => (s.contactChange f c).pollRestart)

def execPositionFaultTimerExpiry (f : Feeder) (s : State) : Host.Outcome State Fault Refusal :=
  event s (fun s => if timerDue s.ms (s.breaker f).faultTimer then s.positionFault f else s)

def execPulseTimerExpiry (f : Feeder) (s : State) : Host.Outcome State Fault Refusal :=
  event s (fun s => if timerDue s.ms (s.breaker f).slot.pulseTimer then (s.pulseEnd f).pollRestart else s)

def execTripConfirmTimeExpiry (f : Feeder) (s : State) : Host.Outcome State Fault Refusal :=
  event s (fun s => if timerDue s.ms (s.breaker f).slot.tripConfirmTimer then (s.tripTimeEnd f).pollRestart else s)

def execCloseConfirmTimeExpiry (f : Feeder) (s : State) : Host.Outcome State Fault Refusal :=
  event s (fun s => if timerDue s.ms (s.breaker f).slot.closeConfirmTimer then (s.closeTimeEnd f).pollRestart else s)

end Sys2Proof.Machine
end

