-- ==== Sys2Proof/Machine/ReadCommands.lean ====
section
/-! DEFINITION. The READ-class requests: what each returns (R29, R31, R47, R64, R86, R107, R118, R128, R148, R171,
R183, R192). The layouts follow R197; where it leaves a layout open the choice is log entries 15 and 16. -/

namespace Sys2Proof.Machine

/-- The feeder a one-byte payload names, when the payload is one byte long. -/
def oneFeeder (pl : List Byte) : Option Feeder := if pl.length = 1 then feederOf (byteAt pl 0) else none

/-! ### READ-CURVE (R29) -/

def ownerReadCurve (p : Port) (pl : List Byte) (s : State) : State :=
  if pl.length = 1 ∧ 1 ≤ byteAt pl 0 ∧ byteAt pl 0 ≤ 4 then
    s.answerData p (curveBytes (s.curve (byteAt pl 0)))
  else s.badArgument p

def reqReadCurve (p : Port) (fr : Frame) (s : State) : State :=
  s.readRequest p 0x03 true fr (ownerReadCurve p fr.payload)

def execReadCurve (p : Port) (fr : Frame) (s : State) : Host.Outcome State Fault Refusal :=
  event s (reqReadCurve p fr)

/-! ### READ-PROTECTION (R31, R47) -/

/-- An inverse-time element. -/
def Inverse.bytes (x : Inverse) (tms : Nat) : List Byte :=
  u16 x.ratio ++ bit x.pickup ++ u32 x.acc ++ bit x.operated ++ u8 tms

/-- The observation window: whether open, its length, its counts. -/
def windowBytes (w : Option Window) : List Byte :=
  bit w.isSome ++ padded w 8 (fun w => u16 w.length ++ u16 w.samples ++ u16 w.sefSamples ++ u16 w.pickupSamples)

/-- The SEF action in force, as R114 has it carried: 0 ALARM, 1 TRIP. -/
def sefActionBytes (e : Effective) : List Byte := bit e.sefTrip

/-- The fields of R31 and R47. -/
def State.protectionBytes (s : State) (f : Feeder) : List Byte :=
  let u := s.unit f
  let e := s.effective f
  let g := e.group
  u8 (s.receiver f).state.code ++ padded u.last 8 (fun x => u16 x.ia ++ u16 x.ib ++ u16 x.ic ++ u16 x.i0) ++
    u.oc.bytes e.ocTms ++ u.ef.bytes e.efTms ++
    u8 u.hs.count ++ bit u.hs.operated ++ u8 e.hsFrames ++
    bit u.base.seeded ++ u32 u.base.acc ++ u16 (u.base.value g.shift) ++ u8 g.shift ++ u16 g.limit ++
    bit u.base.high ++ bit u.base.frozen ++
    u16 u.sef.residual ++ u16 e.sefPickup ++ bit u.sef.pickup ++
    u16 u.sef.count ++ u16 e.sefDelay ++ bit u.sef.operated ++ bit u.sef.alarm ++
    sefActionBytes e ++ windowBytes u.window

def ownerReadProtection (p : Port) (pl : List Byte) (s : State) : State :=
  match oneFeeder pl with
  | some f => s.answerData p (s.protectionBytes f)
  | none => s.badArgument p

def reqReadProtection (p : Port) (fr : Frame) (s : State) : State :=
  s.readRequest p 0x02 true fr (ownerReadProtection p fr.payload)

def execReadProtection (p : Port) (fr : Frame) (s : State) : Host.Outcome State Fault Refusal :=
  event s (reqReadProtection p fr)

/-! ### READ-BREAKER (R64) -/

/-- The slot: kind, purposes, cause, phase, requesters, cut close, time since pulse start, which the pulse lengths and
confirm times of R52 keep within 2,560 ms. DESIGN CHOICE (log entry 16), unsafe: an empty slot is the one byte 0, without
bytes for the fields of an operation. -/
def Slot.bytes (now : Ms) : Slot → List Byte
  | .empty => u8 0
  | .trip op =>
    u8 1 ++ u8 op.purposes.code ++ optCode op.cause Cause.code ++ u8 op.phase.code ++
      listBytes op.requesters (fun r => u8 r.code) ++ padded op.cut 2 cutBytes ++ u16 (elapsed now op.started)
  | .close op =>
    u8 2 ++ u8 op.purpose.code ++ u8 0 ++ u8 op.phase.code ++ listBytes [op.requester] (fun r => u8 r.code) ++
      padded (none : Option CutClose) 2 cutBytes ++ u16 (elapsed now op.started)

/-- A last outcome with its time of day. -/
def TimedOutcome.bytes (o : TimedOutcome) : List Byte := u8 o.outcome.code ++ timeBytes o.time

/-- The fields of R64. -/
def State.breakerBytes (s : State) (f : Feeder) : List Byte :=
  let b := s.breaker f
  let g := (s.effective f).group
  bit b.contacts.openMade ++ bit b.contacts.closedMade ++ u8 b.decoded.code ++ u8 (stableCode b.stableClosed) ++
    bit b.alarm ++ bit b.faultTimer.isSome ++ b.slot.bytes s.ms ++
    u16 (pulseMs g.pulseCode) ++ u16 g.tripConfirm ++ u16 g.closeConfirm ++
    bit b.tripCoil ++ bit b.closeCoil ++ bit b.breakerFailOutput ++
    padded b.lastTrip 7 TimedOutcome.bytes ++ padded b.lastClose 7 TimedOutcome.bytes

def ownerReadBreaker (p : Port) (pl : List Byte) (s : State) : State :=
  match oneFeeder pl with
  | some f => s.answerData p (s.breakerBytes f)
  | none => s.badArgument p

def reqReadBreaker (p : Port) (fr : Frame) (s : State) : State :=
  s.readRequest p 0x05 true fr (ownerReadBreaker p fr.payload)

def execReadBreaker (p : Port) (fr : Frame) (s : State) : Host.Outcome State Fault Refusal :=
  event s (reqReadBreaker p fr)

/-! ### READ-SEQUENCER (R86) -/

/-- The fields of R86. -/
def State.sequencerBytes (s : State) (f : Feeder) : List Byte :=
  let q := s.sequencer f
  let e := s.effective f
  u8 q.state.code ++ optCode q.phase ClosePhase.code ++
    u8 q.shots ++ u8 e.shotLimit ++ u8 e.group.shots ++ u8 e.levelShots ++
    bit q.mark ++ bit q.openTaken ++ optCode q.pendingOpen.head? portNumber ++ optCode q.manualClose portNumber ++
    optCode q.cause Cause.code ++ optCode q.reason LockoutReason.code ++
    u32 (s.timeLeft q.timer) ++ u32 (match q.timer with | some t => t.length | none => 0) ++
    u32 (e.group.nextDeadTime q) ++ u32 e.group.reclaim

def ownerReadSequencer (p : Port) (pl : List Byte) (s : State) : State :=
  match oneFeeder pl with
  | some f => s.answerData p (s.sequencerBytes f)
  | none => s.badArgument p

def reqReadSequencer (p : Port) (fr : Frame) (s : State) : State :=
  s.readRequest p 0x08 true fr (ownerReadSequencer p fr.payload)

def execReadSequencer (p : Port) (fr : Frame) (s : State) : Host.Outcome State Fault Refusal :=
  event s (reqReadSequencer p fr)

/-! ### READ-HOLDS (R107) -/

/-- An entry with all its fields and the time left in whole seconds, rounded up. -/
def Hold.bytes (now : Ms) (h : Hold) : List Byte :=
  u8 h.owner.code ++ u8 h.kind.severity ++ u16 h.tag ++ u8 h.reason ++
    padded h.expiry 2 (fun e => u16 e.minutes) ++ stampBytes h.stamp ++
    padded h.expiry 4 (fun e => u32 (ceilDiv (e.timer.left now) 1000))

/-- The highest severity on a list, or 0 (R88, R107). -/
def highestSeverity (l : List Hold) : Nat := l.foldl (fun n h => max n h.kind.severity) 0

/-- The answer of a close-permission query for a purpose: PERMITTED 1, or BARRED 2 with the owner, the kind and the tag of
the entry that bars it (R90; log entry 16). -/
def permissionBytes (l : List Hold) (c : ClosePurpose) : List Byte :=
  u8 (if (barring l c).isSome then 2 else 1) ++
    padded (barring l c) 4 (fun h => u8 h.owner.code ++ u8 h.kind.severity ++ u16 h.tag)

/-- The fields of R107. DESIGN CHOICE (log entry 16), unsafe: the answers for the four purposes stand in the order AUTO,
REMOTE, LOCAL, HUNT. -/
def State.holdsBytes (s : State) (f : Feeder) : List Byte :=
  let k := s.holdTable f
  listBytes k.list (Hold.bytes s.ms) ++ u8 (masterCount k.list) ++ u8 k.list.length ++ u8 (highestSeverity k.list) ++
    permissionBytes k.list .auto ++ permissionBytes k.list .remote ++ permissionBytes k.list .localClose ++
    permissionBytes k.list .hunt ++ u8 (feederSetCode k.corridor) ++ bit k.pendingMark

def ownerReadHolds (p : Port) (pl : List Byte) (s : State) : State :=
  match oneFeeder pl with
  | some f => s.answerData p (s.holdsBytes f)
  | none => s.badArgument p

def reqReadHolds (p : Port) (fr : Frame) (s : State) : State :=
  s.readRequest p 0x0D true fr (ownerReadHolds p fr.payload)

def execReadHolds (p : Port) (fr : Frame) (s : State) : Host.Outcome State Fault Refusal :=
  event s (reqReadHolds p fr)

/-! ### READ-FIRE-TABLE (R118) -/

/-- The 36 fields, then for each field whether it equals the fixed copy's, then the replacement mark, as R118 lists them. -/
def State.fireTableBytes (s : State) : List Byte :=
  s.fire.table.flatMap u8 ++ (s.fire.table.zip fixedTable).flatMap (fun x => bit (x.1 == x.2)) ++ bit s.fire.replaced

def ownerReadFireTable (p : Port) (pl : List Byte) (s : State) : State :=
  if pl = [] then s.answerData p s.fireTableBytes else s.badArgument p

def reqReadFireTable (p : Port) (fr : Frame) (s : State) : State :=
  s.readRequest p 0x15 true fr (ownerReadFireTable p fr.payload)

def execReadFireTable (p : Port) (fr : Frame) (s : State) : Host.Outcome State Fault Refusal :=
  event s (reqReadFireTable p fr)

/-! ### READ-FIRE (R128) -/

/-- A request slot: level, set-at stamp, restored mark, whole minutes left, rounded up. DESIGN CHOICE (log entry 15),
unsafe: the restored mark is carried as 0 for clear and 1 for DAMAGED. -/
def slotBytes (now : Ms) (r : Option FireRequest) : List Byte :=
  padded r 11 (fun r =>
    u8 r.level.number ++ stampBytes r.stamp ++ bit r.damaged ++
      padded r.expiry 2 (fun e => u16 (ceilDiv (e.timer.left now) minuteMs)))

/-- The effective settings of R119, each scaled value beside its group value, then the unscaled group fields. -/
def Effective.bytes (e : Effective) : List Byte :=
  let g := e.group
  u8 e.level.number ++ u8 e.letter.code ++
    u8 e.ocTms ++ u8 g.ocTms ++ u8 e.efTms ++ u8 g.efTms ++ u8 e.hsFrames ++ u8 g.hsFrames ++
    u16 e.sefPickup ++ u16 g.sefPickup ++ u16 e.sefDelay ++ u16 g.sefDelay ++
    u8 e.levelShots ++ sefActionBytes e ++ bit e.sefReclose ++ bit e.huntCloses ++ bit e.patrol ++
    u8 e.shotLimit ++ u8 g.shots ++
    u16 g.ocPickup ++ u8 g.ocCurve ++ u32 g.ocReset ++ u16 g.hsRatio ++
    u16 g.efPickup ++ u8 g.efCurve ++ u32 g.efReset ++ u8 g.shift ++ u16 g.limit ++
    u16 g.huntPickup ++ u16 g.huntQuorum ++ u32 g.dead1 ++ u32 g.dead2 ++ u32 g.dead3 ++ u32 g.dead4 ++
    u32 g.reclaim ++ u16 g.tripConfirm ++ u16 g.closeConfirm ++ u8 g.pulseCode

/-- The fields of R128's READ-FIRE. -/
def State.fireBytes (s : State) : List Byte :=
  allPorts.flatMap (fun p => slotBytes s.ms (portGet s.fire.requests p)) ++
    u8 s.fire.site.number ++ bit s.fire.pendingMark ++
    allFeeders.flatMap (fun f => u8 (feederGet s.fire.exposure f).code ++ (s.effective f).bytes)

def ownerReadFire (p : Port) (pl : List Byte) (s : State) : State :=
  if pl = [] then s.answerData p s.fireBytes else s.badArgument p

def reqReadFire (p : Port) (fr : Frame) (s : State) : State :=
  s.readRequest p 0x14 true fr (ownerReadFire p fr.payload)

def execReadFire (p : Port) (fr : Frame) (s : State) : Host.Outcome State Fault Refusal :=
  event s (reqReadFire p fr)

/-! ### READ-GROUP (R128) -/

def ownerReadGroup (p : Port) (pl : List Byte) (s : State) : State :=
  if pl.length = 2 then
    match feederOf (byteAt pl 0), letterOf (byteAt pl 1) with
    | some f, some l =>
      s.answerData p (groupBytes (s.workingGroup f l).group ++ bit ((s.effective f).letter == l))
    | _, _ => s.badArgument p
  else s.badArgument p

def reqReadGroup (p : Port) (fr : Frame) (s : State) : State :=
  s.readRequest p 0x16 true fr (ownerReadGroup p fr.payload)

def execReadGroup (p : Port) (fr : Frame) (s : State) : Host.Outcome State Fault Refusal :=
  event s (reqReadGroup p fr)

/-! ### READ-STORE (R183) -/

/-- The owner of an internal write: the hold tables 1 to 4, the fire controller 5, the line bus controller 6. -/
def RetentionOwner.code : RetentionOwner → Nat
  | .holds f => feederNumber f
  | .fireRequests => 5
  | .isolation => 6

/-- An entry: port write 1 or internal write 2, its port or owner, whether begun. -/
def StoreEntry.bytes (e : StoreEntry) : List Byte :=
  (match e.job with
    | .port p _ => u8 1 ++ u8 (portNumber p)
    | .internal o _ => u8 2 ++ u8 o.code) ++ bit e.begun

/-- The fields of R183. DESIGN CHOICE (log entry 16), unsafe: a damaged list of more than the 255 items a count byte holds
is carried with its first 255. -/
def State.storeBytes (s : State) : List Byte :=
  bit s.store.fault.isSome ++ optCode s.store.fault StoreFault.code ++
    listBytes (s.store.damaged.take 255) recordIdBytes ++
    listBytes s.store.queue StoreEntry.bytes ++
    allFeeders.flatMap (fun f => bit (s.pendingMark (.holds f))) ++ bit (s.pendingMark .fireRequests) ++
    bit (s.pendingMark .isolation)

def ownerReadStore (p : Port) (pl : List Byte) (s : State) : State :=
  if pl = [] then s.answerData p s.storeBytes else s.badArgument p

def reqReadStore (p : Port) (fr : Frame) (s : State) : State :=
  s.readRequest p 0x29 true fr (ownerReadStore p fr.payload)

def execReadStore (p : Port) (fr : Frame) (s : State) : Host.Outcome State Fault Refusal :=
  event s (reqReadStore p fr)

/-! ### READ-LINEBUS and READ-UNITS (R148) -/

/-- An entry of the transmit queue. -/
def BusEntry.bytes (now : Ms) (e : BusEntry) : List Byte :=
  u8 e.source.code ++ u8 e.address ++ u8 e.kind.code ++ u8 e.priority ++ u8 e.attempts ++ bit e.clampWait ++
    u32 (elapsed now e.queuedAt) ++ bit (e.phase == .inFlight)

/-- The fields of R148's READ-LINEBUS. The time spent in STUCK is carried as zeros in any other state (log entry 16). -/
def State.linebusBytes (s : State) : List Byte :=
  let b := s.bus
  u8 b.state.code ++ u32 (if b.state = .stuck then elapsed s.ms b.since else 0) ++
    listBytes b.queue (BusEntry.bytes s.ms) ++ u8 (masterEntries b.queue) ++ bit b.pendingMark ++
    allFeeders.flatMap (fun f => listBytes (feederGet b.lists f) u8)

def ownerReadLinebus (p : Port) (pl : List Byte) (s : State) : State :=
  if pl = [] then s.answerData p s.linebusBytes else s.badArgument p

def reqReadLinebus (p : Port) (fr : Frame) (s : State) : State :=
  s.readRequest p 0x1B true fr (ownerReadLinebus p fr.payload)

def execReadLinebus (p : Port) (fr : Frame) (s : State) : Host.Outcome State Fault Refusal :=
  event s (reqReadLinebus p fr)

/-- A unit record with its health (R143, R148). DESIGN CHOICE (log entry 15), unsafe: a field that is yes or no, on or off,
set or clear, and the indication NONE or FAULT_PASSED, is carried as 1 or 0. -/
def UnitRecord.bytes (r : UnitRecord) : List Byte :=
  bit r.place.isSome ++ padded r.place 2 placeBytes ++ u8 r.switch.code ++ bit r.faultPassed ++ bit r.localLock ++
    bit r.batteryLow ++ bit r.silent ++ bit r.isolated ++ padded r.lastContact 7 stampBytes ++
    padded r.lastCommand 9 (fun c => u8 c.source.code ++ u8 c.kind.code ++ u8 c.code.code ++ timeBytes c.time) ++
    u8 r.health.code

def ownerReadUnits (p : Port) (pl : List Byte) (s : State) : State :=
  let a := byteAt pl 0
  let n := byteAt pl 1
  if pl.length = 2 ∧ 1 ≤ a ∧ a ≤ 31 ∧ a + n ≤ 32 then
    s.answerData p (((s.bus.units.drop (a - 1)).take n).flatMap UnitRecord.bytes)
  else s.badArgument p

def reqReadUnits (p : Port) (fr : Frame) (s : State) : State :=
  s.readRequest p 0x1C true fr (ownerReadUnits p fr.payload)

def execReadUnits (p : Port) (fr : Frame) (s : State) : Host.Outcome State Fault Refusal :=
  event s (reqReadUnits p fr)

/-! ### READ-HUNT, READ-HUNT-TRACE, READ-HUNT-BLOCKS (R171) -/

/-- The open window of the current block: its number within the block, 0 when none is open, and its counts so far
(R47, R171). DESIGN CHOICE (log entry 16), unsafe: the counts stand behind R47's open flag and length. -/
def State.huntWindowBytes (s : State) : List Byte :=
  let w := s.hunt.feeder.bind (fun f => (s.unit f).window)
  u8 (if w.isSome then s.hunt.run.windows + 1 else 0) ++ windowBytes w

/-- The fields of R171's READ-HUNT. A result record that does not stand is left out behind its mark (log entry 16). DESIGN
CHOICE (log entry 16), unsafe: the lock set, which one byte of bits cannot hold, is carried as a count byte and the indices
in rising order, and the open window between the lock set and the result record. -/
def State.huntBytes (s : State) : List Byte :=
  let h := s.hunt
  u8 h.state.code ++ optCode h.feeder feederNumber ++ u8 h.current ++
    (if h.state = .running then u8 h.phase.code else u8 0) ++
    (if h.state = .paused then u8 h.pauseReason.code ++ u16 (ceilDiv (s.timeLeft h.pauseTimer) 1000)
      else u8 0 ++ u16 0) ++
    u8 h.detourFirst ++ padded h.returnSlot 2 (fun x => u8 x.block ++ u8 x.kind.code) ++
    u8 (h.insertion.getD 0) ++ bit h.pendingDetour ++ bit h.stepMode ++ u8 h.steps ++
    listBytes h.lockSet u8 ++ s.huntWindowBytes ++ bit h.result.isSome ++ optBytes h.result HuntResult.bytes ++
    bit h.outstanding

def ownerReadHunt (p : Port) (pl : List Byte) (s : State) : State :=
  if pl = [] then s.answerData p s.huntBytes else s.badArgument p

def reqReadHunt (p : Port) (fr : Frame) (s : State) : State :=
  s.readRequest p 0x23 true fr (ownerReadHunt p fr.payload)

def execReadHunt (p : Port) (fr : Frame) (s : State) : Host.Outcome State Fault Refusal :=
  event s (reqReadHunt p fr)

def ownerReadHuntTrace (p : Port) (pl : List Byte) (s : State) : State :=
  let n := byteAt pl 0
  if pl.length = 1 ∧ 1 ≤ n ∧ n ≤ 64 then
    s.answerData p
      (listBytes ((s.hunt.trace.drop (n - 1)).take 8) TraceRecord.bytes ++ u8 s.hunt.trace.length)
  else s.badArgument p

def reqReadHuntTrace (p : Port) (fr : Frame) (s : State) : State :=
  s.readRequest p 0x24 true fr (ownerReadHuntTrace p fr.payload)

def execReadHuntTrace (p : Port) (fr : Frame) (s : State) : Host.Outcome State Fault Refusal :=
  event s (reqReadHuntTrace p fr)

def ownerReadHuntBlocks (p : Port) (pl : List Byte) (s : State) : State :=
  let a := byteAt pl 0
  let n := byteAt pl 1
  if pl.length = 2 ∧ 1 ≤ a ∧ 1 ≤ n ∧ n ≤ 8 ∧ a + n ≤ 256 then
    s.answerData p
      ((indicesFrom a n).flatMap (fun i => huntBlockBytes (s.huntBlock i) ++ bit (s.hunt.lockSet.contains i)))
  else s.badArgument p

def reqReadHuntBlocks (p : Port) (fr : Frame) (s : State) : State :=
  s.readRequest p 0x25 true fr (ownerReadHuntBlocks p fr.payload)

def execReadHuntBlocks (p : Port) (fr : Frame) (s : State) : Host.Outcome State Fault Refusal :=
  event s (reqReadHuntBlocks p fr)

/-! ### READ-ATTENTION and READ-PORT (R192) -/

/-- The key switch position: LOCAL 1, REMOTE 2 (R190). -/
def keyCode : KeyPosition → Nat
  | .localPos => 1
  | .remotePos => 2

/-- READ-ATTENTION returns the flags and the mask, and clears every flag (R192). -/
def ownerReadAttention (p : Port) (pl : List Byte) (s : State) : State :=
  let q := s.port p
  if pl = [] then
    (s.setPort p { q with flags := 0 }).answerData p [q.flags, q.mask]
  else s.badArgument p

def reqReadAttention (p : Port) (fr : Frame) (s : State) : State :=
  s.readRequest p 0x2A true fr (ownerReadAttention p fr.payload)

def execReadAttention (p : Port) (fr : Frame) (s : State) : Host.Outcome State Fault Refusal :=
  event s (reqReadAttention p fr)

def ownerReadPort (p : Port) (pl : List Byte) (s : State) : State :=
  let q := s.port p
  if pl = [] then
    s.answerData p (u16 q.counter.toNat ++ [q.flags, q.mask] ++ u8 (keyCode s.key) ++ bit q.orphan)
  else s.badArgument p

def reqReadPort (p : Port) (fr : Frame) (s : State) : State :=
  s.readRequest p 0x2B true fr (ownerReadPort p fr.payload)

def execReadPort (p : Port) (fr : Frame) (s : State) : Host.Outcome State Fault Refusal :=
  event s (reqReadPort p fr)

end Sys2Proof.Machine
end

