-- ==== Sys2Proof/Machine/BusCommands.lean ====
section
/-! DEFINITION. The line bus controller's events and requests (R131 to R146). A row of the table that names an event
of the wire asserts what its rule says of the wire's levels; the state tests below are what the controller itself
holds (log entry 17). -/

namespace Sys2Proof.Machine

/-- The time spent in the present bus state, in ms. -/
def State.busElapsed (s : State) : Nat := elapsed s.ms s.bus.since

/-- Change the transmit queue. -/
def State.mapQueue (s : State) (g : List BusEntry → List BusEntry) : State :=
  s.setBus { s.bus with queue := g s.bus.queue }

/-- Whether a bus state is one of a list. -/
def State.busIn (s : State) (l : List BusState) : Bool := l.contains s.bus.state

/-! ### Contention (R131, R132) -/

/-- The clamp wait of every entry is cleared (R139). -/
def clearWaits (q : List BusEntry) : List BusEntry := q.map (fun e => { e with clampWait := false })

/-- The end of the quiet gap (R131): clamp waits are cleared, then PREAMBLE with the head of the queue, or IDLE. -/
def State.gapEnd (s : State) : State :=
  let t := s.mapQueue clearWaits
  if t.bus.queue = [] then t.enterBus .idle [] else t.startPreamble

def execQuietGapEnd (s : State) : Host.Outcome State Fault Refusal :=
  event s (fun s => if s.bus.state = .gap ∧ quietGapMs ≤ s.busElapsed then s.gapEnd else s)

/-- ACTIVE seen: another station's preamble begins (R131), or the 500 ms of a STUCK bus begin anew (R141). -/
def State.activeSeen (s : State) : State :=
  if s.busIn [.gap, .idle] then s.enterBus .listening []
  else if s.bus.state = .stuck then s.setBus { s.bus with lastActive := s.ms }
  else s

def execActiveSeen (s : State) : Host.Outcome State Fault Refusal := event s State.activeSeen

def execLostArbitration (s : State) : Host.Outcome State Fault Refusal :=
  event s (fun s =>
    if s.bus.state = .preamble then (s.mapQueue (backToWaiting .preamble)).enterBus .listening [] else s)

/-- The characters the part sends for the transaction in flight. -/
def State.flightChars (s : State) : List Byte :=
  match s.bus.inFlight with
  | some e => e.chars
  | none => []

def execPreambleWon (s : State) : Host.Outcome State Fault Refusal :=
  event s (fun s =>
    if s.bus.state = .preamble then
      let t := s.mapQueue preambleToFlight
      t.enterBus .sending t.flightChars
    else s)

def execCheckSent (s : State) : Host.Outcome State Fault Refusal :=
  event s (fun s =>
    if s.bus.state = .sending ∧ s.bus.mismatch = none then s.enterBus .replyWait [] else s)

/-! ### Echo mismatches (R133) -/

/-- The part releases its driver and watches the bus (R133). -/
def execEchoMismatch (s : State) : Host.Outcome State Fault Refusal :=
  event s (fun s =>
    if s.busIn [.sending, .acking] && s.bus.mismatch.isNone then
      s.setBus { s.bus with mismatch := some s.ms, sent := [] }
    else s)

/-! ### The end of an attempt (R134, R138) -/

/-- The attempt in flight ends, and the hunt engine is told of its own entry (R138 step 5, R142). -/
def State.attemptEnds (s : State) (c : CompletionCode) : State :=
  let r := s.endAttempt c
  match r.2 with
  | .nothing => r.1
  | .again e => if e.isHunt then r.1.huntAttemptFailed else r.1
  | .complete e c => if e.isHunt then r.1.huntUnitDone c else r.1

/-- Whether an echo mismatch is being watched, by its age in ms. -/
def State.mismatchWithin (s : State) : Bool :=
  match s.bus.mismatch with
  | some m => decide (elapsed s.ms m < clampMs)
  | none => false

def execEchoFail (s : State) : Host.Outcome State Fault Refusal :=
  event s (fun s =>
    if s.mismatchWithin then
      if s.bus.state = .sending then s.attemptEnds .echoFail
      else if s.bus.state = .acking then s.enterBus .gap []
      else s
    else s)

/-- A complete reply: the record first, then the end of the attempt (R134, R135). -/
def State.takeReply (s : State) (chars : List Byte) (framing : Bool) : State :=
  let j := judgeReply chars framing
  let t :=
    match j.carried, s.bus.inFlight with
    | some w, some e => s.unitHeard e.address w
    | _, _ => s
  t.attemptEnds j.outcome

def execReply (chars : List Byte) (framing : Bool) (s : State) : Host.Outcome State Fault Refusal :=
  event s (fun s => if s.bus.state = .replyWait then s.takeReply chars framing else s)

def execReplyWindowClose (s : State) : Host.Outcome State Fault Refusal :=
  event s (fun s =>
    if s.bus.state = .replyWait ∧ replyWindowMs ≤ s.busElapsed then s.attemptEnds .noReply else s)

def execReplyIncomplete (s : State) : Host.Outcome State Fault Refusal :=
  event s (fun s => if s.bus.state = .replyWait then s.attemptEnds .checkFail else s)

/-! ### Frames of other stations (R134 to R136) -/

/-- A frame heard to its end (R134): a REPORT to the part is taken, and the part prepares to send its ACK at the opening of
the reply window (log entry 18); anything else is discarded and the quiet gap follows. -/
def State.hearFrame (s : State) (chars : List Byte) (framing : Bool) : State :=
  match judgeReport chars framing with
  | none => s.enterBus .gap []
  | some r =>
    let f := s.hunt.feeder
    let t := s.takeReport r
    let u := t.1.setBus { t.1.bus with ackTimer := some (s.timer windowOpensMs) }
    match t.2, f with
    | some i, some f => u.huntUnitMove f i
    | _, _ => u

/-- Whether a frame is being heard: LISTENING, and not the 2 ms between a REPORT taken and its ACK. -/
def Bus.hearing (b : Bus) : Bool := b.state == .listening && b.ackTimer.isNone

def execReport (chars : List Byte) (framing : Bool) (s : State) : Host.Outcome State Fault Refusal :=
  event s (fun s => if s.bus.hearing then s.hearFrame chars framing else s)

def execAckSent (s : State) : Host.Outcome State Fault Refusal :=
  event s (fun s => if s.bus.state = .acking ∧ s.bus.mismatch = none then s.enterBus .gap [] else s)

def execHeardFrameEnd (s : State) : Host.Outcome State Fault Refusal :=
  event s (fun s => if s.bus.hearing then s.enterBus .gap [] else s)

/-! ### Clamps and a stuck bus (R139 to R141) -/

/-- Whether a clamp may be seen in the present bus state: with the driver released, or 20 ms after a mismatch
(R133, R139). -/
def State.clampPossible (s : State) : Bool :=
  match s.bus.mismatch with
  | some m => s.busIn [.sending, .acking] && decide (clampMs ≤ elapsed s.ms m)
  | none => s.busIn [.gap, .idle, .listening, .replyWait]

/-- The start of the ACTIVE run of a clamp seen: the mismatch, or 20 ms before (R139; log entry 19). -/
def State.clampStart (s : State) : Ms :=
  match s.bus.mismatch with
  | some m => m
  | none => s.ms - BitVec.ofNat 32 clampMs

/-- A clamp seen (R139): the attempt in flight ends ABORTED and is not counted; every entry takes the clamp wait. -/
def State.clampSeen (s : State) : State :=
  let start := s.clampStart
  let t := s.mapQueue (fun q => (backToWaiting .inFlight q).map (fun e => { e with clampWait := true }))
  let u := t.enterBus .clampIn []
  u.setBus { u.bus with runStart := start }

def execClampSeen (s : State) : Host.Outcome State Fault Refusal :=
  event s (fun s => if s.clampPossible then s.clampSeen else s)

def execClampEnd (s : State) : Host.Outcome State Fault Refusal :=
  event s (fun s => if s.bus.state = .clampIn then s.enterBus .gap [] else s)

/-- An entry that leaves the queue with a code is handed on, to the hunt engine too for its own (R138). -/
def State.completeEntry (c : CompletionCode) (s : State) (e : BusEntry) : State :=
  let t := s.busHandOn e c
  if e.isHunt then t.huntUnitDone c else t

/-- Every entry standing in the queue completes with a code, in queue order (R140, R141; log entry 21). -/
def State.completeAll (s : State) (c : CompletionCode) : State :=
  s.bus.queue.foldl (State.completeEntry c) (s.mapQueue (fun _ => []))

/-- LINEBUS-RESET accepted (R140): the queue is emptied, and the part drives the clamp; during one already driven the
clamp is not lengthened. -/
def State.linebusReset (s : State) (p : Port) : State :=
  let t := if s.bus.state = .clampOut then s else s.enterBus .clampOut []
  let u := t.completeAll .aborted
  u.setBus { u.bus with resetPorts := u.bus.resetPorts ++ [p] }

def ownerLinebusReset (p : Port) (pl : List Byte) (s : State) : State :=
  if pl = [] then
    if s.bus.state = .stuck then s.reply p .busStuck else s.linebusReset p
  else s.badArgument p

def reqLinebusReset (p : Port) (fr : Frame) (s : State) : State :=
  s.controlRequest p 0x1A (grantStationRemote p) fr (ownerLinebusReset p fr.payload)

def execLinebusReset (p : Port) (fr : Frame) (s : State) : Host.Outcome State Fault Refusal :=
  event s (reqLinebusReset p fr)

/-- The end of the part's clamp (R140). -/
def State.clampOutEnd (s : State) : State :=
  let waiting := s.bus.resetPorts
  let t := s.enterBus .gap []
  waiting.foldl (fun t p => t.reply p .accepted) (t.setBus { t.bus with resetPorts := [] })

def execClampOutEnd (s : State) : Host.Outcome State Fault Refusal :=
  event s (fun s => if s.bus.state = .clampOut ∧ clampOutMs ≤ s.busElapsed then s.clampOutEnd else s)

/-- The bus becomes STUCK (R141), and reads ACTIVE. -/
def State.becomeStuck (s : State) : State :=
  let t := s.enterBus .stuck []
  let u := (t.setBus { t.bus with lastActive := s.ms }).completeAll .busStuck
  (u.append none (.block .lineBusController) .linebusStuck).setFlag .linebus

def execLinebusStuck (s : State) : Host.Outcome State Fault Refusal :=
  event s (fun s =>
    if s.bus.state = .clampIn ∧ stuckMs < elapsed s.ms s.bus.runStart then s.becomeStuck else s)

/-- The STUCK bus is restored (R141). -/
def State.busRestored (s : State) : State :=
  ((s.enterBus .idle []).append none (.block .lineBusController) (.linebusRestored s.busElapsed)).setFlag .linebus

/-- The bus is restored once 500 ms have passed since it was last said to read ACTIVE (R141; log entry 17). -/
def execLinebusRestored (s : State) : Host.Outcome State Fault Refusal :=
  event s (fun s => if s.bus.state = .stuck ∧ restoreMs ≤ elapsed s.ms s.bus.lastActive then s.busRestored else s)

/-! ### Commands from the masters (R145, R146) -/

/-- Whether a unit's place belongs to a feeder on which a hunt stands (R145). -/
def State.underHunt (s : State) (a : Nat) : Bool :=
  match (s.unitRecord a).place with
  | some x => s.huntOn x.feeder
  | none => false

/-- Whether a kind moves the switch. -/
def UnitCommandKind.moves : UnitCommandKind → Bool
  | .open => true
  | .close => true
  | .query => false
  | .clearIndication => false

/-- UNIT-COMMAND for an address and a kind within range (R145): the tests of the state rank, then the queue, with the
number of entries ahead in the answer. -/
def State.unitCommand (s : State) (p : Port) (a : Nat) (k : UnitCommandKind) : State :=
  if s.bus.state = .stuck then s.reply p .busStuck
  else if k.moves && s.underHunt a then s.reply p .huntActive
  else if k = .close ∧ (s.unitRecord a).isolated then s.reply p .isolated
  else if masterEntryLimit ≤ masterEntries s.bus.queue then s.reply p .full
  else
    let e := s.newEntry (.master p) a k
    let ahead := s.bus.queue.countP (fun x => decide (x.priority ≤ e.priority))
    (s.busEnqueue e).respond p .queued (u8 ahead)

def ownerUnitCommand (p : Port) (pl : List Byte) (s : State) : State :=
  let a := byteAt pl 0
  match unitCommandOf (byteAt pl 1) with
  | some k => if pl.length = 2 ∧ 1 ≤ a ∧ a ≤ 31 then s.unitCommand p a k else s.badArgument p
  | none => s.badArgument p

def reqUnitCommand (p : Port) (fr : Frame) (s : State) : State :=
  s.controlRequest p 0x17 (grantUnitCommand s.key fr.payload p) fr (ownerUnitCommand p fr.payload)

def execUnitCommand (p : Port) (fr : Frame) (s : State) : Host.Outcome State Fault Refusal :=
  event s (reqUnitCommand p fr)

/-- CLEAR-ISOLATION (R146). -/
def ownerClearIsolation (p : Port) (pl : List Byte) (s : State) : State :=
  let a := byteAt pl 0
  if pl.length = 1 ∧ 1 ≤ a ∧ a ≤ 31 then
    if (s.unitRecord a).isolated then
      let t := s.setIsolated a false
      t.reply p (t.retainedStatus .cleared)
    else s.reply p .notFound
  else s.badArgument p

def reqClearIsolation (p : Port) (fr : Frame) (s : State) : State :=
  s.controlRequest p 0x19 (grantStationRemote p) fr (ownerClearIsolation p fr.payload)

def execClearIsolation (p : Port) (fr : Frame) (s : State) : Host.Outcome State Fault Refusal :=
  event s (reqClearIsolation p fr)

end Sys2Proof.Machine
end

