-- ==== Sys2Proof/Machine/FireCommands.lean ====
section
/-! DEFINITION. The fire controller's commands: SET_FIRE_REQUEST (R109), WITHDRAW_FIRE_REQUEST (R110),
FIRE_REQUEST_EXPIRY (R111). -/

namespace Sys2Proof.Machine

/-- SET-FIRE-REQUEST (R109): the answer carries whether the request was new (1) or replaced (2), and the site level
after the change. -/
def State.setFireRequest (s : State) (p : Port) (l : Level) (minutes : Nat) : State :=
  let fresh := (portGet s.fire.requests p).isNone
  let r : FireRequest := { level := l, expiry := s.expiry minutes, stamp := s.stamp, damaged := false }
  let t := s.fireRequestChanged p (some r) .request
  t.respond p (t.retainedStatus .accepted) (u8 (if fresh then 1 else 2) ++ u8 t.fire.site.number)

def ownerSetFireRequest (p : Port) (pl : List Byte) (s : State) : State :=
  match levelOf (byteAt pl 0) with
  | some l =>
    if pl.length = 3 ∧ l ≠ .l0 ∧ wordAt pl 1 ≤ 2880 then s.setFireRequest p l (wordAt pl 1) else s.badArgument p
  | none => s.badArgument p

def reqSetFireRequest (p : Port) (fr : Frame) (s : State) : State :=
  s.controlRequest p 0x0E true fr (ownerSetFireRequest p fr.payload)

def execSetFireRequest (p : Port) (fr : Frame) (s : State) : Host.Outcome State Fault Refusal :=
  event s (reqSetFireRequest p fr)

/-- WITHDRAW-FIRE-REQUEST (R110). -/
def ownerWithdrawFireRequest (p : Port) (pl : List Byte) (s : State) : State :=
  if pl = [] then
    if (portGet s.fire.requests p).isNone then s.reply p .notFound
    else
      let t := s.fireRequestChanged p none .request
      t.reply p (t.retainedStatus .withdrawn)
  else s.badArgument p

def reqWithdrawFireRequest (p : Port) (fr : Frame) (s : State) : State :=
  s.controlRequest p 0x0F true fr (ownerWithdrawFireRequest p fr.payload)

def execWithdrawFireRequest (p : Port) (fr : Frame) (s : State) : Host.Outcome State Fault Refusal :=
  event s (reqWithdrawFireRequest p fr)

/-- Whether a slot's expiry timer has run out. -/
def slotExpired (now : Ms) (r : Option FireRequest) : Bool :=
  match r with
  | some r =>
    match r.expiry with
    | some e => e.timer.due now
    | none => false
  | none => false

/-- The expiry of a port's fire request, once its timer is due (R111). -/
def execFireRequestExpiry (p : Port) (s : State) : Host.Outcome State Fault Refusal :=
  event s (fun s =>
    if slotExpired s.ms (portGet s.fire.requests p) then s.fireRequestChanged p none .expiry else s)

end Sys2Proof.Machine
end

