-- ==== Sys2Proof/Machine/HoldCommands.lean ====
section
/-! DEFINITION. The hold tables' commands: PLACE_HOLD (R93, R94), REMOVE_HOLD (R95 to R97), HOLD_EXPIRY (R98),
PATROL_CLEAR (R102). -/

namespace Sys2Proof.Machine

/-- The answers to a change of the holds, in the order of R104. -/
inductive HoldAnswer where
  | placed | refreshed | removed
  deriving DecidableEq, Repr

def HoldAnswer.status : HoldAnswer → Status
  | .placed => .placed
  | .refreshed => .refreshed
  | .removed => .removed

def HoldAnswer.code : HoldAnswer → Nat
  | .placed => 1
  | .refreshed => 2
  | .removed => 3

/-- The answer to a change of the holds: under a store fault ACCEPTED_VOLATILE carrying which of the three it would have
been, numbered in R104's order (R104, R197). -/
def State.answerHold (s : State) (p : Port) (a : HoldAnswer) : State :=
  if s.store.fault.isSome then s.respond p .acceptedVolatile (u8 a.code) else s.reply p a.status

/-- PLACE-HOLD on a feeder: a refresh, FULL, or a new placement (R93, R94). -/
def State.placeMasterHold (s : State) (p : Port) (f : Feeder) (k : HoldKind) (tag reason minutes : Nat) : State :=
  let l := (s.holdTable f).list
  match l.find? (Hold.isOf (.master p) tag) with
  | some old =>
    (s.refreshHold f old { old with kind := k, reason := reason, expiry := s.expiry minutes } p).answerHold p .refreshed
  | none =>
    if masterHoldLimit ≤ masterCount l then s.reply p .full
    else
      (s.placeHold f
        { owner := .master p, kind := k, tag := tag, reason := reason, expiry := s.expiry minutes, stamp := s.stamp }
        (some p) none).answerHold p .placed

def ownerPlaceHold (p : Port) (pl : List Byte) (s : State) : State :=
  match feederOf (byteAt pl 0), holdKindOf (byteAt pl 1) with
  | some f, some k =>
    if pl.length = 7 ∧ wordAt pl 2 ≠ 0 ∧ wordAt pl 5 ≤ 1440 then
      s.placeMasterHold p f k (wordAt pl 2) (byteAt pl 4) (wordAt pl 5)
    else s.badArgument p
  | _, _ => s.badArgument p

def reqPlaceHold (p : Port) (fr : Frame) (s : State) : State :=
  s.controlRequest p 0x09 true fr (ownerPlaceHold p fr.payload)

def execPlaceHold (p : Port) (fr : Frame) (s : State) : Host.Outcome State Fault Refusal :=
  event s (reqPlaceHold p fr)

/-- REMOVE-HOLD on a feeder (R95 to R97): the cause is REQUEST for an own entry and OVERRIDE for another master's. -/
def State.removeMasterHold (s : State) (p : Port) (f : Feeder) (o : Owner) (tag : Nat) : State :=
  if !o.isMaster then s.reply p .automatic
  else
    match (s.holdTable f).list.find? (Hold.isOf o tag) with
    | some h => (s.removeHold f h (if o = .master p then .request else .override) (some p)).answerHold p .removed
    | none => s.reply p .notFound

def ownerRemoveHold (p : Port) (pl : List Byte) (s : State) : State :=
  match feederOf (byteAt pl 0), ownerOf p (byteAt pl 3) with
  | some f, some o =>
    if pl.length = 5 ∧ wordAt pl 1 ≠ 0 then s.removeMasterHold p f o (wordAt pl 1) else s.badArgument p
  | _, _ => s.badArgument p

def reqRemoveHold (p : Port) (fr : Frame) (s : State) : State :=
  s.controlRequest p 0x0A (grantRemoveHold s.key fr.payload p) fr (ownerRemoveHold p fr.payload)

def execRemoveHold (p : Port) (fr : Frame) (s : State) : Host.Outcome State Fault Refusal :=
  event s (reqRemoveHold p fr)

/-- Whether an entry's expiry timer has run out. -/
def Hold.expired (now : Ms) (h : Hold) : Bool :=
  match h.expiry with
  | some e => e.timer.due now
  | none => false

/-- The expiry of a master entry, once its timer is due (R98). -/
def State.holdExpires (s : State) (f : Feeder) (owner : Port) (tag : Nat) : State :=
  match (s.holdTable f).list.find? (Hold.isOf (.master owner) tag) with
  | some h => if h.expired s.ms then s.removeHold f h .expired none else s
  | none => s

def execHoldExpiry (f : Feeder) (owner : Port) (tag : Word) (s : State) : Host.Outcome State Fault Refusal :=
  event s (fun s => s.holdExpires f owner tag.toNat)

/-- PATROL-CLEAR (R102). -/
def State.patrolClear (s : State) (p : Port) (f : Feeder) : State :=
  match (s.holdTable f).list.find? (fun h => h.owner == .patrol) with
  | some h => (s.removeHold f h .patrolClear (some p)).answerHold p .removed
  | none => s.reply p .notFound

def ownerPatrolClear (p : Port) (pl : List Byte) (s : State) : State :=
  match oneFeeder pl with
  | some f => s.patrolClear p f
  | none => s.badArgument p

def reqPatrolClear (p : Port) (fr : Frame) (s : State) : State :=
  s.controlRequest p 0x0B (grantPatrolClear p) fr (ownerPatrolClear p fr.payload)

def execPatrolClear (p : Port) (fr : Frame) (s : State) : Host.Outcome State Fault Refusal :=
  event s (reqPatrolClear p fr)

end Sys2Proof.Machine
end

