-- ==== Sys2Proof/Machine/HuntCommands.lean ====
section
/-! DEFINITION. The hunt engine's requests and its pause timer: START_HUNT (R153 to R155), HUNT_INSERT (R164),
HUNT_STEP_MODE and HUNT_CONTINUE (R166), HUNT_ABORT (R167), PAUSE_TIMEOUT (R156). -/

namespace Sys2Proof.Machine

/-! ### Reachable blocks and their checks (R154) -/

/-- The pointers a block adds to a walk. -/
def HuntBlock.pointers (b : HuntBlock) : List Nat :=
  if b.action = .ret ∨ b.action = .finish then [] else [b.nextTrue, b.nextFalse]

/-- The walk of R154 over a hunt memory: `todo` are the pointers still to follow, `seen` the blocks visited. The fuel
bounds the pointers followed: at most one per start and two per block. -/
def walkBlocks (m : List HuntBlock) : Nat → List Nat → List Nat → List Nat
  | 0, _, seen => seen
  | _ + 1, [], seen => seen
  | n + 1, i :: todo, seen =>
    if i = 0 ∨ seen.contains i then walkBlocks m n todo seen
    else walkBlocks m n ((m.getD (i - 1) endBlock).pointers ++ todo) (seen ++ [i])

/-- The blocks reachable from some first blocks, in rising order (R154). -/
def reachable (m : List HuntBlock) (first : List Nat) : List Nat :=
  let seen := walkBlocks m 600 first []
  (indicesFrom 1 255).filter seen.contains

/-- Whether a block holds a structure fault; RETURN is one where it is not allowed (R154). -/
def HuntBlock.faulty (returnAllowed : Bool) (b : HuntBlock) : Bool :=
  (b.action.needsUnit && b.unit == 0) ||
    ((b.action.isTest || b.action == .wait) && b.window == 0) ||
    (b.tests.fpi && !(b.action == .openUnit || b.action == .closeUnit || b.action == .testCloseUnit) &&
      b.action != .ret && b.action != .finish) ||
    (!returnAllowed && b.action == .ret)

/-- Whether a block names an order index beyond a feeder's list (R154). -/
def HuntBlock.beyond (units : Nat) (b : HuntBlock) : Bool := b.action.needsUnit && decide (units < b.unit)

/-- The lowest index that fails the structure check (R154): walked from `main`, where RETURN is a fault, and from
`side`, where it is allowed. -/
def State.structureFault (s : State) (main side : List Nat) : Option Nat :=
  let m := s.hunt.memory
  let strict := reachable m main
  let loose := reachable m side
  (indicesFrom 1 255).find? (fun i =>
    (strict.contains i && (s.huntBlock i).faulty false) || (loose.contains i && (s.huntBlock i).faulty true))

/-- The lowest index that fails the feeder check (R154). -/
def State.rangeFault (s : State) (f : Feeder) (first : List Nat) : Option Nat :=
  (reachable s.hunt.memory first).find? (fun i => (s.huntBlock i).beyond (feederGet s.bus.lists f).length)

/-! ### START_HUNT (R153, R155) -/

/-- The detail of a STRUCTURE or UNIT_RANGE refusal: the block's index. -/
def blockData (b : Nat) : List Byte := u8 b

/-- Whether the engine refuses a start as BUSY (R153 test 1). -/
def Hunt.busy (h : Hunt) : Bool :=
  h.state == .running || h.state == .paused || h.state == .stopping || h.outstanding

/-- Whether the sequencer or the measurement state of a feeder refuses a start (R153 test 2). -/
def State.startRefused (s : State) (f : Feeder) : Bool :=
  (s.sequencer f).state == .tripping || (s.sequencer f).state == .reclosing || (s.sequencer f).state == .failed ||
    (s.receiver f).state != .valid

/-- The engine as an accepted START-HUNT leaves it, before the placement (R155 steps 1 to 4). -/
def Hunt.begun (h : Hunt) (f : Feeder) (detour : Nat) (stepMode : Bool) (locked : List Nat) (now : TimeOfDay) :
    Hunt :=
  { huntStart h.memory with
    state := .running, feeder := some f, detourFirst := detour, stepMode := stepMode, lockSet := locked
    outstanding := h.outstanding, started := now, asks := h.asks }

/-- An accepted START-HUNT (R155): the engine, the placement, the record and the flag, the response, the first
block. -/
def State.startHunt (s : State) (p : Port) (f : Feeder) (first detour : Nat) (stepMode : Bool) : State :=
  let locked := reachable s.hunt.memory [first, detour]
  let t := (s.setHunt (s.hunt.begun f detour stepMode locked s.time)).placeHunt f
  let u := (t.append (some f) (.port p) (.huntStart first detour stepMode locked.length p)).setFlag .hunt
  State.huntRun (u.reply p .accepted, some first) f

def ownerStartHunt (p : Port) (pl : List Byte) (s : State) : State :=
  let first := byteAt pl 1
  let detour := byteAt pl 2
  match feederOf (byteAt pl 0), stepModeOf (byteAt pl 3) with
  | some f, some m =>
    if pl.length = 4 ∧ first ≠ 0 then
      if s.hunt.busy then s.reply p .busy
      else if s.startRefused f then s.reply p .state
      else
        match s.structureFault [first] [detour] with
        | some b => s.respond p .structure (blockData b)
        | none =>
          match s.rangeFault f [first, detour] with
          | some b => s.respond p .unitRange (blockData b)
          | none => s.startHunt p f first detour m
    else s.badArgument p
  | _, _ => s.badArgument p

def reqStartHunt (p : Port) (fr : Frame) (s : State) : State :=
  s.controlRequest p 0x1E (grantHunt s.key p) fr (ownerStartHunt p fr.payload)

def execStartHunt (p : Port) (fr : Frame) (s : State) : Host.Outcome State Fault Refusal :=
  event s (reqStartHunt p fr)

/-! ### HUNT_INSERT (R164) -/

/-- The blocks that join a lock set. -/
def joinLocks (locked more : List Nat) : List Nat :=
  (indicesFrom 1 255).filter (fun i => locked.contains i || more.contains i)

/-- An accepted HUNT-INSERT (R164): pending while RUNNING, taken at once while PAUSED. -/
def State.insertHunt (s : State) (f : Feeder) (first : Nat) : State :=
  let h := { s.hunt with lockSet := joinLocks s.hunt.lockSet (reachable s.hunt.memory [first]) }
  let slot : ReturnSlot := { block := h.current, kind := .insertion }
  if h.state = .running then s.setHunt { h with insertion := some first }
  else if h.pauseReason = .step then s.setHunt { h with returnSlot := some slot, current := first }
  else State.huntRun (s.setHunt { h with returnSlot := some slot, pauseTimer := none }, some first) f

def ownerHuntInsert (p : Port) (pl : List Byte) (s : State) : State :=
  let first := byteAt pl 0
  if pl.length = 1 ∧ first ≠ 0 then
    match s.hunt.feeder with
    | none => s.reply p .state
    | some f =>
      if !s.huntAlive f then s.reply p .state
      else if s.hunt.returnSlot.isSome || s.hunt.insertion.isSome then s.reply p .busy
      else
        match s.structureFault [] [first] with
        | some b => s.respond p .structure (blockData b)
        | none =>
          match s.rangeFault f [first] with
          | some b => s.respond p .unitRange (blockData b)
          | none => (s.reply p .accepted).insertHunt f first
  else s.badArgument p

def reqHuntInsert (p : Port) (fr : Frame) (s : State) : State :=
  s.controlRequest p 0x1F (grantHunt s.key p) fr (ownerHuntInsert p fr.payload)

def execHuntInsert (p : Port) (fr : Frame) (s : State) : Host.Outcome State Fault Refusal :=
  event s (reqHuntInsert p fr)

/-! ### HUNT_STEP_MODE and HUNT_CONTINUE (R166) -/

/-- Whether the engine is PAUSED with reason STEP. -/
def Hunt.stepPaused (h : Hunt) : Bool := h.state == .paused && h.pauseReason == .step

def ownerHuntStepMode (p : Port) (pl : List Byte) (s : State) : State :=
  match stepModeOf (byteAt pl 0) with
  | some m =>
    if pl.length = 1 then
      match s.hunt.feeder with
      | none => s.reply p .state
      | some f =>
        if s.huntOn f then
          let t := (s.setHunt { s.hunt with stepMode := m }).reply p .accepted
          if !m && t.hunt.stepPaused then t.huntResume f else t
        else s.reply p .state
    else s.badArgument p
  | none => s.badArgument p

def reqHuntStepMode (p : Port) (fr : Frame) (s : State) : State :=
  s.controlRequest p 0x21 (grantHunt s.key p) fr (ownerHuntStepMode p fr.payload)

def execHuntStepMode (p : Port) (fr : Frame) (s : State) : Host.Outcome State Fault Refusal :=
  event s (reqHuntStepMode p fr)

def ownerHuntContinue (p : Port) (pl : List Byte) (s : State) : State :=
  if pl = [] then
    match s.hunt.feeder with
    | none => s.reply p .state
    | some f => if s.hunt.stepPaused then (s.reply p .accepted).huntResume f else s.reply p .state
  else s.badArgument p

def reqHuntContinue (p : Port) (fr : Frame) (s : State) : State :=
  s.controlRequest p 0x20 (grantHunt s.key p) fr (ownerHuntContinue p fr.payload)

def execHuntContinue (p : Port) (fr : Frame) (s : State) : Host.Outcome State Fault Refusal :=
  event s (reqHuntContinue p fr)

/-! ### HUNT_ABORT and PAUSE_TIMEOUT (R156, R167) -/

def ownerHuntAbort (p : Port) (pl : List Byte) (s : State) : State :=
  if pl = [] then
    match s.hunt.feeder with
    | none => s.reply p .state
    | some f => if s.huntOn f then (s.huntAbortBy f p).reply p .accepted else s.reply p .state
  else s.badArgument p

def reqHuntAbort (p : Port) (fr : Frame) (s : State) : State :=
  s.controlRequest p 0x22 true fr (ownerHuntAbort p fr.payload)

def execHuntAbort (p : Port) (fr : Frame) (s : State) : Host.Outcome State Fault Refusal :=
  event s (reqHuntAbort p fr)

/-- The pause timer's expiry, once it is due (R156). -/
def State.pauseEnd (s : State) : State :=
  match s.hunt.feeder with
  | none => s
  | some f =>
    if s.hunt.state = .paused ∧ timerDue s.ms s.hunt.pauseTimer then
      s.huntFinish f .pauseTimeout (.block s.hunt.current)
    else s

def execPauseTimeout (s : State) : Host.Outcome State Fault Refusal := event s State.pauseEnd

end Sys2Proof.Machine
end

