-- ==== Sys2Proof/Machine/LogCommands.lean ====
section
/-! DEFINITION. The event log's requests: READ_LOG (R174) and LOG_SEEK (R175). -/

namespace Sys2Proof.Machine

/-- The records from a sequence number onward; none when it is the next one. -/
def recordsFrom (pointer : Word) : List LogRecord → List LogRecord
  | [] => []
  | r :: rest => if r.seq = pointer then r :: rest else recordsFrom pointer rest

/-- A port's overrun mark and lost count, as a response carries them. -/
def PortState.overrunBytes (q : PortState) : List Byte := bit q.overrun ++ u16 q.lost

/-- READ-LOG (R174): up to 4 records from the read pointer, which moves past them; the overrun mark and the lost
count are returned and cleared. -/
def ownerReadLog (p : Port) (pl : List Byte) (s : State) : State :=
  if pl = [] then
    let q := s.port p
    let ahead := recordsFrom q.pointer s.log.records
    let given := ahead.take 4
    let left := ahead.length - given.length
    let t := s.setPort p
      { q with pointer := q.pointer + BitVec.ofNat 16 given.length, overrun := false, lost := 0 }
    t.answerData p
      (q.overrunBytes ++ u16 (s.log.next - 1).toNat ++ u8 left ++ given.flatMap LogRecord.bytes)
  else s.badArgument p

def reqReadLog (p : Port) (fr : Frame) (s : State) : State :=
  s.controlRequest p 0x26 true fr (ownerReadLog p fr.payload)

def execReadLog (p : Port) (fr : Frame) (s : State) : Host.Outcome State Fault Refusal :=
  event s (reqReadLog p fr)

/-- Where a LOG-SEEK target takes the pointer (R175): none when it names no record held and is not the next one. -/
def Log.seekTarget (l : Log) (target : Nat) (n : Word) : Option Word :=
  match target with
  | 1 => some l.oldest
  | 2 => some (l.next - 1)
  | _ => if n = l.next ∨ l.records.any (fun r => r.seq == n) then some n else none

def ownerLogSeek (p : Port) (pl : List Byte) (s : State) : State :=
  let target := byteAt pl 0
  if pl.length = 3 ∧ 1 ≤ target ∧ target ≤ 3 then
    match s.log.seekTarget target (BitVec.ofNat 16 (wordAt pl 1)) with
    | some n =>
      let q := s.port p
      (s.setPort p { q with pointer := n, overrun := false, lost := 0 }).answerData p q.overrunBytes
    | none => s.reply p .notFound
  else s.badArgument p

def reqLogSeek (p : Port) (fr : Frame) (s : State) : State :=
  s.controlRequest p 0x27 true fr (ownerLogSeek p fr.payload)

def execLogSeek (p : Port) (fr : Frame) (s : State) : Host.Outcome State Fault Refusal :=
  event s (reqLogSeek p fr)

end Sys2Proof.Machine
end

