-- ==== Sys2Proof/Machine/SequencerCommands.lean ====
section
/-! DEFINITION. The reclose sequencer's commands: DEAD_TIMER_EXPIRY (R72, R73), RECLAIM_TIMER_EXPIRY (R75),
MANUAL_OPEN (R78), MANUAL_CLOSE (R80). -/

namespace Sys2Proof.Machine

/-! ### Manual trips -/

/-- MANUAL-OPEN by the sequencer's state (R78): the sequencer's move first, then the trip. DESIGN CHOICE (log entry 69),
unsafe: in HUNT the hunt engine takes the abort before the trip is passed, so that a trip joined in FAIL_PULSE finds the hunt
ABORTED or STOPPING. -/
def State.manualOpen (s : State) (f : Feeder) (p : Port) : State :=
  let q := s.sequencer f
  match q.state with
  | .inService => State.passTrip f (s.setSequencer f q.enterOpen) p
  | .reclaim => State.passTrip f (s.setSequencer f q.enterOpen) p
  | .dead => State.passTrip f (s.setSequencer f q.enterOpen) p
  | .reclosing =>
    if q.phase = some .asked then s.setSequencer f { q with pendingOpen := q.pendingOpen ++ [p] }
    else State.passTrip f (s.setSequencer f q.enterOpen) p
  | .tripping => State.passTrip f (s.setSequencer f { q with openTaken := true }) p
  | .failed => State.passTrip f s p
  | .hunt => State.passTrip f (s.huntAbortBy f p) p
  | _ =>
    if q.manualClose.isSome || (s.breaker f).stableClosed then State.passTrip f s p else s.reply p .alreadyOpen

def ownerManualOpen (p : Port) (pl : List Byte) (s : State) : State :=
  match oneFeeder pl with
  | some f => s.manualOpen f p
  | none => s.badArgument p

def reqManualOpen (p : Port) (fr : Frame) (s : State) : State :=
  s.controlRequest p 0x06 (grantOpen s.key p) fr (ownerManualOpen p fr.payload)

def execManualOpen (p : Port) (fr : Frame) (s : State) : Host.Outcome State Fault Refusal :=
  event s (reqManualOpen p fr)

/-! ### Manual closes -/

/-- The purpose a port's close carries (R52, R80). -/
def manualPurpose : Port → ClosePurpose
  | .station => .localClose
  | .remote => .remote
  | .panel => .localClose

/-- The detail of a refused close: the barring entry for BARRED (R90). -/
def refusalData (bar : Option Hold) : List Byte := optBytes bar barringBytes

/-- MANUAL-CLOSE (R80). -/
def State.manualClose (s : State) (f : Feeder) (p : Port) : State :=
  if (s.sequencer f).standsOpen then
    let r := s.closeRequest f (manualPurpose p) (.master p)
    match r.2 with
    | .granted => r.1.moveSequencer f (fun q => { q with manualClose := some p })
    | .refused c bar => r.1.respond p c.status (refusalData bar)
  else s.reply p .state

def ownerManualClose (p : Port) (pl : List Byte) (s : State) : State :=
  match oneFeeder pl with
  | some f => s.manualClose f p
  | none => s.badArgument p

def reqManualClose (p : Port) (fr : Frame) (s : State) : State :=
  s.controlRequest p 0x07 (grantClose s.key p) fr (ownerManualClose p fr.payload)

def execManualClose (p : Port) (fr : Frame) (s : State) : Host.Outcome State Fault Refusal :=
  event s (reqManualClose p fr)

/-! ### The dead timer and the AUTO close -/

/-- The held MANUAL-OPENs of a feeder are passed, in the order they were taken (R73, R78). -/
def State.releaseOpens (s : State) (f : Feeder) (held : List Port) : State :=
  held.foldl (State.passTrip f) (s.moveSequencer f (fun q => { q with pendingOpen := [] }))

/-- The breaker interface takes the sequencer's AUTO close; the sequencer takes the grant or the refusal (R73). -/
def State.takeAutoClose (s : State) (f : Feeder) : State :=
  let held := (s.sequencer f).pendingOpen
  let t := s.setBreaker f { s.breaker f with askPending := false }
  let r := t.closeRequest f .auto .sequencer
  match r.2 with
  | .granted => (r.1.seqGrant f).releaseOpens f held
  | .refused c _ => (r.1.seqRefused f c).releaseOpens f held

/-- The dead timer's expiry (R72): LOCKOUT, or RECLOSING with the close asked. DEDUCED (log entry 61), unsafe: when both
tests fail, the reason is that of the one named first, SHOTS_AT_EXPIRY. -/
def State.deadEnd (s : State) (f : Feeder) : State :=
  let q := s.sequencer f
  let e := s.effective f
  if ¬ q.shots < e.shotLimit then s.lockout f .shotsAtExpiry none
  else if !e.mayReclose q.cause then s.lockout f .causeAtExpiry none
  else
    let t := s.setSequencer f { q with state := .reclosing, phase := some .asked, timer := none }
    t.setBreaker f { t.breaker f with askPending := true }

/-- Whether the dead timer of a feeder has run out. -/
def State.deadDue (s : State) (f : Feeder) : Bool :=
  (s.sequencer f).state == .dead && timerDue s.ms (s.sequencer f).timer

/-- Whether the breaker interface takes an AUTO close now: one stands asked (R73). -/
def State.deadTimer (s : State) (f : Feeder) (taken : Bool) : State :=
  if (s.breaker f).askPending then s.takeAutoClose f
  else if s.deadDue f then
    let t := s.deadEnd f
    if taken && (t.breaker f).askPending then t.takeAutoClose f else t
  else s

def execDeadTimerExpiry (f : Feeder) (taken : Bool) (s : State) : Host.Outcome State Fault Refusal :=
  event s (fun s => s.deadTimer f taken)

/-- The reclaim timer's expiry (R75). -/
def execReclaimTimerExpiry (f : Feeder) (s : State) : Host.Outcome State Fault Refusal :=
  event s (fun s =>
    let q := s.sequencer f
    if q.state = .reclaim ∧ timerDue s.ms q.timer then
      s.setSequencer f { q with state := .inService, shots := 0, mark := false, timer := none }
    else s)

end Sys2Proof.Machine
end

