-- ==== Sys2Proof/Machine/SettingCommands.lean ====
section
/-! DEFINITION. The writes of settings, checked and queued with the setting store: WRITE_CURVE (R27), WRITE_CORRIDOR
(R103), WRITE_EXPOSURE (R113), WRITE_FIRE_BLOCK (R115), RESTORE_FIRE_TABLE (R117), WRITE_GROUP (R124),
WRITE_UNIT_LIST (R144), WRITE_HUNT_BLOCKS (R151), STORE_REPAIR (R182). What their completion does stands in
StoreCommands.lean. -/

namespace Sys2Proof.Machine

/-! ### WRITE_CURVE -/

/-- Whether the active group of a feeder names a curve (R27). -/
def State.curveActive (s : State) (n : Nat) (f : Feeder) : Bool :=
  (s.effective f).group.ocCurve == n || (s.effective f).group.efCurve == n

def ownerWriteCurve (p : Port) (pl : List Byte) (s : State) : State :=
  let n := byteAt pl 0
  let c := pointsAt pl 2 (byteAt pl 1)
  if 2 ≤ pl.length ∧ pl.length = 2 + 6 * byteAt pl 1 ∧ 1 ≤ n ∧ n ≤ 4 ∧ curveValid c then
    if allFeeders.any (s.curveActive n) then s.reply p .inUse
    else s.queueWrite p (.curve n c)
  else s.badArgument p

def reqWriteCurve (p : Port) (fr : Frame) (s : State) : State :=
  s.controlRequest p 0x04 (grantStationRemote p) fr (ownerWriteCurve p fr.payload)

def execWriteCurve (p : Port) (fr : Frame) (s : State) : Host.Outcome State Fault Refusal :=
  event s (reqWriteCurve p fr)

/-! ### WRITE_CORRIDOR -/

/-- The set names no feeder outside 1..4: bits 4 to 7 name none (R103; log entry 47). -/
def ownerWriteCorridor (p : Port) (pl : List Byte) (s : State) : State :=
  let c := feederSetOf (byteAt pl 1)
  match feederOf (byteAt pl 0) with
  | some f =>
    if pl.length = 2 ∧ byteAt pl 1 < 16 ∧ feederGet c f = false then s.queueWrite p (.corridor f c)
    else s.badArgument p
  | none => s.badArgument p

def reqWriteCorridor (p : Port) (fr : Frame) (s : State) : State :=
  s.controlRequest p 0x0C (grantStationRemote p) fr (ownerWriteCorridor p fr.payload)

def execWriteCorridor (p : Port) (fr : Frame) (s : State) : Host.Outcome State Fault Refusal :=
  event s (reqWriteCorridor p fr)

/-! ### WRITE_EXPOSURE -/

def ownerWriteExposure (p : Port) (pl : List Byte) (s : State) : State :=
  if pl.length = 2 then
    match feederOf (byteAt pl 0), exposureOf (byteAt pl 1) with
    | some f, some e => s.queueWrite p (.exposure f e)
    | _, _ => s.badArgument p
  else s.badArgument p

def reqWriteExposure (p : Port) (fr : Frame) (s : State) : State :=
  s.controlRequest p 0x10 (grantStationRemote p) fr (ownerWriteExposure p fr.payload)

def execWriteExposure (p : Port) (fr : Frame) (s : State) : Host.Outcome State Fault Refusal :=
  event s (reqWriteExposure p fr)

/-! ### WRITE_FIRE_BLOCK -/

def ownerWriteFireBlock (p : Port) (pl : List Byte) (s : State) : State :=
  let start := byteAt pl 0
  let values := [byteAt pl 1, byteAt pl 2, byteAt pl 3, byteAt pl 4]
  if pl.length = 5 ∧ fireValuesValid start values then
    if 32 < start then s.reply p .range else s.queueWrite p (.fireBlock start values)
  else s.badArgument p

def reqWriteFireBlock (p : Port) (fr : Frame) (s : State) : State :=
  s.controlRequest p 0x11 (grantStationRemote p) fr (ownerWriteFireBlock p fr.payload)

def execWriteFireBlock (p : Port) (fr : Frame) (s : State) : Host.Outcome State Fault Refusal :=
  event s (reqWriteFireBlock p fr)

/-! ### RESTORE_FIRE_TABLE -/

def ownerRestoreFireTable (p : Port) (pl : List Byte) (s : State) : State :=
  if pl = [] then s.queueWrite p .restoreTable else s.badArgument p

def reqRestoreFireTable (p : Port) (fr : Frame) (s : State) : State :=
  s.controlRequest p 0x12 (grantStationRemote p) fr (ownerRestoreFireTable p fr.payload)

def execRestoreFireTable (p : Port) (fr : Frame) (s : State) : Host.Outcome State Fault Refusal :=
  event s (reqRestoreFireTable p fr)

/-! ### WRITE_GROUP -/

def ownerWriteGroup (p : Port) (pl : List Byte) (s : State) : State :=
  let g := groupAt pl 2
  if pl.length = 58 ∧ groupValid g then
    match feederOf (byteAt pl 0), letterOf (byteAt pl 1) with
    | some f, some l =>
      if (s.effective f).letter = l then s.reply p .inUse else s.queueWrite p (.group f l g)
    | _, _ => s.badArgument p
  else s.badArgument p

def reqWriteGroup (p : Port) (fr : Frame) (s : State) : State :=
  s.controlRequest p 0x13 (grantStationRemote p) fr (ownerWriteGroup p fr.payload)

def execWriteGroup (p : Port) (fr : Frame) (s : State) : Host.Outcome State Fault Refusal :=
  event s (reqWriteGroup p fr)

/-! ### WRITE_UNIT_LIST -/

/-- The addresses that stand in the lists of the other feeders (R144). -/
def State.otherAddresses (s : State) (f : Feeder) : List Nat :=
  (allFeeders.filter (· != f)).flatMap (feederGet s.bus.lists)

/-- The place an address has in a list of a feeder, if it stands there. -/
def placeIn (f : Feeder) (l : List Nat) (a : Nat) : Option UnitPlace :=
  if l.contains a then some { feeder := f, index := l.findIdx (· == a) + 1 } else none

/-- The unit table after a feeder's list is replaced: its places follow the new list (R144). -/
def placeUnits (f : Feeder) (l : List Nat) (units : List UnitRecord) : List UnitRecord :=
  units.mapIdx (fun i r =>
    let old := match r.place with | some x => x.feeder != f | none => false
    { r with place := if old then r.place else placeIn f l (i + 1) })

/-- A feeder's unit list is replaced (R144). -/
def State.setUnitList (s : State) (f : Feeder) (l : List Nat) : State :=
  s.setBus { s.bus with lists := feederSet s.bus.lists f l, units := placeUnits f l s.bus.units }

def ownerWriteUnitList (p : Port) (pl : List Byte) (s : State) : State :=
  let n := byteAt pl 1
  let l := addressesAt pl 2 n
  match feederOf (byteAt pl 0) with
  | some f =>
    if 2 ≤ pl.length ∧ pl.length = 2 + n ∧ unitListValid l (s.otherAddresses f) then
      if s.huntOn f then s.reply p .huntActive
      else if s.store.fault.isSome then s.reply p .storeFault
      else (s.setUnitList f l).storeEnqueue (.port p (.unitList f l))
    else s.badArgument p
  | none => s.badArgument p

def reqWriteUnitList (p : Port) (fr : Frame) (s : State) : State :=
  s.controlRequest p 0x18 (grantStationRemote p) fr (ownerWriteUnitList p fr.payload)

def execWriteUnitList (p : Port) (fr : Frame) (s : State) : Host.Outcome State Fault Refusal :=
  event s (reqWriteUnitList p fr)

/-! ### WRITE_HUNT_BLOCKS -/

/-- Blocks take their places in the hunt memory from an index on (R151). -/
def writeBlocks (m : List HuntBlock) (first : Nat) : List HuntBlock → List HuntBlock
  | [] => m
  | b :: rest => writeBlocks (m.set (first - 1) b) (first + 1) rest

def ownerWriteHuntBlocks (p : Port) (pl : List Byte) (s : State) : State :=
  let first := byteAt pl 0
  let n := byteAt pl 1
  match huntBlocksAt pl 2 n with
  | some blocks =>
    if 2 ≤ pl.length ∧ pl.length = 2 + 8 * n ∧ 1 ≤ first ∧ 1 ≤ n ∧ n ≤ 8 ∧ first + n ≤ 256 then
      if (List.range n).any (fun i => s.hunt.lockSet.contains (first + i)) then s.reply p .inUse
      else if s.store.fault.isSome then s.reply p .storeFault
      else
        (s.setHunt { s.hunt with memory := writeBlocks s.hunt.memory first blocks }).storeEnqueue
          (.port p (.huntBlocks first blocks))
    else s.badArgument p
  | none => s.badArgument p

def reqWriteHuntBlocks (p : Port) (fr : Frame) (s : State) : State :=
  s.controlRequest p 0x1D (grantStationRemote p) fr (ownerWriteHuntBlocks p fr.payload)

def execWriteHuntBlocks (p : Port) (fr : Frame) (s : State) : Host.Outcome State Fault Refusal :=
  event s (reqWriteHuntBlocks p fr)

/-! ### STORE_REPAIR -/

/-- Whether an entry is a STORE-REPAIR. -/
def StoreEntry.isRepair (e : StoreEntry) : Bool :=
  match e.job with
  | .port _ .repair => true
  | _ => false

def ownerStoreRepair (p : Port) (pl : List Byte) (s : State) : State :=
  if pl = [] then
    if s.store.fault.isNone then s.reply p .state
    else if s.store.queue.any StoreEntry.isRepair then s.reply p .busy
    else s.storeEnqueue (.port p .repair)
  else s.badArgument p

def reqStoreRepair (p : Port) (fr : Frame) (s : State) : State :=
  s.controlRequest p 0x28 (grantStationRemote p) fr (ownerStoreRepair p fr.payload)

def execStoreRepair (p : Port) (fr : Frame) (s : State) : Host.Outcome State Fault Refusal :=
  event s (reqStoreRepair p fr)

end Sys2Proof.Machine
end

