-- ==== Sys2Proof/Machine/TimeCommands.lean ====
section
/-! DEFINITION. Measurement frames and time: MILLISECOND_TICK (R11), MEASUREMENT_FRAME (R1), FRAME_WATCHDOG_EXPIRY
(R9), SET_TIME (R12). -/

namespace Sys2Proof.Machine

/-- The time of day one millisecond later (R11). -/
def TimeOfDay.advance (t : TimeOfDay) : TimeOfDay :=
  if t.ms + 1 < dayMs then { t with ms := t.ms + 1 } else { day := t.day + 1, ms := 0 }

/-- One millisecond of the part's clock (R11). -/
def State.clock (s : State) : State := { s with ms := s.ms + 1, time := s.time.advance }

/-- The opening of the reply window of a REPORT taken: the part enters ACKING and sends ACK (R134). -/
def State.openAck (s : State) : State :=
  if s.bus.state = .listening ∧ timerDue s.ms s.bus.ackTimer then s.enterBus .acking ackChars else s

/-- A millisecond (R11). DESIGN CHOICE (log entry 18), unsafe: no row names the opening of the reply window of R134, 2 ms
after the check of a REPORT, which comes with the tick that reaches it, nor the taking of a close request of the hunt engine
that was not taken when it was sent (R158; log entry 63), which comes with the next tick. -/
def State.tick (s : State) : State := s.clock.openAck.takeHuntCloses

def execMillisecondTick (s : State) : Host.Outcome State Fault Refusal := event s State.tick

def execMeasurementFrame (bytes : List Byte) (s : State) : Host.Outcome State Fault Refusal :=
  event s (fun s => s.measurementTransfer bytes)

/-- The watchdog's expiry, once it runs and is due (log entry 2). -/
def execFrameWatchdogExpiry (f : Feeder) (s : State) : Host.Outcome State Fault Refusal :=
  event s (fun s => if timerDue s.ms (s.receiver f).watchdog then s.watchdogEnd f else s)

/-- SET-TIME (R12): the time is replaced, TIME_SET set, and the record stamped with the new time. -/
def ownerSetTime (p : Port) (pl : List Byte) (s : State) : State :=
  if pl.length = 6 ∧ longAt pl 2 < dayMs then
    let t := { s with time := { day := BitVec.ofNat 16 (wordAt pl 0), ms := longAt pl 2 }, timeSet := true }
    (t.append none (.port p) (.timeSet s.time s.timeSet)).reply p .accepted
  else s.badArgument p

def reqSetTime (p : Port) (fr : Frame) (s : State) : State :=
  s.controlRequest p 0x01 (grantStationRemote p) fr (ownerSetTime p fr.payload)

def execSetTime (p : Port) (fr : Frame) (s : State) : Host.Outcome State Fault Refusal :=
  event s (reqSetTime p fr)

end Sys2Proof.Machine
end

