-- ==== Sys2Proof/Machine/PortCommands.lean ====
section
/-! DEFINITION. The master ports' own commands: PORT_RESET and PORT_RESET_RELEASE (R193), KEY_SWITCH_CHANGE (R190),
SET_ATTENTION_MASK (R191), RESPONSE_READ (R184), RESTART (R194) and REQUEST_FRAME (R187). -/

namespace Sys2Proof.Machine

/-- The port after its reset line is asserted (R175, R193): a request in flight becomes an orphan. -/
def PortState.resetAsserted (next : Word) (q : PortState) : PortState :=
  { q with
    slot := .idle, busyNote := none, orphan := q.orphan || q.slot.isInFlight, flags := 0, mask := 0
    inReset := true, pointer := next, overrun := false, lost := 0 }

def execPortReset (p : Port) (s : State) : Host.Outcome State Fault Refusal :=
  event s (fun s => s.setPort p ((s.port p).resetAsserted s.log.next))

def execPortResetRelease (p : Port) (s : State) : Host.Outcome State Fault Refusal :=
  event s (fun s => s.setPort p { s.port p with inReset := false })

def execKeySwitchChange (k : KeyPosition) (s : State) : Host.Outcome State Fault Refusal :=
  event s (fun s => { s with key := k })

def ownerSetAttentionMask (p : Port) (pl : List Byte) (s : State) : State :=
  if pl.length = 1 then (s.setPort p { s.port p with mask := pl.getD 0 0 }).reply p .accepted else s.badArgument p

def reqSetAttentionMask (p : Port) (fr : Frame) (s : State) : State :=
  s.controlRequest p 0x2C true fr (ownerSetAttentionMask p fr.payload)

def execSetAttentionMask (p : Port) (fr : Frame) (s : State) : Host.Outcome State Fault Refusal :=
  event s (reqSetAttentionMask p fr)

def execResponseRead (p : Port) (count : Nat) (s : State) : Host.Outcome State Fault Refusal :=
  event s (fun s => s.readTransfer p count)

/-- An accepted RESTART (R194): the waits begin with the first; a second joins it. Its port stays in flight. -/
def State.restartAsked (s : State) (p : Port) : State :=
  match s.restart with
  | none => { s with restart := some { port := p, fixed := none } }.pollRestart
  | some _ => s

def ownerRestart (p : Port) (pl : List Byte) (s : State) : State :=
  if pl = [] then s.restartAsked p else s.badArgument p

def reqRestart (p : Port) (fr : Frame) (s : State) : State :=
  s.controlRequest p 0x2D (grantStationRemote p) fr (ownerRestart p fr.payload)

def execRestart (p : Port) (fr : Frame) (s : State) : Host.Outcome State Fault Refusal :=
  event s (reqRestart p fr)

/-! ### REQUEST_FRAME -/

/-- A frame whose code names no request: FRAME when its checks fail, else UNKNOWN (R187, R197). -/
def State.unknownFrame (s : State) (p : Port) (code : Byte) (fr : Frame) : State :=
  s.takeFrame p (frameSize fr) code (frameCheckMatches code fr) fun t =>
    t.refuseUnnamed p (if framePasses code fr then .unknown else .frame)

/-- A transfer too short to hold a frame. DESIGN CHOICE (log entry 65), unsafe: it counts as one whose check code does not
match, whatever its last two bytes are, so that it leaves no busy note (R185). -/
def State.shortFrame (s : State) (p : Port) (size : Nat) (code : Byte) : State :=
  s.takeFrame p size code false fun t => t.refuseUnnamed p .frame

/-- The request a code names takes the frame (R197); any other code is unknown. -/
def State.frameByCode (s : State) (p : Port) (code : Byte) (fr : Frame) : State :=
  match code.toNat with
  | 0x01 => reqSetTime p fr s
  | 0x02 => reqReadProtection p fr s
  | 0x03 => reqReadCurve p fr s
  | 0x04 => reqWriteCurve p fr s
  | 0x05 => reqReadBreaker p fr s
  | 0x06 => reqManualOpen p fr s
  | 0x07 => reqManualClose p fr s
  | 0x08 => reqReadSequencer p fr s
  | 0x09 => reqPlaceHold p fr s
  | 0x0A => reqRemoveHold p fr s
  | 0x0B => reqPatrolClear p fr s
  | 0x0C => reqWriteCorridor p fr s
  | 0x0D => reqReadHolds p fr s
  | 0x0E => reqSetFireRequest p fr s
  | 0x0F => reqWithdrawFireRequest p fr s
  | 0x10 => reqWriteExposure p fr s
  | 0x11 => reqWriteFireBlock p fr s
  | 0x12 => reqRestoreFireTable p fr s
  | 0x13 => reqWriteGroup p fr s
  | 0x14 => reqReadFire p fr s
  | 0x15 => reqReadFireTable p fr s
  | 0x16 => reqReadGroup p fr s
  | 0x17 => reqUnitCommand p fr s
  | 0x18 => reqWriteUnitList p fr s
  | 0x19 => reqClearIsolation p fr s
  | 0x1A => reqLinebusReset p fr s
  | 0x1B => reqReadLinebus p fr s
  | 0x1C => reqReadUnits p fr s
  | 0x1D => reqWriteHuntBlocks p fr s
  | 0x1E => reqStartHunt p fr s
  | 0x1F => reqHuntInsert p fr s
  | 0x20 => reqHuntContinue p fr s
  | 0x21 => reqHuntStepMode p fr s
  | 0x22 => reqHuntAbort p fr s
  | 0x23 => reqReadHunt p fr s
  | 0x24 => reqReadHuntTrace p fr s
  | 0x25 => reqReadHuntBlocks p fr s
  | 0x26 => reqReadLog p fr s
  | 0x27 => reqLogSeek p fr s
  | 0x28 => reqStoreRepair p fr s
  | 0x29 => reqReadStore p fr s
  | 0x2A => reqReadAttention p fr s
  | 0x2B => reqReadPort p fr s
  | 0x2C => reqSetAttentionMask p fr s
  | 0x2D => reqRestart p fr s
  | _ => s.unknownFrame p code fr

/-- A transfer of raw bytes that writes a frame; one without a byte writes nothing. -/
def State.rawFrame (s : State) (p : Port) : List Byte → State
  | [] => s
  | code :: rest =>
    match frameOfBytes rest with
    | some fr => s.frameByCode p code fr
    | none => s.shortFrame p (rest.length + 1) code

def execRequestFrame (p : Port) (bytes : List Byte) (s : State) : Host.Outcome State Fault Refusal :=
  event s (fun s => s.rawFrame p bytes)

end Sys2Proof.Machine
end

