-- ==== Sys2Proof/Machine/StoreCommands.lean ====
section
/-! DEFINITION. The completion of a store write (R178) and what each owner does with it (R28, R103, R113, R116, R117,
R125, R144, R151, R182), and the fault of a record that reads back wrong twice (R179). -/

namespace Sys2Proof.Machine

/-! ### The nonvolatile image by record (R177; indices as in log entry 38) -/

/-- A record of a class. -/
def recordId (c : RecordClass) (i : Nat) : RecordId := { cls := c, index := i }

/-- The index of a group record. -/
def groupIndex (f : Feeder) (l : Letter) : Nat := (feederNumber f - 1) * 2 + l.code

/-- The records of every class, in the order of R177 but with the retained holds, the fire requests and the
isolation record last, as a STORE-REPAIR writes them (R182; log entry 40). -/
def allRecords : List RecordId :=
  (indicesFrom 1 8).map (recordId .group) ++ (indicesFrom 1 4).map (recordId .curve) ++ [recordId .fireTable 1] ++
    (indicesFrom 1 4).map (recordId .exposure) ++ (indicesFrom 1 4).map (recordId .corridor) ++
    (indicesFrom 1 4).map (recordId .unitList) ++ (indicesFrom 1 255).map (recordId .huntBlock) ++
    (indicesFrom 1 4).map (recordId .holds) ++ [recordId .fireRequests 1, recordId .isolation 1]

/-- The record of an owner's internal write. -/
def RetentionOwner.record : RetentionOwner → RecordId
  | .holds f => recordId .holds (feederNumber f)
  | .fireRequests => recordId .fireRequests 1
  | .isolation => recordId .isolation 1

/-- The records a write writes, in order (R177, R178). -/
def StoreJob.records : StoreJob → List RecordId
  | .port _ (.curve n _) => [recordId .curve n]
  | .port _ (.group f l _) => [recordId .group (groupIndex f l)]
  | .port _ (.fireBlock _ _) => [recordId .fireTable 1]
  | .port _ .restoreTable => [recordId .fireTable 1]
  | .port _ (.exposure f _) => [recordId .exposure (feederNumber f)]
  | .port _ (.corridor f _) => [recordId .corridor (feederNumber f)]
  | .port _ (.unitList f _) => [recordId .unitList (feederNumber f)]
  | .port _ (.huntBlocks first blocks) => (indicesFrom first blocks.length).map (recordId .huntBlock)
  | .port _ .repair => allRecords
  | .internal o _ => [o.record]

/-- Four values take their places in a flat table from an index on. -/
def writeFields (t : List Nat) (start : Nat) : List Nat → List Nat
  | [] => t
  | v :: rest => writeFields (t.set start v) (start + 1) rest

/-- Write the record of the feeder that an index names. -/
def putFeeder {α : Type} (fmt : RecordFormat α) (x : PerFeeder (Stored α)) (i : Nat) (y : PerFeeder α) :
    PerFeeder (Stored α) :=
  match feederOf i with
  | some f => feederSet x f (stored fmt i (feederGet y f))
  | none => x

/-- The image after a group has been written. -/
def Image.putGroup (im : Image) (f : Feeder) (l : Letter) (g : SettingGroup) : Image :=
  let x := stored groupFormat (groupIndex f l) g
  match l with
  | .a => { im with groupsA := feederSet im.groupsA f x }
  | .b => { im with groupsB := feederSet im.groupsB f x }

/-- The feeder and the letter of a group record's index. -/
def groupOf (i : Nat) : Option (Feeder × Letter) :=
  (feederOf ((i + 1) / 2)).map (fun f => (f, if i % 2 = 1 then Letter.a else Letter.b))

/-- Write a record from the working set (R182): the retained holds, the fire requests and the isolation flags take
the working state at the moment they are written. -/
def State.repairRecord (s : State) (im : Image) (r : RecordId) : Image :=
  let i := r.index
  match r.cls with
  | .group =>
    match groupOf i with
    | some (f, l) => im.putGroup f l (s.workingGroup f l).group
    | none => im
  | .curve => { im with curves := im.curves.set (i - 1) (stored curveFormat i (s.curve i)) }
  | .fireTable => { im with table := stored tableFormat i s.fire.table }
  | .exposure => { im with exposure := putFeeder exposureFormat im.exposure i s.fire.exposure }
  | .corridor => { im with corridor := putFeeder corridorFormat im.corridor i (feederMap HoldTable.corridor s.holds) }
  | .unitList => { im with unitLists := putFeeder listFormat im.unitLists i s.bus.lists }
  | .isolation => { im with isolation := stored isolationFormat i (s.bus.units.map UnitRecord.isolated) }
  | .huntBlock => { im with hunt := im.hunt.set (i - 1) (stored huntFormat i (s.huntBlock i)) }
  | .holds => { im with holds := putFeeder holdsFormat im.holds i (feederMap (fun k => retainedHolds k.list) s.holds) }
  | .fireRequests => { im with fireRequests := stored requestsFormat i (retainedRequests s.fire.requests) }

/-- The image after the write of the contents an internal entry took (R178). -/
def Retained.write (im : Image) : Retained → Image
  | .holds f l => { im with holds := feederSet im.holds f (stored holdsFormat (feederNumber f) l) }
  | .fireRequests r => { im with fireRequests := stored requestsFormat 1 r }
  | .isolation l => { im with isolation := stored isolationFormat 1 l }

/-- The image after a port write of one record. -/
def State.writeOne (s : State) (im : Image) : PortWrite → Image
  | .curve i c => { im with curves := im.curves.set (i - 1) (stored curveFormat i c) }
  | .group f l g => im.putGroup f l g
  | .fireBlock start values => { im with table := stored tableFormat 1 (writeFields s.fire.table start values) }
  | .restoreTable => { im with table := stored tableFormat 1 fixedTable }
  | .exposure f e => { im with exposure := feederSet im.exposure f (stored exposureFormat (feederNumber f) e) }
  | .corridor f c => { im with corridor := feederSet im.corridor f (stored corridorFormat (feederNumber f) c) }
  | .unitList f l => { im with unitLists := feederSet im.unitLists f (stored listFormat (feederNumber f) l) }
  | .huntBlocks _ _ => im
  | .repair => im

/-- The image after the first n records of a job have been written and read back (R178). -/
def State.writeRecords (s : State) (j : StoreJob) (n : Nat) : Image :=
  let im := s.image
  match j with
  | .port _ (.huntBlocks first blocks) =>
    { im with
      hunt := ((indicesFrom first blocks.length).zip blocks |>.take n).foldl
        (fun h x => h.set (x.1 - 1) (stored huntFormat x.1 x.2)) im.hunt }
  | .port _ .repair => (allRecords.take n).foldl s.repairRecord im
  | .port _ w => if n = 0 then im else s.writeOne im w
  | .internal _ (some r) => if n = 0 then im else r.write im
  | .internal _ none => im

/-- Damage the record of the feeder that an index names. -/
def spoilFeeder {α : Type} (fmt : RecordFormat α) (x : PerFeeder (Stored α)) (i : Nat) : PerFeeder (Stored α) :=
  match feederOf i with
  | some f => feederSet x f ((feederGet x f).damage fmt)
  | none => x

/-- A record is left damaged (R105, R179). -/
def Image.spoil (im : Image) (r : RecordId) : Image :=
  let i := r.index
  match r.cls with
  | .group =>
    if i % 2 = 1 then { im with groupsA := spoilFeeder groupFormat im.groupsA ((i + 1) / 2) }
    else { im with groupsB := spoilFeeder groupFormat im.groupsB ((i + 1) / 2) }
  | .curve => { im with curves := listUpdate im.curves (i - 1) (Stored.damage curveFormat) }
  | .fireTable => { im with table := im.table.damage tableFormat }
  | .exposure => { im with exposure := spoilFeeder exposureFormat im.exposure i }
  | .corridor => { im with corridor := spoilFeeder corridorFormat im.corridor i }
  | .unitList => { im with unitLists := spoilFeeder listFormat im.unitLists i }
  | .isolation => { im with isolation := im.isolation.damage isolationFormat }
  | .huntBlock => { im with hunt := listUpdate im.hunt (i - 1) (Stored.damage huntFormat) }
  | .holds => { im with holds := spoilFeeder holdsFormat im.holds i }
  | .fireRequests => { im with fireRequests := im.fireRequests.damage requestsFormat }

/-! ### Completion (R178) -/

/-- A SETTINGS_WRITTEN record and the response ACCEPTED. -/
def State.settingsWritten (s : State) (f : Option Feeder) (what : SettingName) (p : Port) : State :=
  s.append f (.port p) (.settingsWritten what p)

/-- No level cause: a settings change. -/
def noCause : FireCause := { cause := none, port := none }

/-- The completion of a curve write (R28). -/
def State.curveWritten (s : State) (p : Port) (n : Nat) (c : Curve) : State :=
  let t := s.setFire { s.fire with curves := s.fire.curves.set (n - 1) c }
  ((t.settingsWritten none (.curve n) p).recomputeAll noCause).reply p .accepted

/-- The completion of a group write (R125); the fallback mark of the group is cleared (R181). -/
def State.groupWritten (s : State) (p : Port) (f : Feeder) (l : Letter) (g : SettingGroup) : State :=
  let w : WorkingGroup := { group := g, fallback := false }
  let t := s.setFire
    { s.fire with groups := feederSet s.fire.groups f ((feederGet s.fire.groups f).set l w) }
  ((t.settingsWritten (some f) (.group f l) p).recomputeOne f noCause).reply p .accepted

/-- The completion of a block write (R116). -/
def State.fireBlockWritten (s : State) (p : Port) (start : Nat) (values : List Nat) : State :=
  let old := (s.fire.table.drop start).take values.length
  let t := s.setFire { s.fire with table := writeFields s.fire.table start values, replaced := false }
  ((t.append none (.port p) (.fireTableWritten start old values p)).recomputeAll noCause).reply p .accepted

/-- The completion of a restore (R117). -/
def State.tableRestored (s : State) (p : Port) : State :=
  let t := s.setFire { s.fire with table := fixedTable, replaced := false }
  ((t.append none (.port p) (.fireTableRestored p)).recomputeAll noCause).reply p .accepted

/-- The completion of an exposure write (R113). -/
def State.exposureWritten (s : State) (p : Port) (f : Feeder) (e : Exposure) : State :=
  let t := s.setFire { s.fire with exposure := feederSet s.fire.exposure f e }
  ((t.settingsWritten (some f) (.exposure f) p).recomputeOne f { cause := some .exposure, port := some p }).reply p
    .accepted

/-- The completion of a corridor write (R103). -/
def State.corridorWritten (s : State) (p : Port) (f : Feeder) (c : PerFeeder Bool) : State :=
  let t := s.setHoldTable f { s.holdTable f with corridor := c }
  (t.settingsWritten (some f) (.corridor f) p).reply p .accepted

/-- The completion of a repair (R182). -/
def State.repaired (s : State) (p : Port) : State :=
  let t := s.setStore { s.store with fault := none, damaged := [] }
  let t := (t.append none (.block .settingStore) .storeFaultCleared).setFlag .store
  let t := allFeeders.foldl (fun t f => t.requestRetention (.holds f)) t
  ((t.requestRetention .fireRequests).requestRetention .isolation).reply p .accepted

/-- What the owner of a completed port write does (R178). -/
def State.portWriteDone (s : State) (p : Port) (w : PortWrite) : State :=
  match w with
  | .curve n c => s.curveWritten p n c
  | .group f l g => s.groupWritten p f l g
  | .fireBlock start values => s.fireBlockWritten p start values
  | .restoreTable => s.tableRestored p
  | .exposure f e => s.exposureWritten p f e
  | .corridor f c => s.corridorWritten p f c
  | .unitList f _ => (s.settingsWritten (some f) (.unitList f) p).reply p .accepted
  | .huntBlocks first blocks => (s.settingsWritten none (.huntMemory first blocks.length) p).reply p .accepted
  | .repair => s.repaired p

/-- What the owner of a completed write does (R178); a port write completes because of its port's request (R172). -/
def State.jobDone (s : State) (j : StoreJob) : State :=
  match j with
  | .port p w => s.causedBy p (fun s => s.portWriteDone p w)
  | .internal _ _ => s

/-- One of the entries that a waiting RESTART fixed has been completed (R194). -/
def State.countFixed (s : State) : State :=
  match s.restart with
  | some w => { s with restart := some { w with fixed := w.fixed.map (· - 1) } }
  | none => s

/-- Drop the head of the write queue. -/
def State.dropHead (s : State) : State := s.setStore { s.store with queue := s.store.queue.tail }

/-- The head entry completes: its owner's completion takes place, it leaves the queue, and the next entry then begins (R178).
A completed write leaves its records with their check codes right. The entry stays at the head while its owner acts, so that
an entry the owner queues does not begin before the completion is over. -/
def State.writeDone (s : State) (e : StoreEntry) : State :=
  let im := s.writeRecords e.job e.job.records.length
  ((((s.setImage im).jobDone e.job).dropHead).countFixed).beginHead

/-! ### A write that fails (R179) -/

/-- How an entry completes when a write fails (R179). -/
def State.jobFailed (s : State) (e : StoreEntry) : State :=
  match e.job with
  | .port p (.unitList _ _) => s.reply p .acceptedVolatile
  | .port p (.huntBlocks _ _) => s.reply p .acceptedVolatile
  | .port p _ => s.reply p .storeFault
  | .internal o _ => s.setPendingMark o false

/-- Every entry of a failing queue is done with: a waiting RESTART has nothing left to wait for (R178, R194). -/
def State.dropFixed (s : State) : State :=
  match s.restart with
  | some w => { s with restart := some { w with fixed := w.fixed.map (fun _ => 0) } }
  | none => s

/-- Record `bad` of the write in hand reads back wrong twice (R179): the fault state with cause WRITE, the record and
the flag, and the completion of every entry in queue order. DESIGN CHOICE (log entry 64), unsafe: a record that stands on
the damaged list already is not listed again. DESIGN CHOICE (log entry 70), unsafe: the STORE_FAULT record has no feeder, also
when the record it names is a feeder's. -/
def State.writeFailed (s : State) (e : StoreEntry) (n : Nat) (bad : RecordId) : State :=
  let queue := s.store.queue
  let im := (s.writeRecords e.job n).spoil bad
  let known := s.store.damaged
  let damaged := if known.contains bad then known else known ++ [bad]
  let t := (s.setImage im).setStore { fault := some .write, damaged := damaged, queue := [] }
  let t := (t.append none (.block .settingStore) (.storeFaultWrite bad)).setFlag .store
  (queue.foldl State.jobFailed t).dropFixed

/-- STORE_WRITE_COMPLETION (R178, R179): the head entry completes, or its record of the given place fails. An idle
store has nothing to complete. A place beyond the records of the write names no event of the part (log entry 8). -/
def execStoreWriteCompletion (bad : Option Nat) (s : State) : Host.Outcome State Fault Refusal :=
  if !s.powered then .next s
  else
    match s.store.queue with
    | [] => .next s
    | e :: _ =>
      if !e.begun then .next s
      else
        match bad with
        | none => .next (s.writeDone e)
        | some n =>
          match e.job.records[n]? with
          | some r => .next (s.writeFailed e n r)
          | none => .fault .noSuchRecord

end Sys2Proof.Machine
end

