-- ==== Sys2Proof/Machine/ResetCommands.lean ====
section
/-! DEFINITION. The resets: POWER_ON (R176 and every block's power-on values), RESTART_REINITIALISATION (R194) and
POWER_LOSS (R105). Log entry 40 gives the order in which the blocks rebuild. -/

namespace Sys2Proof.Machine

/-! ### Loading the store (R180) -/

/-- A record as it is loaded: its value when the record passes its check, else its replacement; and whether it was
damaged. -/
structure Loaded (α : Type) where
  value : α
  damaged : Bool
  deriving DecidableEq, Repr

/-- Load the record of a place with its range check and its replacement (R177, R180). -/
def loadRecord {α : Type} (fmt : RecordFormat α) (valid : α → Bool) (fallback : α) (i : Nat) (x : Stored α) :
    Loaded α :=
  if x.matches fmt i && valid x.value then { value := x.value, damaged := false }
  else { value := fallback, damaged := true }

/-- Load the record of an index of a list, counted from 0; one that is missing is damaged. -/
def loadIndexed {α : Type} (fmt : RecordFormat α) (valid : α → Bool) (fallback : α) (l : List (Stored α)) (i : Nat) :
    Loaded α :=
  match l[i]? with
  | some x => loadRecord fmt valid fallback (i + 1) x
  | none => { value := fallback, damaged := true }

/-- Load every feeder's record of a class, at the index of its feeder. -/
def loadFeeders {α : Type} (fmt : RecordFormat α) (valid : Feeder → α → Bool) (fallback : α) (index : Feeder → Nat)
    (x : PerFeeder (Stored α)) : PerFeeder (Loaded α) :=
  let load (f : Feeder) : Loaded α := loadRecord fmt (valid f) fallback (index f) (feederGet x f)
  { f1 := load .f1, f2 := load .f2, f3 := load .f3, f4 := load .f4 }

/-- The unit lists in order of feeder number: one that names an address taken by a lower feeder fails (R147). -/
def loadLists (x : PerFeeder (Stored (List Nat))) : PerFeeder (Loaded (List Nat)) :=
  let load (taken : List Nat) (i : Nat) (y : Stored (List Nat)) : Loaded (List Nat) :=
    loadRecord listFormat (fun l => unitListValid l taken) [] i y
  let a := load [] 1 x.f1
  let b := load a.value 2 x.f2
  let c := load (a.value ++ b.value) 3 x.f3
  let d := load (a.value ++ b.value ++ c.value) 4 x.f4
  { f1 := a, f2 := b, f3 := c, f4 := d }

/-- The request that stands for a damaged fire-request record (R127). -/
def damagedRequest (now : Stamp) : FireRequest := { level := .l3, expiry := none, stamp := now, damaged := true }

/-- The entry that stands for a damaged hold record (R106). -/
def damagedHold (now : Stamp) : Hold :=
  { owner := .patrol, kind := .all, tag := 0, reason := 255, expiry := none, stamp := now }

/-- Whether the retained fire requests are in range. -/
def requestsValid (r : PerPort (Option FireRequest)) : Bool :=
  retainedRequestValid r.station && retainedRequestValid r.remote && retainedRequestValid r.panel

/-- The whole store as loaded. -/
structure LoadedStore where
  groupsA : PerFeeder (Loaded SettingGroup)
  groupsB : PerFeeder (Loaded SettingGroup)
  curves : List (Loaded Curve)
  table : Loaded (List Nat)
  exposure : PerFeeder (Loaded Exposure)
  corridor : PerFeeder (Loaded (PerFeeder Bool))
  lists : PerFeeder (Loaded (List Nat))
  isolation : Loaded (List Bool)
  hunt : List (Loaded HuntBlock)
  holds : PerFeeder (Loaded (List Hold))
  requests : Loaded (PerPort (Option FireRequest))
  deriving DecidableEq, Repr

/-- The load of every record (R180). `now` stamps what replaces a damaged hold or fire-request record. -/
def loadStore (im : Image) (now : Stamp) : LoadedStore :=
  { groupsA := loadFeeders groupFormat (fun _ => groupValid) fallbackGroup (fun f => groupIndex f .a) im.groupsA
    groupsB := loadFeeders groupFormat (fun _ => groupValid) fallbackGroup (fun f => groupIndex f .b) im.groupsB
    curves := (List.range 4).map (loadIndexed curveFormat curveValid fallbackCurve im.curves)
    table := loadRecord tableFormat fireTableValid fixedTable 1 im.table
    exposure := loadFeeders exposureFormat (fun _ _ => true) .exposed feederNumber im.exposure
    corridor := loadFeeders corridorFormat (fun f c => !feederGet c f) (forFeeders false) feederNumber im.corridor
    lists := loadLists im.unitLists
    isolation := loadRecord isolationFormat (fun l => l.length == 31) (List.replicate 31 true) 1 im.isolation
    hunt := (List.range 255).map (loadIndexed huntFormat huntBlockValid endBlock im.hunt)
    holds := loadFeeders holdsFormat (fun _ => retainedHoldsValid) [damagedHold now] feederNumber im.holds
    requests := loadRecord requestsFormat requestsValid
      { station := none, remote := some (damagedRequest now), panel := none } 1 im.fireRequests }

/-- The damaged records of a list of loaded ones, numbered from 1. -/
def damagedFrom {α : Type} (c : RecordClass) (i : Nat) : List (Loaded α) → List RecordId
  | [] => []
  | x :: rest => (if x.damaged then [recordId c i] else []) ++ damagedFrom c (i + 1) rest

/-- The four values of a record class. -/
def feederList {α : Type} (x : PerFeeder α) : List α := [x.f1, x.f2, x.f3, x.f4]

/-- The damaged list after a load (R180). DESIGN CHOICE (log entry 64), unsafe: it stands in the order of R177's classes and
in rising index within a class, and the first 8 of STORE_FAULT are the first in that order. -/
def LoadedStore.damaged (l : LoadedStore) : List RecordId :=
  damagedFrom .group 1
      [l.groupsA.f1, l.groupsB.f1, l.groupsA.f2, l.groupsB.f2, l.groupsA.f3, l.groupsB.f3, l.groupsA.f4, l.groupsB.f4] ++
    damagedFrom .curve 1 l.curves ++ damagedFrom .fireTable 1 [l.table] ++
    damagedFrom .exposure 1 (feederList l.exposure) ++ damagedFrom .corridor 1 (feederList l.corridor) ++
    damagedFrom .unitList 1 (feederList l.lists) ++ damagedFrom .isolation 1 [l.isolation] ++
    damagedFrom .huntBlock 1 l.hunt ++ damagedFrom .holds 1 (feederList l.holds) ++
    damagedFrom .fireRequests 1 [l.requests]

/-! ### The blocks' power-on values -/

/-- The two groups of a feeder as loaded, with the fallback mark (R181). -/
def loadedGroups (l : LoadedStore) (f : Feeder) : GroupPair :=
  let w (x : Loaded SettingGroup) : WorkingGroup := { group := x.value, fallback := x.damaged }
  { a := w (feederGet l.groupsA f), b := w (feederGet l.groupsB f) }

/-- The unit table at a start: isolated flags as loaded, and the places of the lists (R147). -/
def loadedUnits (flags : List Bool) (lists : PerFeeder (List Nat)) : List UnitRecord :=
  placeUnits .f4 lists.f4 (placeUnits .f3 lists.f3 (placeUnits .f2 lists.f2 (placeUnits .f1 lists.f1
    (flags.map unitStart))))

/-- The fire controller rebuilt, before the effective settings are computed (R127). -/
def LoadedStore.fire (l : LoadedStore) (effective : PerFeeder Effective) : FireController :=
  { requests := l.requests.value, table := l.table.value, replaced := l.table.damaged
    groups := { f1 := loadedGroups l .f1, f2 := loadedGroups l .f2, f3 := loadedGroups l .f3, f4 := loadedGroups l .f4 }
    curves := l.curves.map Loaded.value
    exposure := feederMap Loaded.value l.exposure
    site := siteLevel l.requests.value
    effective := effective
    pendingMark := false }

/-- A feeder's hold list rebuilt (R106): the retained entries, then FIRE when the level forbids reclosing. -/
def rebuiltList (l : List Hold) (e : Effective) (now : Stamp) : List Hold :=
  if e.levelShots = 0 then
    l ++ [{ owner := .fire, kind := .reclose, tag := 0, reason := 0, expiry := none, stamp := now }]
  else l

/-- The effective settings of every feeder are computed (R127 step 5). -/
def State.computeAll (s : State) : State :=
  s.setFire
    { s.fire with
      effective :=
        { f1 := s.computeEffective .f1, f2 := s.computeEffective .f2, f3 := s.computeEffective .f3
          f4 := s.computeEffective .f4 } }

/-- The hold table of a feeder at a start. -/
def State.rebuiltTable (s : State) (l : LoadedStore) (f : Feeder) : HoldTable :=
  { list := rebuiltList (feederGet l.holds f).value (s.effective f) s.stamp
    corridor := (feederGet l.corridor f).value
    pendingMark := false }

/-- The breaker interface of a feeder at a start (R51). -/
def breakerStart (c : Contacts) : Breaker :=
  { contacts := c, stableClosed := decode c == .closed, alarm := false, faultTimer := none, slot := .empty
    failed := none, lastTrip := none, lastClose := none, askPending := false, huntAsk := false }

/-- An INVALID reading at a start sets the alarm at once (R51). -/
def State.startAlarm (s : State) (f : Feeder) : State :=
  if (s.breaker f).decoded = .invalid then s.positionFault f else s

/-- The store's fault after a load (R180): STORE_FAULT with the number of damaged records and the first 8. -/
def State.loadFault (s : State) (damaged : List RecordId) : State :=
  let t := s.setStore { fault := if damaged = [] then none else some .load, damaged := damaged, queue := [] }
  if damaged = [] then t
  else
    (t.append none (.block .settingStore) (.storeFaultLoad damaged.length (damaged.take 8))).setFlag .store

/-- Every block takes its power-on values from the store and the inputs (R10, R22, R43, R51, R67, R106, R127, R147,
R152, R180). -/
def State.rebuild (s : State) (pins : Pins) : State :=
  let l := loadStore s.image s.stamp
  let t := (s.loadFault l.damaged).setFire (l.fire s.fire.effective)
  let t := t.computeAll
  let lists := feederMap Loaded.value l.lists
  let t :=
    { t with
      receivers := forFeeders receiverStart
      protection := forFeeders protectionStart
      breakers := feederMap breakerStart pins.contacts
      sequencers := feederMap (fun c => sequencerStart (decode c == .closed)) pins.contacts
      holds :=
        { f1 := t.rebuiltTable l .f1, f2 := t.rebuiltTable l .f2, f3 := t.rebuiltTable l .f3
          f4 := t.rebuiltTable l .f4 }
      bus :=
        { state := .gap, since := t.ms, mismatch := none, ackTimer := none, runStart := t.ms, lastActive := t.ms
          queue := [], sent := [], resetPorts := [], units := loadedUnits l.isolation.value lists, lists := lists
          pendingMark := false }
      hunt := { huntStart (l.hunt.map Loaded.value) with asks := s.hunt.asks }
      key := pins.key
      restart := none }
  allFeeders.foldl State.startAlarm t

/-! ### POWER_ON -/

/-- Power-on (R11, R176, R184, R188, R191): the clocks at zero, the log emptied with its POWER_ON record, the ports at
their start values, then every block. -/
def State.powerOn (s : State) (pins : Pins) : State :=
  let t :=
    { s with
      powered := true, ms := 0, time := timeZero, timeSet := false
      ports := portMap (fun (q : PortState) => { portStart with inReset := q.inReset }) s.ports
      log := { records := [], next := 0 } }
  (t.append none (.block .eventLog) .powerOn).rebuild pins

def execPowerOn (pins : Pins) (s : State) : Host.Outcome State Fault Refusal := .next (s.powerOn pins)

/-! ### RESTART_REINITIALISATION -/

/-- The request code of RESTART. -/
def restartCode : Byte := 0x2D

/-- What the reinitialisation answers a port (R194): the response is built with a counter of 0. -/
def restartSlot : PortSlot → PortSlot
  | .inFlight code =>
    .ready { status := if code = restartCode then .accepted else .restarted, code := code, counter := 0, data := [] }
  | _ => .idle

/-- A port after the reinitialisation, with its read pointer at the oldest record (R176, R191, R194). -/
def PortState.restarted (oldest : Word) (q : PortState) : PortState :=
  { portStart with slot := restartSlot q.slot, inReset := q.inReset, pointer := oldest, clockedOut := q.clockedOut }

/-- The reinitialisation (R176, R194): the ports, the RESTART record, the read pointers, then every block. -/
def State.reinitialise (s : State) (p : Port) (pins : Pins) : State :=
  let t := s.append none (.port p) .restart
  ({ t with ports := portMap (PortState.restarted t.log.oldest) t.ports }).rebuild pins

/-- Whether the waits of a RESTART have ended (R194). -/
def State.restartReady (s : State) : Bool :=
  match s.restart with
  | some w => w.fixed == some 0 && !s.anyPulse
  | none => false

/-- The reinitialisation, once both waits have ended; before that nothing happens (log entry 2). -/
def execRestartReinitialisation (pins : Pins) (s : State) : Host.Outcome State Fault Refusal :=
  event s (fun s =>
    match s.restart with
    | some w => if s.restartReady then s.reinitialise w.port pins else s
    | none => s)

/-! ### POWER_LOSS -/

/-- Supply is lost (R105): the records already written stay, the record then being written is damaged. -/
def State.powerLoss (s : State) (written : Nat) : State :=
  let t := { s with powered := false }
  match s.store.queue with
  | [] => t
  | e :: _ =>
    if e.begun then
      let im := s.writeRecords e.job written
      t.setImage
        (match e.job.records[written]? with
          | some r => im.spoil r
          | none => im)
    else t

def execPowerLoss (written : Nat) (s : State) : Host.Outcome State Fault Refusal :=
  event s (fun s => s.powerLoss written)

end Sys2Proof.Machine
end

