-- ==== Sys2Proof/Machine/Dispatch.lean ====
section
/-! DEFINITION. exec: one arm per command, each a direct call of the command's meaning. -/

namespace Sys2Proof.Machine

def exec (i : Instr) (s : State) : Host.Outcome State Fault Refusal :=
  match i with
  | .powerOn pins => Sys2Proof.Machine.execPowerOn pins s
  | .restart p fr => Sys2Proof.Machine.execRestart p fr s
  | .restartReinitialisation pins => Sys2Proof.Machine.execRestartReinitialisation pins s
  | .portReset p => Sys2Proof.Machine.execPortReset p s
  | .portResetRelease p => Sys2Proof.Machine.execPortResetRelease p s
  | .keySwitchChange k => Sys2Proof.Machine.execKeySwitchChange k s
  | .millisecondTick => Sys2Proof.Machine.execMillisecondTick s
  | .measurementFrame bytes => Sys2Proof.Machine.execMeasurementFrame bytes s
  | .frameWatchdogExpiry f => Sys2Proof.Machine.execFrameWatchdogExpiry f s
  | .setTime p fr => Sys2Proof.Machine.execSetTime p fr s
  | .writeCurve p fr => Sys2Proof.Machine.execWriteCurve p fr s
  | .readCurve p fr => Sys2Proof.Machine.execReadCurve p fr s
  | .readProtection p fr => Sys2Proof.Machine.execReadProtection p fr s
  | .positionContactChange f c => Sys2Proof.Machine.execPositionContactChange f c s
  | .positionFaultTimerExpiry f => Sys2Proof.Machine.execPositionFaultTimerExpiry f s
  | .pulseTimerExpiry f => Sys2Proof.Machine.execPulseTimerExpiry f s
  | .tripConfirmTimeExpiry f => Sys2Proof.Machine.execTripConfirmTimeExpiry f s
  | .closeConfirmTimeExpiry f => Sys2Proof.Machine.execCloseConfirmTimeExpiry f s
  | .readBreaker p fr => Sys2Proof.Machine.execReadBreaker p fr s
  | .deadTimerExpiry f taken => Sys2Proof.Machine.execDeadTimerExpiry f taken s
  | .reclaimTimerExpiry f => Sys2Proof.Machine.execReclaimTimerExpiry f s
  | .manualOpen p fr => Sys2Proof.Machine.execManualOpen p fr s
  | .manualClose p fr => Sys2Proof.Machine.execManualClose p fr s
  | .readSequencer p fr => Sys2Proof.Machine.execReadSequencer p fr s
  | .placeHold p fr => Sys2Proof.Machine.execPlaceHold p fr s
  | .removeHold p fr => Sys2Proof.Machine.execRemoveHold p fr s
  | .holdExpiry f owner tag => Sys2Proof.Machine.execHoldExpiry f owner tag s
  | .patrolClear p fr => Sys2Proof.Machine.execPatrolClear p fr s
  | .writeCorridor p fr => Sys2Proof.Machine.execWriteCorridor p fr s
  | .readHolds p fr => Sys2Proof.Machine.execReadHolds p fr s
  | .setFireRequest p fr => Sys2Proof.Machine.execSetFireRequest p fr s
  | .withdrawFireRequest p fr => Sys2Proof.Machine.execWithdrawFireRequest p fr s
  | .fireRequestExpiry p => Sys2Proof.Machine.execFireRequestExpiry p s
  | .writeExposure p fr => Sys2Proof.Machine.execWriteExposure p fr s
  | .writeFireBlock p fr => Sys2Proof.Machine.execWriteFireBlock p fr s
  | .restoreFireTable p fr => Sys2Proof.Machine.execRestoreFireTable p fr s
  | .readFireTable p fr => Sys2Proof.Machine.execReadFireTable p fr s
  | .writeGroup p fr => Sys2Proof.Machine.execWriteGroup p fr s
  | .readFire p fr => Sys2Proof.Machine.execReadFire p fr s
  | .readGroup p fr => Sys2Proof.Machine.execReadGroup p fr s
  | .storeWriteCompletion bad => Sys2Proof.Machine.execStoreWriteCompletion bad s
  | .storeRepair p fr => Sys2Proof.Machine.execStoreRepair p fr s
  | .readStore p fr => Sys2Proof.Machine.execReadStore p fr s
  | .quietGapEnd => Sys2Proof.Machine.execQuietGapEnd s
  | .activeSeen => Sys2Proof.Machine.execActiveSeen s
  | .lostArbitration => Sys2Proof.Machine.execLostArbitration s
  | .preambleWon => Sys2Proof.Machine.execPreambleWon s
  | .checkSent => Sys2Proof.Machine.execCheckSent s
  | .echoMismatch => Sys2Proof.Machine.execEchoMismatch s
  | .echoFail => Sys2Proof.Machine.execEchoFail s
  | .reply chars framing => Sys2Proof.Machine.execReply chars framing s
  | .replyWindowClose => Sys2Proof.Machine.execReplyWindowClose s
  | .report chars framing => Sys2Proof.Machine.execReport chars framing s
  | .ackSent => Sys2Proof.Machine.execAckSent s
  | .heardFrameEnd => Sys2Proof.Machine.execHeardFrameEnd s
  | .clampSeen => Sys2Proof.Machine.execClampSeen s
  | .clampEnd => Sys2Proof.Machine.execClampEnd s
  | .linebusReset p fr => Sys2Proof.Machine.execLinebusReset p fr s
  | .clampOutEnd => Sys2Proof.Machine.execClampOutEnd s
  | .linebusStuck => Sys2Proof.Machine.execLinebusStuck s
  | .linebusRestored => Sys2Proof.Machine.execLinebusRestored s
  | .writeUnitList p fr => Sys2Proof.Machine.execWriteUnitList p fr s
  | .unitCommand p fr => Sys2Proof.Machine.execUnitCommand p fr s
  | .clearIsolation p fr => Sys2Proof.Machine.execClearIsolation p fr s
  | .readLinebus p fr => Sys2Proof.Machine.execReadLinebus p fr s
  | .readUnits p fr => Sys2Proof.Machine.execReadUnits p fr s
  | .writeHuntBlocks p fr => Sys2Proof.Machine.execWriteHuntBlocks p fr s
  | .startHunt p fr => Sys2Proof.Machine.execStartHunt p fr s
  | .huntInsert p fr => Sys2Proof.Machine.execHuntInsert p fr s
  | .huntStepMode p fr => Sys2Proof.Machine.execHuntStepMode p fr s
  | .huntContinue p fr => Sys2Proof.Machine.execHuntContinue p fr s
  | .huntAbort p fr => Sys2Proof.Machine.execHuntAbort p fr s
  | .pauseTimeout => Sys2Proof.Machine.execPauseTimeout s
  | .readHunt p fr => Sys2Proof.Machine.execReadHunt p fr s
  | .readHuntTrace p fr => Sys2Proof.Machine.execReadHuntTrace p fr s
  | .readHuntBlocks p fr => Sys2Proof.Machine.execReadHuntBlocks p fr s
  | .readLog p fr => Sys2Proof.Machine.execReadLog p fr s
  | .logSeek p fr => Sys2Proof.Machine.execLogSeek p fr s
  | .requestFrame p bytes => Sys2Proof.Machine.execRequestFrame p bytes s
  | .responseRead p count => Sys2Proof.Machine.execResponseRead p count s
  | .readAttention p fr => Sys2Proof.Machine.execReadAttention p fr s
  | .readPort p fr => Sys2Proof.Machine.execReadPort p fr s
  | .setAttentionMask p fr => Sys2Proof.Machine.execSetAttentionMask p fr s
  | .powerLoss written => Sys2Proof.Machine.execPowerLoss written s
  | .replyIncomplete => Sys2Proof.Machine.execReplyIncomplete s

end Sys2Proof.Machine
end

