-- ==== Sys2Proof/WellFormed.lean ====
section
/-! DEFINITION. Which commands the part can meet: the operands a row of the table can carry. exec takes every command,
well-formed or not; nothing in the machine asks this check. -/

namespace Sys2Proof

/-- The request code of a request row (R197); none for a row that is no request. -/
def requestCode : Instr → Option Byte
  | .powerOn _ => none
  | .restart _ _ => some 0x2D
  | .restartReinitialisation _ => none
  | .portReset _ => none
  | .portResetRelease _ => none
  | .keySwitchChange _ => none
  | .millisecondTick => none
  | .measurementFrame _ => none
  | .frameWatchdogExpiry _ => none
  | .setTime _ _ => some 0x01
  | .writeCurve _ _ => some 0x04
  | .readCurve _ _ => some 0x03
  | .readProtection _ _ => some 0x02
  | .positionContactChange _ _ => none
  | .positionFaultTimerExpiry _ => none
  | .pulseTimerExpiry _ => none
  | .tripConfirmTimeExpiry _ => none
  | .closeConfirmTimeExpiry _ => none
  | .readBreaker _ _ => some 0x05
  | .deadTimerExpiry _ _ => none
  | .reclaimTimerExpiry _ => none
  | .manualOpen _ _ => some 0x06
  | .manualClose _ _ => some 0x07
  | .readSequencer _ _ => some 0x08
  | .placeHold _ _ => some 0x09
  | .removeHold _ _ => some 0x0A
  | .holdExpiry _ _ _ => none
  | .patrolClear _ _ => some 0x0B
  | .writeCorridor _ _ => some 0x0C
  | .readHolds _ _ => some 0x0D
  | .setFireRequest _ _ => some 0x0E
  | .withdrawFireRequest _ _ => some 0x0F
  | .fireRequestExpiry _ => none
  | .writeExposure _ _ => some 0x10
  | .writeFireBlock _ _ => some 0x11
  | .restoreFireTable _ _ => some 0x12
  | .readFireTable _ _ => some 0x15
  | .writeGroup _ _ => some 0x13
  | .readFire _ _ => some 0x14
  | .readGroup _ _ => some 0x16
  | .storeWriteCompletion _ => none
  | .storeRepair _ _ => some 0x28
  | .readStore _ _ => some 0x29
  | .quietGapEnd => none
  | .activeSeen => none
  | .lostArbitration => none
  | .preambleWon => none
  | .checkSent => none
  | .echoMismatch => none
  | .echoFail => none
  | .reply _ _ => none
  | .replyWindowClose => none
  | .report _ _ => none
  | .ackSent => none
  | .heardFrameEnd => none
  | .clampSeen => none
  | .clampEnd => none
  | .linebusReset _ _ => some 0x1A
  | .clampOutEnd => none
  | .linebusStuck => none
  | .linebusRestored => none
  | .writeUnitList _ _ => some 0x18
  | .unitCommand _ _ => some 0x17
  | .clearIsolation _ _ => some 0x19
  | .readLinebus _ _ => some 0x1B
  | .readUnits _ _ => some 0x1C
  | .writeHuntBlocks _ _ => some 0x1D
  | .startHunt _ _ => some 0x1E
  | .huntInsert _ _ => some 0x1F
  | .huntStepMode _ _ => some 0x21
  | .huntContinue _ _ => some 0x20
  | .huntAbort _ _ => some 0x22
  | .pauseTimeout => none
  | .readHunt _ _ => some 0x23
  | .readHuntTrace _ _ => some 0x24
  | .readHuntBlocks _ _ => some 0x25
  | .readLog _ _ => some 0x26
  | .logSeek _ _ => some 0x27
  | .requestFrame _ _ => none
  | .responseRead _ _ => none
  | .readAttention _ _ => some 0x2A
  | .readPort _ _ => some 0x2B
  | .setAttentionMask _ _ => some 0x2C
  | .powerLoss _ => none
  | .replyIncomplete => none

/-- The port and the frame of a request row. -/
def requestFrameOf : Instr → Option (Port × Frame)
  | .powerOn _ => none
  | .restart p fr => some (p, fr)
  | .restartReinitialisation _ => none
  | .portReset _ => none
  | .portResetRelease _ => none
  | .keySwitchChange _ => none
  | .millisecondTick => none
  | .measurementFrame _ => none
  | .frameWatchdogExpiry _ => none
  | .setTime p fr => some (p, fr)
  | .writeCurve p fr => some (p, fr)
  | .readCurve p fr => some (p, fr)
  | .readProtection p fr => some (p, fr)
  | .positionContactChange _ _ => none
  | .positionFaultTimerExpiry _ => none
  | .pulseTimerExpiry _ => none
  | .tripConfirmTimeExpiry _ => none
  | .closeConfirmTimeExpiry _ => none
  | .readBreaker p fr => some (p, fr)
  | .deadTimerExpiry _ _ => none
  | .reclaimTimerExpiry _ => none
  | .manualOpen p fr => some (p, fr)
  | .manualClose p fr => some (p, fr)
  | .readSequencer p fr => some (p, fr)
  | .placeHold p fr => some (p, fr)
  | .removeHold p fr => some (p, fr)
  | .holdExpiry _ _ _ => none
  | .patrolClear p fr => some (p, fr)
  | .writeCorridor p fr => some (p, fr)
  | .readHolds p fr => some (p, fr)
  | .setFireRequest p fr => some (p, fr)
  | .withdrawFireRequest p fr => some (p, fr)
  | .fireRequestExpiry _ => none
  | .writeExposure p fr => some (p, fr)
  | .writeFireBlock p fr => some (p, fr)
  | .restoreFireTable p fr => some (p, fr)
  | .readFireTable p fr => some (p, fr)
  | .writeGroup p fr => some (p, fr)
  | .readFire p fr => some (p, fr)
  | .readGroup p fr => some (p, fr)
  | .storeWriteCompletion _ => none
  | .storeRepair p fr => some (p, fr)
  | .readStore p fr => some (p, fr)
  | .quietGapEnd => none
  | .activeSeen => none
  | .lostArbitration => none
  | .preambleWon => none
  | .checkSent => none
  | .echoMismatch => none
  | .echoFail => none
  | .reply _ _ => none
  | .replyWindowClose => none
  | .report _ _ => none
  | .ackSent => none
  | .heardFrameEnd => none
  | .clampSeen => none
  | .clampEnd => none
  | .linebusReset p fr => some (p, fr)
  | .clampOutEnd => none
  | .linebusStuck => none
  | .linebusRestored => none
  | .writeUnitList p fr => some (p, fr)
  | .unitCommand p fr => some (p, fr)
  | .clearIsolation p fr => some (p, fr)
  | .readLinebus p fr => some (p, fr)
  | .readUnits p fr => some (p, fr)
  | .writeHuntBlocks p fr => some (p, fr)
  | .startHunt p fr => some (p, fr)
  | .huntInsert p fr => some (p, fr)
  | .huntStepMode p fr => some (p, fr)
  | .huntContinue p fr => some (p, fr)
  | .huntAbort p fr => some (p, fr)
  | .pauseTimeout => none
  | .readHunt p fr => some (p, fr)
  | .readHuntTrace p fr => some (p, fr)
  | .readHuntBlocks p fr => some (p, fr)
  | .readLog p fr => some (p, fr)
  | .logSeek p fr => some (p, fr)
  | .requestFrame _ _ => none
  | .responseRead _ _ => none
  | .readAttention p fr => some (p, fr)
  | .readPort p fr => some (p, fr)
  | .setAttentionMask p fr => some (p, fr)
  | .powerLoss _ => none
  | .replyIncomplete => none

/-- Whether a code names a request of the catalogue (R197): 0x01 to 0x2D. -/
def inCatalogue (code : Byte) : Bool := decide (1 ≤ code.toNat) && decide (code.toNat ≤ 0x2D)

/-- Whether a transfer of raw bytes is one that no request row stands for: it writes a byte, and it is too short for a
frame or its code names no request (R187, R197). -/
def rawOnly : List Byte → Bool
  | [] => false
  | code :: rest => decide (rest.length < 5) || !inCatalogue code

/-- The most records one write of the store holds: a repair's 286 (R177, R182). -/
def mostRecords : Nat := 286

/-- The check: HOLD_EXPIRY names a tag of R88; REPLY carries 2 to 4 characters and REPORT 5 to 11 (R130); a measurement
transfer and a read clock at least one byte; a store record has a place in a write; REQUEST_FRAME carries what no other
row stands for. Every other row takes any operand. -/
def Instr.wellFormed : Instr → Bool
  | .powerOn _ => true
  | .restart _ _ => true
  | .restartReinitialisation _ => true
  | .portReset _ => true
  | .portResetRelease _ => true
  | .keySwitchChange _ => true
  | .millisecondTick => true
  | .measurementFrame bytes => !bytes.isEmpty
  | .frameWatchdogExpiry _ => true
  | .setTime _ _ => true
  | .writeCurve _ _ => true
  | .readCurve _ _ => true
  | .readProtection _ _ => true
  | .positionContactChange _ _ => true
  | .positionFaultTimerExpiry _ => true
  | .pulseTimerExpiry _ => true
  | .tripConfirmTimeExpiry _ => true
  | .closeConfirmTimeExpiry _ => true
  | .readBreaker _ _ => true
  | .deadTimerExpiry _ _ => true
  | .reclaimTimerExpiry _ => true
  | .manualOpen _ _ => true
  | .manualClose _ _ => true
  | .readSequencer _ _ => true
  | .placeHold _ _ => true
  | .removeHold _ _ => true
  | .holdExpiry _ _ tag => tag != 0
  | .patrolClear _ _ => true
  | .writeCorridor _ _ => true
  | .readHolds _ _ => true
  | .setFireRequest _ _ => true
  | .withdrawFireRequest _ _ => true
  | .fireRequestExpiry _ => true
  | .writeExposure _ _ => true
  | .writeFireBlock _ _ => true
  | .restoreFireTable _ _ => true
  | .readFireTable _ _ => true
  | .writeGroup _ _ => true
  | .readFire _ _ => true
  | .readGroup _ _ => true
  | .storeWriteCompletion bad => match bad with | some n => decide (n < mostRecords) | none => true
  | .storeRepair _ _ => true
  | .readStore _ _ => true
  | .quietGapEnd => true
  | .activeSeen => true
  | .lostArbitration => true
  | .preambleWon => true
  | .checkSent => true
  | .echoMismatch => true
  | .echoFail => true
  | .reply chars _ => decide (2 ≤ chars.length) && decide (chars.length ≤ 4)
  | .replyWindowClose => true
  | .report chars _ => decide (5 ≤ chars.length) && decide (chars.length ≤ 11)
  | .ackSent => true
  | .heardFrameEnd => true
  | .clampSeen => true
  | .clampEnd => true
  | .linebusReset _ _ => true
  | .clampOutEnd => true
  | .linebusStuck => true
  | .linebusRestored => true
  | .writeUnitList _ _ => true
  | .unitCommand _ _ => true
  | .clearIsolation _ _ => true
  | .readLinebus _ _ => true
  | .readUnits _ _ => true
  | .writeHuntBlocks _ _ => true
  | .startHunt _ _ => true
  | .huntInsert _ _ => true
  | .huntStepMode _ _ => true
  | .huntContinue _ _ => true
  | .huntAbort _ _ => true
  | .pauseTimeout => true
  | .readHunt _ _ => true
  | .readHuntTrace _ _ => true
  | .readHuntBlocks _ _ => true
  | .readLog _ _ => true
  | .logSeek _ _ => true
  | .requestFrame _ bytes => rawOnly bytes
  | .responseRead _ count => decide (1 ≤ count)
  | .readAttention _ _ => true
  | .readPort _ _ => true
  | .setAttentionMask _ _ => true
  | .powerLoss written => decide (written ≤ mostRecords)
  | .replyIncomplete => true

end Sys2Proof
end

