-- ==== Sys2Proof/Safety.lean ====
section
/-! DEFINITION. What a safe part is: the laws its state keeps at every step, as the manual's prose states them, and the
terms the statements use: when a port takes a frame and how it looks after an answer, what a start gives every block, what
a record of the image holds, and how a protection unit takes a sample. -/

namespace Sys2Proof.Machine

/-! ### Frames at a port (R184 to R188) -/

/-- The part has supply and the port takes a frame: its reset line is released, no orphan request stands and no
request is in flight (R184, R185, R193). -/
abbrev State.portFree (s : State) (p : Port) : Prop :=
  s.powered = true ∧ (s.port p).inReset = false ∧ (s.port p).orphan = false ∧ (s.port p).slot.isInFlight = false

/-- A frame of a code passes to its owner at a READ-class row: the port is free and the frame passes rank FRAME. -/
abbrev State.readTaken (s : State) (p : Port) (code : Byte) (fr : Frame) : Prop :=
  s.portFree p ∧ framePasses code fr = true

/-- A frame of a code passes rank SEQUENCE too: it carries the port's control counter (R188). -/
abbrev State.controlTaken (s : State) (p : Port) (code : Byte) (fr : Frame) : Prop :=
  s.readTaken p code fr ∧ fr.counter = (s.port p).counter

/-- The port with a READ-class request answered: the response stands READY with the counter as it stands, and the
transfer clocked out NOT_READY in every byte. -/
def State.readAnswered (s : State) (p : Port) (code : Byte) (fr : Frame) (st : Status) (data : List Byte) : State :=
  s.setPort p
    { s.port p with
      slot := .ready { status := st, code := code, counter := (s.port p).counter, data := data }
      busyNote := none, clockedOut := List.replicate (frameSize fr) 0#8 }

/-- The port with a control request in flight: the counter has risen by 1 (R188). -/
def State.controlInFlight (s : State) (p : Port) (code : Byte) (fr : Frame) : State :=
  s.setPort p
    { s.port p with
      slot := .inFlight code, counter := (s.port p).counter + 1
      clockedOut := List.replicate (frameSize fr) 0#8 }

/-- The port with a control request answered, with the counter after its increment (R186, R188). -/
def State.controlAnswered (s : State) (p : Port) (code : Byte) (fr : Frame) (st : Status) (data : List Byte) :
    State :=
  s.setPort p
    { s.port p with
      slot := .ready { status := st, code := code, counter := (s.port p).counter + 1, data := data }
      busyNote := none, counter := (s.port p).counter + 1
      clockedOut := List.replicate (frameSize fr) 0#8 }

/-- The response that stands READY at a port, if one does. -/
def State.responseAt (s : State) (p : Port) : Option Response :=
  match (s.port p).slot with
  | .ready r => some r
  | _ => none

/-- The status and the data of the response that stands READY at a port, if one does. -/
def State.answerAt (s : State) (p : Port) : Option (Status × List Byte) :=
  (s.responseAt p).map (fun r => (r.status, r.data))

/-- The codes of the READ-class requests (R189, R197). -/
def readCodes : List Byte :=
  [0x02, 0x03, 0x05, 0x08, 0x0D, 0x14, 0x15, 0x16, 0x1B, 0x1C, 0x23, 0x24, 0x25, 0x29, 0x2A, 0x2B]

/-- The table of R189: whether a request row is granted to its port with the key switch at a position. A row that is no
request is granted. -/
def grantedTo (k : KeyPosition) : Instr → Bool
  | .restart p _ => p != .panel
  | .setTime p _ => p != .panel
  | .writeCurve p _ => p != .panel
  | .manualOpen p _ => p != .remote || k == .remotePos
  | .manualClose p _ => p == .station || (p == .remote && k == .remotePos) || (p == .panel && k == .localPos)
  | .removeHold p fr => grantRemoveHold k fr.payload p
  | .patrolClear p _ => p != .station
  | .writeCorridor p _ => p != .panel
  | .writeExposure p _ => p != .panel
  | .writeFireBlock p _ => p != .panel
  | .restoreFireTable p _ => p != .panel
  | .writeGroup p _ => p != .panel
  | .storeRepair p _ => p != .panel
  | .linebusReset p _ => p != .panel
  | .writeUnitList p _ => p != .panel
  | .unitCommand p fr => grantUnitCommand k fr.payload p
  | .clearIsolation p _ => p != .panel
  | .writeHuntBlocks p _ => p != .panel
  | .startHunt p _ => grantHunt k p
  | .huntInsert p _ => grantHunt k p
  | .huntStepMode p _ => grantHunt k p
  | .huntContinue p _ => grantHunt k p
  | _ => true

/-! ### Frames of the state: what a command leaves as it was -/

/-- The parts of State. -/
inductive Part where
  | supply | milliseconds | clock | key | receivers | protection | breakers | sequencers | holds | fire | bus | hunt
  | log | store | image | ports | restart | pending
  deriving DecidableEq, Repr

/-- Two states agree on a part. -/
def State.agree (s t : State) : Part → Prop
  | .supply => t.powered = s.powered
  | .milliseconds => t.ms = s.ms
  | .clock => t.time = s.time ∧ t.timeSet = s.timeSet
  | .key => t.key = s.key
  | .receivers => t.receivers = s.receivers
  | .protection => t.protection = s.protection
  | .breakers => t.breakers = s.breakers
  | .sequencers => t.sequencers = s.sequencers
  | .holds => t.holds = s.holds
  | .fire => t.fire = s.fire
  | .bus => t.bus = s.bus
  | .hunt => t.hunt = s.hunt
  | .log => t.log = s.log
  | .store => t.store = s.store
  | .image => t.image = s.image
  | .ports => t.ports = s.ports
  | .restart => t.restart = s.restart
  | .pending => t.pending = s.pending

/-- From s to t nothing changed outside some parts. -/
def State.changesOnly (s : State) (l : List Part) (t : State) : Prop := ∀ x, x ∉ l → s.agree t x

/-- From s to t every feeder's blocks but one's stayed as they were. -/
def State.feederOnly (s : State) (f : Feeder) (t : State) : Prop :=
  ∀ g, g ≠ f → t.receiver g = s.receiver g ∧ t.unit g = s.unit g ∧ t.breaker g = s.breaker g ∧
    t.sequencer g = s.sequencer g ∧ t.holdTable g = s.holdTable g

/-- The record a completed port write appends: its feeder and its details (R28, R103, R113, R116, R117, R125, R144, R151,
R182). The state gives the values that a block write replaces. -/
def State.writtenRecord (s : State) (p : Port) : PortWrite → Option Feeder × Details
  | .curve n _ => (none, .settingsWritten (.curve n) p)
  | .group f l _ => (some f, .settingsWritten (.group f l) p)
  | .fireBlock start values =>
    (none, .fireTableWritten start ((s.fire.table.drop start).take values.length) values p)
  | .restoreTable => (none, .fireTableRestored p)
  | .exposure f _ => (some f, .settingsWritten (.exposure f) p)
  | .corridor f _ => (some f, .settingsWritten (.corridor f) p)
  | .unitList f _ => (some f, .settingsWritten (.unitList f) p)
  | .huntBlocks first blocks => (none, .settingsWritten (.huntMemory first blocks.length) p)
  | .repair => (none, .storeFaultCleared)

/-- The law of R178: the head entry of the store's queue, if any, has begun; only once a RESTART has nothing left to
wait for in the store may one stand that has not (log entry 10). -/
def State.StoreLaw (s : State) : Prop :=
  match s.store.queue with
  | [] => True
  | e :: _ => e.begun = true ∨ s.storeMayBegin = false

/-- The record class and index that the contents of an internal write stand in (R177; log entry 38). -/
def Retained.record : Retained → RecordId
  | .holds f _ => recordId .holds (feederNumber f)
  | .fireRequests _ => recordId .fireRequests 1
  | .isolation _ => recordId .isolation 1

/-- The law of R177 and R178: the image holds the 4 curves and the 255 hunt blocks, every queued write names records of
the image, and an internal write that has begun carries its own owner's contents. -/
def State.ImageLaw (s : State) : Prop :=
  s.image.curves.length = 4 ∧ s.image.hunt.length = 255 ∧
    ∀ e ∈ s.store.queue, (∀ r ∈ e.job.records, r ∈ allRecords) ∧
      ∀ o taken, e.job = .internal o taken → e.begun = true → taken.map Retained.record = some o.record

/-! ### Records of the nonvolatile image (R177, R178, R182) -/

/-- A record of the nonvolatile image, of one of the ten classes. -/
inductive ImageRecord where
  | group (x : Stored SettingGroup)
  | curve (x : Stored Curve)
  | fireTable (x : Stored (List Nat))
  | exposure (x : Stored Exposure)
  | corridor (x : Stored (PerFeeder Bool))
  | unitList (x : Stored (List Nat))
  | isolation (x : Stored (List Bool))
  | huntBlock (x : Stored HuntBlock)
  | holds (x : Stored (List Hold))
  | fireRequests (x : Stored (PerPort (Option FireRequest)))
  deriving DecidableEq, Repr

/-- Whether a record passes the check of its place (R177). -/
def ImageRecord.passes (i : Nat) : ImageRecord → Bool
  | .group x => x.matches groupFormat i
  | .curve x => x.matches curveFormat i
  | .fireTable x => x.matches tableFormat i
  | .exposure x => x.matches exposureFormat i
  | .corridor x => x.matches corridorFormat i
  | .unitList x => x.matches listFormat i
  | .isolation x => x.matches isolationFormat i
  | .huntBlock x => x.matches huntFormat i
  | .holds x => x.matches holdsFormat i
  | .fireRequests x => x.matches requestsFormat i

/-- What stands in the image at a class and an index (the numbering is log entry 38's). -/
def Image.recordAt (im : Image) (r : RecordId) : Option ImageRecord :=
  match r.cls with
  | .group =>
    (groupOf r.index).map (fun x => .group (feederGet (match x.2 with | .a => im.groupsA | .b => im.groupsB) x.1))
  | .curve => im.curves[r.index - 1]?.map .curve
  | .fireTable => some (.fireTable im.table)
  | .exposure => (feederOf r.index).map (fun f => .exposure (feederGet im.exposure f))
  | .corridor => (feederOf r.index).map (fun f => .corridor (feederGet im.corridor f))
  | .unitList => (feederOf r.index).map (fun f => .unitList (feederGet im.unitLists f))
  | .isolation => some (.isolation im.isolation)
  | .huntBlock => im.hunt[r.index - 1]?.map .huntBlock
  | .holds => (feederOf r.index).map (fun f => .holds (feederGet im.holds f))
  | .fireRequests => some (.fireRequests im.fireRequests)

/-- The record that a write of the working set leaves at a place (R182). -/
def State.workingRecord (s : State) (r : RecordId) : Option ImageRecord :=
  match r.cls with
  | .group =>
    (groupOf r.index).map (fun x => .group (stored groupFormat r.index (s.workingGroup x.1 x.2).group))
  | .curve => some (.curve (stored curveFormat r.index (s.curve r.index)))
  | .fireTable => some (.fireTable (stored tableFormat 1 s.fire.table))
  | .exposure =>
    (feederOf r.index).map (fun f => .exposure (stored exposureFormat r.index (feederGet s.fire.exposure f)))
  | .corridor =>
    (feederOf r.index).map (fun f => .corridor (stored corridorFormat r.index (s.holdTable f).corridor))
  | .unitList =>
    (feederOf r.index).map (fun f => .unitList (stored listFormat r.index (feederGet s.bus.lists f)))
  | .isolation => some (.isolation (stored isolationFormat 1 (s.bus.units.map UnitRecord.isolated)))
  | .huntBlock => some (.huntBlock (stored huntFormat r.index (s.huntBlock r.index)))
  | .holds =>
    (feederOf r.index).map (fun f => .holds (stored holdsFormat r.index (retainedHolds (s.holdTable f).list)))
  | .fireRequests => some (.fireRequests (stored requestsFormat 1 (retainedRequests s.fire.requests)))

/-- The record that a write leaves at one of its places: the value it carries, with the header and the check code that pass
(R177, R178); of a block write of the fire table the table with the four fields replaced. -/
def State.recordWritten (s : State) (j : StoreJob) (r : RecordId) : Option ImageRecord :=
  match j with
  | .port _ (.curve n c) => some (.curve (stored curveFormat n c))
  | .port _ (.group f l g) => some (.group (stored groupFormat (groupIndex f l) g))
  | .port _ (.fireBlock start values) =>
    some (.fireTable (stored tableFormat 1 (writeFields s.fire.table start values)))
  | .port _ .restoreTable => some (.fireTable (stored tableFormat 1 fixedTable))
  | .port _ (.exposure f x) => some (.exposure (stored exposureFormat (feederNumber f) x))
  | .port _ (.corridor f c) => some (.corridor (stored corridorFormat (feederNumber f) c))
  | .port _ (.unitList f l) => some (.unitList (stored listFormat (feederNumber f) l))
  | .port _ (.huntBlocks first blocks) =>
    blocks[r.index - first]?.map (fun b => .huntBlock (stored huntFormat r.index b))
  | .port _ .repair => s.workingRecord r
  | .internal _ (some (.holds f l)) => some (.holds (stored holdsFormat (feederNumber f) l))
  | .internal _ (some (.fireRequests x)) => some (.fireRequests (stored requestsFormat 1 x))
  | .internal _ (some (.isolation l)) => some (.isolation (stored isolationFormat 1 l))
  | .internal _ none => none

/-- An image holds the first n records of a write with the values it carries, and every other record but one left out as the
image of a state held it (R178). -/
def State.imageAfter (s : State) (j : StoreJob) (n : Nat) (but : Option RecordId) (im : Image) : Prop :=
  ∀ q ∈ allRecords, some q ≠ but →
    (q ∈ j.records.take n → im.recordAt q = s.recordWritten j q) ∧
    (q ∉ j.records.take n → im.recordAt q = s.image.recordAt q)

/-! ### The event log (R172, R173) -/

/-- Records run on without a gap up to the next sequence number, modulo 65,536 (R172). -/
def numbered : List LogRecord → Word → Prop
  | [], _ => True
  | [r], next => r.seq + 1 = next
  | r :: q :: rest, next => r.seq + 1 = q.seq ∧ numbered (q :: rest) next

/-- The law of R172 and R173: 1 to 128 records, numbered without a gap, and every port's read pointer is the sequence
number of a record held or the next one. -/
def State.LogLaw (s : State) : Prop :=
  1 ≤ s.log.records.length ∧ s.log.records.length ≤ logCapacity ∧ numbered s.log.records s.log.next ∧
    ∀ p, (s.port p).pointer = s.log.next ∨ ∃ r ∈ s.log.records, r.seq = (s.port p).pointer

/-! ### Hold lists (R88, R89) -/

/-- An entry is of its owner's form (R88): a master entry has a tag, an automatic entry has tag 0, the kind of its
owner and no other. -/
def Hold.lawful (h : Hold) : Prop :=
  match h.owner with
  | .master _ => 1 ≤ h.tag ∧ h.tag ≤ 65535
  | .fire => h.tag = 0 ∧ h.kind = .reclose
  | .hunt => h.tag = 0 ∧ h.kind = .reclose
  | .patrol => h.tag = 0 ∧ h.kind = .all

/-- The law of R89 on every feeder's list: at most 9 master entries, no two entries with one owner and tag (so at
most one of each automatic owner, whose tag is 0), and every entry of its owner's form. -/
def State.HoldLaw (s : State) : Prop :=
  ∀ f, masterCount (s.holdTable f).list ≤ masterHoldLimit ∧ holdsDistinct (s.holdTable f).list = true ∧
    ∀ h ∈ (s.holdTable f).list, h.lawful

/-- The law of R84, R36 and R152: a HUNT entry stands on a feeder's list exactly while a hunt is RUNNING, PAUSED or
STOPPING on it, and exactly then its sequencer is in HUNT and its freeze mark is set. -/
def State.HuntLaw (s : State) : Prop :=
  ∀ f, hasOwner (s.holdTable f).list .hunt = s.huntOn f ∧ ((s.sequencer f).state = .hunt ↔ s.huntOn f = true) ∧
    (s.unit f).base.frozen = s.huntOn f

/-! ### Fire levels (R112, R119, R121) -/

/-- The law of R112 and R119: the site level is the highest of the live requests, and every feeder's effective
settings are the ones computed from its exposure, the table and its groups. -/
def State.LevelLaw (s : State) : Prop :=
  s.fire.site = siteLevel s.fire.requests ∧ ∀ f, s.effective f = s.computeEffective f

/-- The law of R121: a feeder's list holds a FIRE entry exactly when the shot limit of its effective level is 0. -/
def State.FireLaw (s : State) : Prop :=
  ∀ f, hasOwner (s.holdTable f).list .fire = true ↔ (s.effective f).levelShots = 0

/-! ### Protection (R19, R23, R33, R37, R39) -/

/-- The bounds of a protection unit under its effective settings: accumulators at most full scale, the high-set
counter at most 50, S at most 2 × DSeff, B at most Blim, and Bacc 0 while the baseline is unseeded. -/
def Protection.bounded (u : Protection) (e : Effective) : Prop :=
  u.oc.acc ≤ fullScale ∧ u.ef.acc ≤ fullScale ∧ u.hs.count ≤ 50 ∧ u.sef.count ≤ 2 * e.sefDelay ∧
    u.base.value e.group.shift ≤ e.group.limit ∧ (u.base.seeded = false → u.base.acc = 0)

/-- Whether an inverse-time element operates on each of a run of samples, given by their ratios (R19). -/
def Inverse.run (c : Curve) (tms d : Nat) : Inverse → List Nat → List Bool
  | _, [] => []
  | x, m :: rest => (x.sample m c tms d).2 :: Inverse.run c tms d (x.sample m c tms d).1 rest

/-- Whether the SEF element operates on each of a run of samples with the freeze mark clear, given by their
compensated residuals (R39). -/
def Sef.run (ps ds : Nat) : Sef → List Nat → List Bool
  | _, [] => []
  | x, e :: rest => (x.sample e ps ds false).2 :: Sef.run ps ds (x.sample e ps ds false).1 rest

/-- Every feeder's protection unit keeps its bounds. -/
def State.ProtectionLaw (s : State) : Prop := ∀ f, (s.unit f).bounded (s.effective f)

/-! ### Settings (R16, R114, R123) -/

/-- A queued port write carries values within their ranges. -/
def StoreEntry.inRange (e : StoreEntry) : Prop :=
  match e.job with
  | .port _ (.curve n c) => 1 ≤ n ∧ n ≤ 4 ∧ curveValid c = true
  | .port _ (.group _ _ g) => groupValid g = true
  | .port _ (.fireBlock start values) =>
    start ≤ 32 ∧ values.length = 4 ∧ fireValuesValid start values = true
  | _ => True

/-- Every setting in the working set lies within its range: the four curves meet R16, the 36 fields of the fire action
table meet R114, both groups of every feeder meet R123, and the 255 hunt blocks meet R149; and so will the writes that
stand in the store's queue. -/
def State.SettingsLaw (s : State) : Prop :=
  s.fire.curves.length = 4 ∧ (∀ c ∈ s.fire.curves, curveValid c = true) ∧ fireTableValid s.fire.table = true ∧
    (∀ f l, groupValid (s.workingGroup f l).group = true) ∧
    s.hunt.memory.length = 255 ∧ (∀ b ∈ s.hunt.memory, huntBlockValid b = true) ∧
    ∀ e ∈ s.store.queue, e.inRange

/-! ### Line bus (R137) -/

/-- The law of R137: at most 8 entries, at most 7 of them the masters' and at most one the hunt engine's. -/
def State.QueueLaw (s : State) : Prop :=
  s.bus.queue.length ≤ 8 ∧ masterEntries s.bus.queue ≤ masterEntryLimit ∧ s.bus.queue.countP BusEntry.isHunt ≤ 1

/-! ### The hunt trace (R156, R162) -/

/-- A hunt that executes a block, or holds one paused that has been counted in its budget, has completed fewer than 64. -/
def Hunt.inBlock (h : Hunt) : Prop := h.state = .running ∨ (h.state = .paused ∧ h.pauseReason ≠ .step)

/-- The law of R162: one trace record for each executed block, and at most 64; and a block in execution is one of the
64. -/
def State.TraceLaw (s : State) : Prop :=
  s.hunt.trace.length = s.hunt.steps ∧ s.hunt.steps ≤ stepBudget ∧ (s.hunt.inBlock → s.hunt.steps < stepBudget)

/-! ### Records -/

/-- A record with given details, feeder and source stands last in the log, stamped with the moment of a state. -/
def State.lastRecord (t : State) (feeder : Option Feeder) (source : RecordSource) (now : Stamp) (d : Details) :
    Prop :=
  ∃ older, t.log.records =
    older ++ [{ seq := t.log.next - 1, stamp := now, feeder := feeder, source := source, details := d }]

/-- Every port whose reset line is released has a flag set (R191, R193). -/
def State.flagSet (t : State) (fl : AttentionFlag) : Prop := ∀ p, (t.port p).inReset = true ∨ (t.port p).hasFlag fl = true

/-! ### One sample at the protection unit (R13, R25, R34 to R37, R41) -/

/-- The baseline a sample is compensated with: an unseeded one is seeded by the sample (R34, R35). -/
def Protection.baseFor (u : Protection) (e : Effective) (x : Sample) : Baseline :=
  if u.base.seeded = true then u.base else u.base.seed x.i0 e.group.shift e.group.limit

/-- The SEF element on a sample: its state, and whether it operates (R39, R42). -/
def Protection.sefOn (u : Protection) (e : Effective) (x : Sample) : Sef × Bool :=
  u.sef.sample (x.i0 - (u.baseFor e x).value e.group.shift) e.sefPickup e.sefDelay u.base.frozen

/-- The SEF element raises its alarm on a sample (R41). -/
def Protection.raisesAlarm (u : Protection) (e : Effective) (x : Sample) : Bool :=
  (u.sefOn e x).2 && !e.sefTrip && !u.sef.alarm

/-- A protection unit after the elements have taken a sample (R13, R15, R34). -/
def Protection.afterElements (u : Protection) (e : Effective) (oc ef : Curve) (x : Sample) : Protection :=
  { u with
    last := some x
    oc := (u.oc.sample (currentRatio (max x.ia (max x.ib x.ic)) e.group.ocPickup) oc e.ocTms e.group.ocReset).1
    ef := (u.ef.sample (currentRatio x.i0 e.group.efPickup) ef e.efTms e.group.efReset).1
    hs := (u.hs.sample (currentRatio (max x.ia (max x.ib x.ic)) e.group.ocPickup) e.group.hsRatio e.hsFrames).1
    base := u.baseFor e x
    sef := { (u.sefOn e x).1 with alarm := (u.sefOn e x).1.alarm || u.raisesAlarm e x } }

/-- The cause of the trip that a protection unit requests on a sample, if it requests one (R25). -/
def Protection.causeOn (u : Protection) (e : Effective) (oc ef : Curve) (x : Sample) : Option Cause :=
  if (u.hs.sample (currentRatio (max x.ia (max x.ib x.ic)) e.group.ocPickup) e.group.hsRatio e.hsFrames).2 then some .hs
  else if (u.oc.sample (currentRatio (max x.ia (max x.ib x.ic)) e.group.ocPickup) oc e.ocTms e.group.ocReset).2 then
    some .oc
  else if (u.ef.sample (currentRatio x.i0 e.group.efPickup) ef e.efTms e.group.efReset).2 then some .ef
  else if (u.sefOn e x).2 && e.sefTrip then some .sef
  else none

/-- From s to t the protection unit of a feeder has changed as its new value says, and nothing else but records of its own
and their flag. -/
def State.unitBecomes (s : State) (f : Feeder) (u : Protection) (t : State) : Prop :=
  s.changesOnly [.protection, .log, .ports] t ∧ t.unit f = u ∧ ∀ g, g ≠ f → t.unit g = s.unit g

/-- A BASELINE_HIGH record of a feeder stands in the log with a moment, a value and a limit, and its flag is set (R37). -/
def State.baselineHighSaid (t : State) (f : Feeder) (now : Stamp) (v limit : Nat) : Prop :=
  t.flagSet .measurement ∧ ∃ r ∈ t.log.records, r.feeder = some f ∧ r.source = .block .protectionUnit ∧ r.stamp = now ∧
    r.details = .baselineHigh v limit

/-- From s to t the protection unit of a feeder has taken one sample whole, in the steps of R34: the elements, with the
records of a seeding beyond the limit (R35, R37) and of an alarm (R41; last of the two, log entry 57); one trip request
with the cause found (R25); the update of the baseline on a qualifying sample that did not seed it (R35, R36, R37); and the
count of an open window (R45, R46). The records' sources are log entry 14's. -/
def State.sampled (s : State) (f : Feeder) (x : Sample) (t : State) : Prop :=
  ∃ a b c : State,
    s.unitBecomes f
      ((s.unit f).afterElements (s.effective f) (s.curve (s.effective f).group.ocCurve)
        (s.curve (s.effective f).group.efCurve) x) a ∧
    ((s.unit f).base.seeded = false → (s.unit f).base.high = false → (s.effective f).group.limit < x.i0 →
      a.baselineHighSaid f s.stamp x.i0 (s.effective f).group.limit) ∧
    ((s.unit f).raisesAlarm (s.effective f) x = true →
      a.flagSet .measurement ∧
        a.lastRecord (some f) (.block .protectionUnit) s.stamp
          (.sefAlarm ((s.unit f).sefOn (s.effective f) x).1.residual
            (((s.unit f).baseFor (s.effective f) x).value (s.effective f).group.shift) (s.effective f).sefDelay)) ∧
    ((s.unit f).base.seeded = true ∨ (s.unit f).base.high = true ∨ x.i0 ≤ (s.effective f).group.limit →
      (s.unit f).raisesAlarm (s.effective f) x = false → a.log = s.log ∧ a.ports = s.ports) ∧
    b = (match (s.unit f).causeOn (s.effective f) (s.curve (s.effective f).group.ocCurve)
          (s.curve (s.effective f).group.efCurve) x with
        | some k => a.protectionTrip f k
        | none => a) ∧
    ((s.unit f).base.seeded = false ∨ (b.unit f).sef.pickup = true ∨ (b.unit f).base.frozen = true → c = b) ∧
    ((s.unit f).base.seeded = true → (b.unit f).sef.pickup = false → (b.unit f).base.frozen = false →
      b.unitBecomes f
        { b.unit f with
          base := (b.unit f).base.update x.i0 (b.effective f).group.shift (b.effective f).group.limit } c ∧
      ((b.unit f).base.high = false → (c.unit f).base.high = true →
        c.baselineHighSaid f b.stamp x.i0 (b.effective f).group.limit) ∧
      ((b.unit f).base.high = true ∨ (c.unit f).base.high = false → c.log = b.log ∧ c.ports = b.ports)) ∧
    t = c.windowSample f

/-- From s to t the protection unit of a feeder has taken a list of samples in order (R5). -/
def State.takesSamples (f : Feeder) : State → List Sample → State → Prop
  | s, [], t => t = s
  | s, x :: rest, t => ∃ u, s.sampled f x u ∧ State.takesSamples f u rest t

/-! ### The blocks at a start (R10, R22, R43, R51, R67, R106, R127, R147, R152, R180) -/

/-- Every block but the event log and the ports stands as a power-on or a reinitialisation leaves it, with the inputs at
given levels: what the store gave (R177, R180) aside, with nothing in progress and nothing pending. The fields that no rule
gives a value are log entries 30's and 50's. -/
def State.startsAfresh (t : State) (pins : Pins) : Prop :=
  t.key = pins.key ∧ t.restart = none ∧
    t.receivers = forFeeders receiverStart ∧ t.protection = forFeeders protectionStart ∧
    (∀ f, t.breaker f =
      { contacts := feederGet pins.contacts f
        stableClosed := decode (feederGet pins.contacts f) == .closed
        alarm := decode (feederGet pins.contacts f) == .invalid
        faultTimer := none, slot := .empty, failed := none, lastTrip := none, lastClose := none, askPending := false
        huntAsk := false }) ∧
    (∀ f, t.sequencer f = sequencerStart (decode (feederGet pins.contacts f) == .closed)) ∧
    (∀ f, (t.holdTable f).pendingMark = false ∧ hasOwner (t.holdTable f).list .hunt = false ∧
      (hasOwner (t.holdTable f).list .fire = true ↔ (t.effective f).levelShots = 0) ∧
      ((t.effective f).levelShots = 0 →
        (t.holdTable f).list.getLast? = some
          { owner := .fire, kind := .reclose, tag := 0, reason := 0, expiry := none, stamp := t.stamp })) ∧
    t.fire.site = siteLevel t.fire.requests ∧ (∀ f, t.effective f = t.computeEffective f) ∧
    t.fire.pendingMark = false ∧
    t.bus =
      { state := .gap, since := t.ms, mismatch := none, ackTimer := none, runStart := t.ms, lastActive := t.ms, queue := []
        sent := [], resetPorts := [], units := t.bus.units, lists := t.bus.lists, pendingMark := false } ∧
    t.bus.units.length = 31 ∧
    (∀ a, 1 ≤ a → a ≤ 31 →
      t.unitRecord a =
        { switch := .unknown, faultPassed := false, localLock := false, batteryLow := false, silent := false
          lastContact := none, lastCommand := none
          isolated := (t.unitRecord a).isolated, place := (t.unitRecord a).place } ∧
      ((∀ f, a ∉ feederGet t.bus.lists f) → (t.unitRecord a).place = none) ∧
      ∀ f i, (feederGet t.bus.lists f)[i]? = some a →
        (t.unitRecord a).place = some { feeder := f, index := i + 1 }) ∧
    t.hunt = { huntStart t.hunt.memory with asks := t.hunt.asks } ∧
    t.store.queue = [] ∧ t.store.fault = (if t.store.damaged = [] then none else some .load)

/-- The flags of a port after a start: STORE when a record was replaced at the load (R180), TRIP when a position-fault alarm
was raised (R51), and no other; none while its reset line is asserted (R191, R193). -/
def State.startFlags (t : State) (pins : Pins) (p : Port) : Prop :=
  ∀ fl : AttentionFlag, (t.port p).hasFlag fl = true ↔
    (t.port p).inReset = false ∧
      ((fl = .store ∧ t.store.damaged ≠ []) ∨
        (fl = .trip ∧ ∃ f, decode (feederGet pins.contacts f) = .invalid))

/-- R177, R180: what a load leaves, of an image and with the stamp of the load. A record that passes its check is loaded: its
class, index and length are those of its place, its check code matches, and every field is in range. One that does not is
replaced, the safe way round (R30, R103, R106, R127, R147, R149, R181), and stands once on the damaged list; while there is
one the store's fault state is LOAD. The bytes the check code covers are log entry 39's, the records' numbers log entry 38's,
and that a hold record whose entries break R89's law fails log entry 71's. -/
def State.loadedFrom (t : State) (im : Image) (now : Stamp) : Prop :=
  t.store.damaged.Nodup ∧ (∀ r ∈ t.store.damaged, r ∈ allRecords) ∧
  (∀ r ∈ allRecords, (∀ x, im.recordAt r = some x → x.passes r.index = false) → r ∈ t.store.damaged) ∧
  t.store.fault = (if t.store.damaged = [] then none else some .load) ∧
  (∀ f l x, x = feederGet (match l with | .a => im.groupsA | .b => im.groupsB) f →
    (t.workingGroup f l =
      if x.matches groupFormat (groupIndex f l) && groupValid x.value then { group := x.value, fallback := false }
      else { group := fallbackGroup, fallback := true }) ∧
    (recordId .group (groupIndex f l) ∈ t.store.damaged ↔
      (x.matches groupFormat (groupIndex f l) && groupValid x.value) = false)) ∧
  (∀ n x, 1 ≤ n → n ≤ 4 → im.curves[n - 1]? = some x →
    (t.curve n = if x.matches curveFormat n && curveValid x.value then x.value else fallbackCurve) ∧
    (recordId .curve n ∈ t.store.damaged ↔ (x.matches curveFormat n && curveValid x.value) = false)) ∧
  (∀ ok, ok = (im.table.matches tableFormat 1 && fireTableValid im.table.value) →
    t.fire.table = (if ok then im.table.value else fixedTable) ∧ t.fire.replaced = !ok ∧
    (recordId .fireTable 1 ∈ t.store.damaged ↔ ok = false)) ∧
  (∀ f x, x = feederGet im.exposure f →
    (feederGet t.fire.exposure f = if x.matches exposureFormat (feederNumber f) then x.value else .exposed) ∧
    (recordId .exposure (feederNumber f) ∈ t.store.damaged ↔
      x.matches exposureFormat (feederNumber f) = false)) ∧
  (∀ f x, x = feederGet im.corridor f →
    ((t.holdTable f).corridor =
      if x.matches corridorFormat (feederNumber f) && !feederGet x.value f then x.value else forFeeders false) ∧
    (recordId .corridor (feederNumber f) ∈ t.store.damaged ↔
      (x.matches corridorFormat (feederNumber f) && !feederGet x.value f) = false)) ∧
  (∀ f x ok, x = feederGet im.unitLists f →
    ok = (x.matches listFormat (feederNumber f) &&
      unitListValid x.value ((allFeeders.take (feederNumber f - 1)).flatMap (feederGet t.bus.lists))) →
    feederGet t.bus.lists f = (if ok then x.value else []) ∧
    (recordId .unitList (feederNumber f) ∈ t.store.damaged ↔ ok = false)) ∧
  (∀ a x, x = im.isolation → 1 ≤ a → a ≤ 31 →
    ((t.unitRecord a).isolated =
      if x.matches isolationFormat 1 && x.value.length == 31 then x.value.getD (a - 1) true else true) ∧
    (recordId .isolation 1 ∈ t.store.damaged ↔ (x.matches isolationFormat 1 && x.value.length == 31) = false)) ∧
  (∀ n x, 1 ≤ n → n ≤ 255 → im.hunt[n - 1]? = some x →
    (t.huntBlock n = if x.matches huntFormat n && huntBlockValid x.value then x.value else endBlock) ∧
    (recordId .huntBlock n ∈ t.store.damaged ↔ (x.matches huntFormat n && huntBlockValid x.value) = false)) ∧
  (∀ f x, x = feederGet im.holds f →
    ((t.holdTable f).list.filter (fun h => h.owner != .fire) =
      if x.matches holdsFormat (feederNumber f) && retainedHoldsValid x.value then x.value
      else [{ owner := .patrol, kind := .all, tag := 0, reason := 255, expiry := none, stamp := now }]) ∧
    (recordId .holds (feederNumber f) ∈ t.store.damaged ↔
      (x.matches holdsFormat (feederNumber f) && retainedHoldsValid x.value) = false)) ∧
  ∀ x, x = im.fireRequests →
    (t.fire.requests =
      if x.matches requestsFormat 1 && requestsValid x.value then x.value
      else
        { station := none, panel := none
          remote := some { level := .l3, expiry := none, stamp := now, damaged := true } }) ∧
    (recordId .fireRequests 1 ∈ t.store.damaged ↔
      (x.matches requestsFormat 1 && requestsValid x.value) = false)

/-- R120, R122: every feeder whose effective level changed has its LEVEL_CHANGED record: both levels, the site level, the
exposure, both group letters, the cause and the port. A request's record has the port as its source, an expiry's the fire
controller (log entry 14). -/
def State.levelsRecorded (s t : State) (c : LevelCause) (p : Port) : Prop :=
  ∀ f, (t.effective f).level ≠ (s.effective f).level →
    ∃ r ∈ t.log.records, r.feeder = some f ∧ r.stamp = s.stamp ∧
      r.source = (if c = .expiry then .block .fireController else .port p) ∧
      r.details =
        .levelChanged (s.effective f).level (t.effective f).level t.fire.site (feederGet s.fire.exposure f)
          (s.effective f).letter (t.effective f).letter (some c) (some p)

/-! ### A trip confirmed (R56, R63, R71, R79) -/

/-- From s to t the trip in a feeder's slot has been confirmed: the slot empties and the breaker-fail output is released, the
record stands in the log, the TRIP flag is set, every master that asked is answered, and a sequencer in TRIPPING or FAILED
has gone on. What lastTrip keeps is log entry 29's. -/
def State.tripEnds (s : State) (f : Feeder) (op : TripOp) (t : State) : Prop :=
  t.breaker f =
      { s.breaker f with
        slot := .empty, failed := none, lastTrip := some { outcome := .tripConfirmed, time := s.time } } ∧
    t.flagSet .trip ∧
    (s.StoreLaw → s.changesOnly [.breakers, .sequencers, .holds, .log, .store, .ports, .restart] t) ∧
    (∃ r ∈ t.log.records, r.feeder = some f ∧ r.stamp = s.stamp ∧ r.source = requesterSource op.requesters ∧
      r.details =
        .trip false op.purposes op.cause op.requesters op.cut op.closedFirst (s.ms - op.started).toNat) ∧
    (∀ p code, .master p ∈ op.requesters → (s.port p).slot = .inFlight code → (s.port p).orphan = false →
      (t.port p).slot =
        .ready { status := .tripConfirmed, code := code, counter := (s.port p).counter, data := [] }) ∧
    ((s.sequencer f).state = .tripping →
      ((s.sequencer f).openTaken = true → (t.sequencer f).state = .open) ∧
      ((s.sequencer f).openTaken = false →
        ((t.sequencer f).state = .dead ↔
          (s.sequencer f).mark = false ∧ (s.effective f).patrol = false ∧ (s.holdTable f).list = [] ∧
            (s.sequencer f).shots < (s.effective f).shotLimit ∧
            (s.effective f).mayReclose ((s.sequencer f).cause.or op.cause) = true) ∧
        ((t.sequencer f).state = .dead ∨ (t.sequencer f).state = .lockout))) ∧
    ((s.sequencer f).state = .failed →
      (t.sequencer f).state = .lockout ∧ (t.sequencer f).reason = some .breakerFail ∧ t.flagSet .lockout)

/-! ### Blocks reached and their faults (R154) -/

/-- A block is reachable from some first blocks: it is one of them, or the next-true or next-false of a reachable block
whose action is neither RETURN nor END; 0 names no block (R154). -/
inductive HuntReaches (m : List HuntBlock) (first : List Nat) : Nat → Prop where
  | start (i : Nat) (named : i ∈ first) (block : i ≠ 0) : HuntReaches m first i
  | next (i j : Nat) (b : HuntBlock) (reached : HuntReaches m first i) (here : m.getD (i - 1) endBlock = b)
      (goesOn : b.action ≠ .ret ∧ b.action ≠ .finish) (named : j = b.nextTrue ∨ j = b.nextFalse) (block : j ≠ 0) :
      HuntReaches m first j

/-- A block holds one of the faults of R154. That FPI in the test set of a RETURN or an END is none is log entry 48's. -/
def HuntBlock.breaksStructure (returnAllowed : Bool) (b : HuntBlock) : Prop :=
  (b.action ∈ [.openUnit, .closeUnit, .testCloseUnit, .mark] ∧ b.unit = 0) ∨
    (b.action ∈ [.testCloseUnit, .testCloseBreaker, .wait] ∧ b.window = 0) ∨
    (b.action ∈ [.openBreaker, .closeBreaker, .testCloseBreaker, .wait, .mark] ∧ b.tests.fpi = true) ∨
    (b.action = .ret ∧ returnAllowed = false)

/-- A block's index fails the structure check of a walk from `main`, where RETURN is a fault, and from `side` (R154). -/
def State.failsStructure (s : State) (main side : List Nat) (i : Nat) : Prop :=
  1 ≤ i ∧ i ≤ 255 ∧
    ((HuntReaches s.hunt.memory main i ∧ (s.huntBlock i).breaksStructure false) ∨
      (HuntReaches s.hunt.memory side i ∧ (s.huntBlock i).breaksStructure true))

/-- A block's index fails the feeder check (R154). -/
def State.failsRange (s : State) (f : Feeder) (first : List Nat) (i : Nat) : Prop :=
  1 ≤ i ∧ i ≤ 255 ∧ HuntReaches s.hunt.memory first i ∧
    (s.huntBlock i).action ∈ [.openUnit, .closeUnit, .testCloseUnit, .mark] ∧
    (feederGet s.bus.lists f).length < (s.huntBlock i).unit

/-! ### What a hunt goes on to (R156, R159, R162, R169) -/

/-- The engine as a block leaves it that observes its first window with outcome DONE (R156, R159). -/
def Hunt.observing (h : Hunt) : Hunt :=
  { h with
    state := .running, phase := .observing, awaiting := .nothing, pauseTimer := none
    run := { outcome := .done, windows := 0, sefSamples := 0, windowTrip := false, heldTrip := false,
             securingTrip := false } }

/-- The engine as a block's beginning leaves it, its action in flight (R156). -/
def Hunt.acting (h : Hunt) (a : Awaiting) : Hunt :=
  { h with
    state := .running, phase := .acting, awaiting := a, pauseTimer := none
    run := { outcome := .done, windows := 0, sefSamples := 0, windowTrip := false, heldTrip := false,
             securingTrip := false } }

/-- A window just opened, with its three counts at 0 (R45). -/
def freshWindow (length : Nat) : Window := { length := length, samples := 0, sefSamples := 0, pickupSamples := 0 }

/-- The engine PAUSED for a reason before a block: the pause timer of 30 minutes runs and nothing of the block has been done
(R156, R162). -/
def Hunt.pausedBefore (h : Hunt) (r : PauseReason) (b : Nat) (now : Ms) : Hunt :=
  { h with
    state := .paused, pauseReason := r, pauseTimer := some { start := now, length := 1800000 }, current := b
    phase := .acting, awaiting := .nothing
    run := { outcome := .done, windows := 0, sefSamples := 0, windowTrip := false, heldTrip := false,
             securingTrip := false } }

/-- The engine with one more block in its trace (R162). -/
def Hunt.traced (h : Hunt) (r : TraceRecord) : Hunt :=
  { h with trace := h.trace ++ [r], steps := h.steps + 1, lastBlock := r.block }

/-- No detour and no insertion stand to be taken at the current block's completion, and the block that a test result chooses
is none, or one before which step mode has the engine pause (R162). -/
def State.nextPauses (s : State) (test : Bool) : Prop :=
  s.hunt.pendingDetour = false ∧ s.hunt.insertion = none ∧ (s.hunt.stepMode = true ∨ s.currentBlock.next test = 0)

/-- From s to t the current block of a hunt has completed with an outcome, a test result, a count of windows and the SEF
samples of the last (R162): its trace record and, with notify set, the HUNT_STEP record and flag; then the chosen pointer 0
has ended the hunt, or step mode has paused it before the chosen block. `l` are the further parts the event may change, and
a HUNT_STEP record's source is log entry 14's. -/
def State.blockDone (s : State) (f : Feeder) (source : RecordSource) (o : BlockOutcome) (test : Bool)
    (windows sef : Nat) (l : List Part) (t : State) : Prop :=
  ∃ r : TraceRecord,
    r = { block := s.hunt.current, action := s.currentBlock.action, outcome := o, test := test, windows := windows
          sefSamples := sef, securingTrip := s.hunt.run.securingTrip, insertionDropped := false, time := s.time } ∧
    (s.currentBlock.next test ≠ 0 →
      t.hunt = (s.hunt.traced r).pausedBefore .step (s.currentBlock.next test) s.ms ∧
      s.changesOnly (l ++ [.hunt, .log, .ports]) t ∧
      (s.currentBlock.notify = true → s.currentBlock.action ≠ .ret → s.currentBlock.action ≠ .finish →
        t.flagSet .hunt ∧ t.lastRecord (some f) source s.stamp (.huntStep r))) ∧
    (s.currentBlock.next test = 0 → t.hunt.trace = s.hunt.trace ++ [r] ∧ t.hunt.steps = s.hunt.steps + 1 ∧
      t.hunt.state = .done ∧ t.hunt.result.map HuntResult.reason = some .finished ∧
      t.hunt.result.map HuntResult.lastBlock = some s.hunt.current ∧ t.flagSet .hunt ∧
      s.changesOnly (l ++ [.protection, .sequencers, .holds, .bus, .hunt, .log, .ports]) t)

/-- The hunt has ended with a reason and a detail: the engine is DONE with the result, its lock set empty, and the HUNT
flag is set (R169, R170). -/
def State.huntEnded (t : State) (r : EndReason) (d : EndDetail) : Prop :=
  t.hunt.state = .done ∧ t.hunt.lockSet = [] ∧ t.hunt.result.map HuntResult.reason = some r ∧
    t.hunt.result.map HuntResult.detail = some d ∧ t.flagSet .hunt

/-- The level permits a hunt's closes and no entry of the feeder's hold list bars one (R90, R156). -/
def State.huntMayClose (s : State) (f : Feeder) : Prop :=
  (s.effective f).huntCloses = true ∧ ∀ h ∈ (s.holdTable f).list, h.kind.severity < ClosePurpose.hunt.ceiling

/-! ### What the responses hold, field by field (R197, R198) -/

/-- Fields of a response, each a width in bytes and a number. -/
abbrev Fields := List (Nat × Nat)

/-- A number in a width of bytes, the most significant first. -/
def widthBytes : Nat → Nat → List Byte
  | 0, _ => []
  | w + 1, n => BitVec.ofNat 8 (n / 256 ^ w) :: widthBytes w n

/-- The bytes of some fields, in order. -/
def fieldBytes (l : Fields) : List Byte := l.flatMap (fun x => widthBytes x.1 x.2)

/-- Fields of a width each that stand at 0. -/
def zeroFields (l : List Nat) : Fields := l.map (fun w => (w, 0))

/-- A yes or no. -/
def yesNo (b : Bool) : Nat := if b then 1 else 0

/-- A port, as the source code of R198 has it, and 0 for none. -/
def portField : Option Port → Nat
  | none => 0
  | some .station => 1
  | some .remote => 2
  | some .panel => 3

/-- A feeder's number. -/
def feederField : Feeder → Nat
  | .f1 => 1
  | .f2 => 2
  | .f3 => 3
  | .f4 => 4

/-- A time of day (R198). -/
def timeFields (t : TimeOfDay) : Fields := [(2, t.day.toNat), (4, t.ms)]

/-- A stamp: the time of day, and whether the time was set (log entry 16). -/
def stampFields (x : Stamp) : Fields := timeFields x.time ++ [(1, yesNo x.timeSet)]

/-- A trip cause in the order in which the sequencer's state lists them (R67), and 0 for none. -/
def causeField : Option Cause → Nat
  | none => 0
  | some .oc => 1
  | some .hs => 2
  | some .ef => 3
  | some .sef => 4

/-- The window of R47: whether one is open, its length, its samples, its SEF samples and its pickup samples. -/
def windowFields : Option Window → Fields
  | none => zeroFields [1, 2, 2, 2, 2]
  | some w => [(1, 1), (2, w.length), (2, w.samples), (2, w.sefSamples), (2, w.pickupSamples)]

/-- READ-PROTECTION (R31, R47; log entry 30 before the first sample). -/
def State.protectionFields (s : State) (f : Feeder) : Fields :=
  [(1, match (s.receiver f).state with | .none => 1 | .valid => 2 | .lost => 3)] ++
    (match (s.unit f).last with
      | none => zeroFields [2, 2, 2, 2]
      | some x => [(2, x.ia), (2, x.ib), (2, x.ic), (2, x.i0)]) ++
    [(2, (s.unit f).oc.ratio), (1, yesNo (s.unit f).oc.pickup), (4, (s.unit f).oc.acc),
      (1, yesNo (s.unit f).oc.operated), (1, (s.effective f).ocTms),
      (2, (s.unit f).ef.ratio), (1, yesNo (s.unit f).ef.pickup), (4, (s.unit f).ef.acc),
      (1, yesNo (s.unit f).ef.operated), (1, (s.effective f).efTms),
      (1, (s.unit f).hs.count), (1, yesNo (s.unit f).hs.operated), (1, (s.effective f).hsFrames),
      (1, yesNo (s.unit f).base.seeded), (4, (s.unit f).base.acc),
      (2, (s.unit f).base.acc / 2 ^ (s.effective f).group.shift), (1, (s.effective f).group.shift),
      (2, (s.effective f).group.limit), (1, yesNo (s.unit f).base.high), (1, yesNo (s.unit f).base.frozen),
      (2, (s.unit f).sef.residual), (2, (s.effective f).sefPickup), (1, yesNo (s.unit f).sef.pickup),
      (2, (s.unit f).sef.count), (2, (s.effective f).sefDelay), (1, yesNo (s.unit f).sef.operated),
      (1, yesNo (s.unit f).sef.alarm), (1, yesNo (s.effective f).sefTrip)] ++
    windowFields (s.unit f).window

/-- A requester, by the source code of its port or block (R198; log entry 15). -/
def requesterField : Requester → Nat
  | .master p => portField (some p)
  | .protection => 0x12
  | .sequencer => 0x14
  | .hunt => 0x19

/-- A close purpose in the order of R52's table. -/
def purposeField : ClosePurpose → Nat
  | .auto => 1
  | .remote => 2
  | .localClose => 3
  | .hunt => 4

/-- The slot of READ-BREAKER (R52, R64): kind, purposes, cause, phase, requesters, cut close, time since pulse start. -/
def slotFields (now : Ms) : Slot → Fields
  | .empty => [(1, 0)]
  | .trip op =>
    [(1, 1), (1, yesNo op.purposes.protection + 2 * yesNo op.purposes.manual + 4 * yesNo op.purposes.hunt),
      (1, causeField op.cause), (1, match op.phase with | .pulse => 1 | .confirmWait => 2 | .failPulse => 3),
      (1, op.requesters.length)] ++ op.requesters.map (fun r => (1, requesterField r)) ++
      (match op.cut with
        | none => zeroFields [1, 1]
        | some c => [(1, purposeField c.purpose), (1, requesterField c.requester)]) ++
      [(2, (now - op.started).toNat)]
  | .close op =>
    [(1, 2), (1, purposeField op.purpose), (1, 0), (1, match op.phase with | .pulse => 1 | .confirmWait => 2),
      (1, 1), (1, requesterField op.requester), (1, 0), (1, 0), (2, (now - op.started).toNat)]

/-- A last outcome, numbered in the order of R63's table, with its time of day. -/
def outcomeFields : Option TimedOutcome → Fields
  | none => zeroFields [1, 2, 4]
  | some o =>
    (1, match o.outcome with
        | .tripConfirmed => 1 | .breakerFail => 2 | .closeConfirmed => 4 | .closeFail => 5 | .cut => 6) ::
      timeFields o.time

/-- READ-BREAKER (R64). -/
def State.breakerFields (s : State) (f : Feeder) : Fields :=
  [(1, yesNo (s.breaker f).contacts.openMade), (1, yesNo (s.breaker f).contacts.closedMade),
    (1, match decode (s.breaker f).contacts with | .open => 1 | .closed => 2 | .travel => 3 | .invalid => 4),
    (1, if (s.breaker f).stableClosed then 2 else 1), (1, yesNo (s.breaker f).alarm),
    (1, yesNo (s.breaker f).faultTimer.isSome)] ++ slotFields s.ms (s.breaker f).slot ++
    [(2, 20 * 2 ^ (s.effective f).group.pulseCode), (2, (s.effective f).group.tripConfirm),
      (2, (s.effective f).group.closeConfirm),
      (1, match (s.breaker f).slot with | .trip op => yesNo (op.phase != .confirmWait) | _ => 0),
      (1, match (s.breaker f).slot with | .close op => yesNo (op.phase == .pulse) | _ => 0),
      (1, yesNo (s.breaker f).failed.isSome)] ++
    outcomeFields (s.breaker f).lastTrip ++ outcomeFields (s.breaker f).lastClose

/-- The shots already made when the next DEAD would be entered (R86; log entry 56). -/
def Sequencer.shotsBeforeNext (q : Sequencer) : Nat :=
  match q.state with
  | .tripping => if q.openTaken then 0 else q.shots
  | .dead => q.shots + 1
  | .reclosing => if q.phase = some .granted then q.shots else if q.pendingOpen = [] then q.shots + 1 else 0
  | .reclaim => q.shots
  | _ => 0

/-- READ-SEQUENCER (R86). -/
def State.sequencerFields (s : State) (f : Feeder) : Fields :=
  [(1, match (s.sequencer f).state with
      | .inService => 1 | .tripping => 2 | .dead => 3 | .reclosing => 4 | .reclaim => 5 | .lockout => 6 | .open => 7
      | .hunt => 8 | .failed => 9),
    (1, match (s.sequencer f).phase with | none => 0 | some .asked => 1 | some .granted => 2),
    (1, (s.sequencer f).shots), (1, (s.effective f).shotLimit), (1, (s.effective f).group.shots),
    (1, (s.effective f).levelShots), (1, yesNo (s.sequencer f).mark), (1, yesNo (s.sequencer f).openTaken),
    (1, portField (s.sequencer f).pendingOpen.head?), (1, portField (s.sequencer f).manualClose),
    (1, causeField (s.sequencer f).cause),
    (1, match (s.sequencer f).reason with
      | none => 0 | some .switchOnToFault => 1 | some .patrol => 2 | some .hold => 3 | some .shots => 4
      | some .cause => 5 | some .shotsAtExpiry => 6 | some .causeAtExpiry => 7 | some .holdInDead => 8
      | some .closeRefused => 9 | some .closeFail => 10 | some .breakerFail => 11)] ++
    (match (s.sequencer f).timer with
      | none => zeroFields [4, 4]
      | some t => [(4, t.length - (s.ms - t.start).toNat), (4, t.length)]) ++
    [(4, match (s.sequencer f).shotsBeforeNext with
        | 1 => (s.effective f).group.dead2
        | 2 => (s.effective f).group.dead3
        | 3 => (s.effective f).group.dead4
        | _ => (s.effective f).group.dead1),
      (4, (s.effective f).group.reclaim)]

/-- The owner of a hold (R197). -/
def ownerField : Owner → Nat
  | .master p => portField (some p)
  | .fire => 4
  | .patrol => 5
  | .hunt => 6

/-- The kind of a hold, which is its severity (R88, R197). -/
def kindField : HoldKind → Nat
  | .reclose => 1
  | .remote => 2
  | .all => 3

/-- An entry of READ-HOLDS (R88, R107): owner, kind, tag, reason, expiry, stamp, seconds left, rounded up. -/
def holdFields (now : Ms) (h : Hold) : Fields :=
  [(1, ownerField h.owner), (1, kindField h.kind), (2, h.tag), (1, h.reason),
    (2, match h.expiry with | none => 0 | some e => e.minutes)] ++ stampFields h.stamp ++
    [(4, match h.expiry with | none => 0 | some e => (e.minutes * 60000 - (now - e.start).toNat + 999) / 1000)]

/-- The answer for a close purpose with a ceiling (R90, R107; log entry 16): PERMITTED, or BARRED with the first entry whose
severity reaches the ceiling. -/
def permissionFields (l : List Hold) (ceiling : Nat) : Fields :=
  match l.find? (fun h => decide (ceiling ≤ kindField h.kind)) with
  | none => (1, 1) :: zeroFields [1, 1, 2]
  | some h => [(1, 2), (1, ownerField h.owner), (1, kindField h.kind), (2, h.tag)]

/-- A set of feeders (R197). -/
def feederSetField (c : PerFeeder Bool) : Nat := yesNo c.f1 + 2 * yesNo c.f2 + 4 * yesNo c.f3 + 8 * yesNo c.f4

/-- READ-HOLDS (R107), the purposes AUTO, REMOTE, LOCAL, HUNT with their ceilings (log entry 16). -/
def State.holdsFields (s : State) (f : Feeder) : Fields :=
  (1, (s.holdTable f).list.length) :: (s.holdTable f).list.flatMap (holdFields s.ms) ++
    [(1, (s.holdTable f).list.countP (fun h => h.owner.isMaster)), (1, (s.holdTable f).list.length),
      (1, (s.holdTable f).list.foldl (fun n h => max n (kindField h.kind)) 0)] ++
    permissionFields (s.holdTable f).list 1 ++ permissionFields (s.holdTable f).list 2 ++
    permissionFields (s.holdTable f).list 3 ++ permissionFields (s.holdTable f).list 2 ++
    [(1, feederSetField (s.holdTable f).corridor), (1, yesNo (s.holdTable f).pendingMark)]

/-- READ-FIRE-TABLE (R118): the 36 fields, whether each equals the fixed copy's, the mark of a replaced table. -/
def State.fireTableFields (s : State) : Fields :=
  s.fire.table.map (fun x => (1, x)) ++
    (s.fire.table.zip fixedTable).map (fun x => (1, if x.1 = x.2 then 1 else 0)) ++ [(1, yesNo s.fire.replaced)]

/-- A level's number. -/
def levelField : Level → Nat
  | .l0 => 0
  | .l1 => 1
  | .l2 => 2
  | .l3 => 3

/-- A request slot of READ-FIRE (R128): level, set-at stamp, restored mark, minutes left, rounded up. -/
def requestFields (now : Ms) : Option FireRequest → Fields
  | none => zeroFields [1, 2, 4, 1, 1, 2]
  | some r =>
    (1, levelField r.level) :: stampFields r.stamp ++
      [(1, yesNo r.damaged),
        (2, match r.expiry with
          | none => 0
          | some e => (e.minutes * 60000 - (now - e.start).toNat + 59999) / 60000)]

/-- A group letter (R197). -/
def letterField : Letter → Nat
  | .a => 1
  | .b => 2

/-- A feeder of READ-FIRE (R119, R128): exposure, level, active group, the settings that a level changes, each beside its
group value, and the fields of the group that none does. -/
def State.feederFireFields (s : State) (f : Feeder) : Fields :=
  [(1, match feederGet s.fire.exposure f with | .urban => 1 | .exposed => 2), (1, levelField (s.effective f).level),
    (1, letterField (s.effective f).letter),
    (1, (s.effective f).ocTms), (1, (s.effective f).group.ocTms), (1, (s.effective f).efTms),
    (1, (s.effective f).group.efTms), (1, (s.effective f).hsFrames), (1, (s.effective f).group.hsFrames),
    (2, (s.effective f).sefPickup), (2, (s.effective f).group.sefPickup), (2, (s.effective f).sefDelay),
    (2, (s.effective f).group.sefDelay), (1, (s.effective f).levelShots), (1, yesNo (s.effective f).sefTrip),
    (1, yesNo (s.effective f).sefReclose), (1, yesNo (s.effective f).huntCloses), (1, yesNo (s.effective f).patrol),
    (1, (s.effective f).shotLimit), (1, (s.effective f).group.shots), (2, (s.effective f).group.ocPickup),
    (1, (s.effective f).group.ocCurve), (4, (s.effective f).group.ocReset), (2, (s.effective f).group.hsRatio),
    (2, (s.effective f).group.efPickup), (1, (s.effective f).group.efCurve), (4, (s.effective f).group.efReset),
    (1, (s.effective f).group.shift), (2, (s.effective f).group.limit), (2, (s.effective f).group.huntPickup),
    (2, (s.effective f).group.huntQuorum), (4, (s.effective f).group.dead1), (4, (s.effective f).group.dead2),
    (4, (s.effective f).group.dead3), (4, (s.effective f).group.dead4), (4, (s.effective f).group.reclaim),
    (2, (s.effective f).group.tripConfirm), (2, (s.effective f).group.closeConfirm),
    (1, (s.effective f).group.pulseCode)]

/-- READ-FIRE (R128). -/
def State.fireFields (s : State) : Fields :=
  [Port.station, .remote, .panel].flatMap (fun p => requestFields s.ms (portGet s.fire.requests p)) ++
    [(1, levelField s.fire.site), (1, yesNo s.fire.pendingMark)] ++
    [Feeder.f1, .f2, .f3, .f4].flatMap s.feederFireFields

/-- A class in the order of R177's table. -/
def classField : RecordClass → Nat
  | .group => 1
  | .curve => 2
  | .fireTable => 3
  | .exposure => 4
  | .corridor => 5
  | .unitList => 6
  | .isolation => 7
  | .huntBlock => 8
  | .holds => 9
  | .fireRequests => 10

/-- READ-STORE (R183; log entry 16 for a damaged list of more than 255 records, log entry 15 for the owners). -/
def State.storeFields (s : State) : Fields :=
  (match s.store.fault with
    | none => [(1, 0), (1, 0)]
    | some .load => [(1, 1), (1, 1)]
    | some .write => [(1, 1), (1, 2)]) ++
    (1, min 255 s.store.damaged.length) ::
      (s.store.damaged.take 255).flatMap (fun r => [(1, classField r.cls), (1, r.index)]) ++
    (1, s.store.queue.length) ::
      s.store.queue.flatMap (fun e =>
        (match e.job with
          | .port p _ => [(1, 1), (1, portField (some p))]
          | .internal (.holds f) _ => [(1, 2), (1, feederField f)]
          | .internal .fireRequests _ => [(1, 2), (1, 5)]
          | .internal .isolation _ => [(1, 2), (1, 6)]) ++ [(1, yesNo e.begun)]) ++
    [Feeder.f1, .f2, .f3, .f4].map (fun f => (1, yesNo (s.holdTable f).pendingMark)) ++
    [(1, yesNo s.fire.pendingMark), (1, yesNo s.bus.pendingMark)]

/-- The source of a line bus entry (R199). -/
def entrySourceField : EntrySource → Nat
  | .hunt => 1
  | .master .station => 2
  | .master .remote => 3
  | .master .panel => 4

/-- The kind of a command to a unit (R197). -/
def commandField : UnitCommandKind → Nat
  | .open => 1
  | .close => 2
  | .query => 3
  | .clearIndication => 4

/-- READ-LINEBUS (R148): the bus state, the time in STUCK, the queue, the master entries, the retention-pending mark, the
unit lists. The priorities are R137's: 1 for the hunt engine, 5 for a master's QUERY, 3 for a
master's other commands. -/
def State.linebusFields (s : State) : Fields :=
  [(1, match s.bus.state with
      | .gap => 1 | .idle => 2 | .preamble => 3 | .sending => 4 | .replyWait => 5 | .listening => 6 | .acking => 7
      | .clampOut => 8 | .clampIn => 9 | .stuck => 10),
    (4, if s.bus.state = .stuck then (s.ms - s.bus.since).toNat else 0)] ++
    (1, s.bus.queue.length) ::
      s.bus.queue.flatMap (fun e =>
        [(1, entrySourceField e.source), (1, e.address), (1, commandField e.kind),
          (1, if e.source = .hunt then 1 else if e.kind = .query then 5 else 3), (1, e.attempts),
          (1, yesNo e.clampWait), (4, (s.ms - e.queuedAt).toNat), (1, yesNo (e.phase == .inFlight))]) ++
    [(1, s.bus.queue.countP (fun e => e.source != .hunt)), (1, yesNo s.bus.pendingMark)] ++
    [Feeder.f1, .f2, .f3, .f4].flatMap (fun f =>
      (1, (feederGet s.bus.lists f).length) :: (feederGet s.bus.lists f).map (fun a => (1, a)))

/-- A completion code in the order of R138's table. -/
def completionField : CompletionCode → Nat
  | .done => 1
  | .refusedByUnit => 2
  | .noReply => 3
  | .checkFail => 4
  | .echoFail => 5
  | .aborted => 6
  | .busStuck => 7

/-- A record of READ-UNITS (R143, R148; log entry 15 for the fields of two values). -/
def unitFields (r : UnitRecord) : Fields :=
  (match r.place with
    | none => zeroFields [1, 1, 1]
    | some x => [(1, 1), (1, feederField x.feeder), (1, x.index)]) ++
    [(1, match r.switch with | .open => 1 | .closed => 2 | .unknown => 3), (1, yesNo r.faultPassed),
      (1, yesNo r.localLock), (1, yesNo r.batteryLow), (1, yesNo r.silent), (1, yesNo r.isolated)] ++
    (match r.lastContact with
      | none => zeroFields [2, 4, 1]
      | some x => stampFields x) ++
    (match r.lastCommand with
      | none => zeroFields [1, 1, 1, 2, 4]
      | some c =>
        [(1, entrySourceField c.source), (1, commandField c.kind), (1, completionField c.code)] ++ timeFields c.time) ++
    [(1, if r.silent then 1 else if r.localLock then 2 else 3)]

/-- The code of a failed unit action (R138, R157; log entry 15). -/
def failField : FailCode → Nat
  | .completion c => completionField c
  | .isolated => 8
  | .busy => 9

/-- The detail of an end reason, in one byte (R170; log entries 15 and 16). -/
def endField : EndDetail → Nat
  | .none => 0
  | .unitCode c => failField c
  | .breakerAnswer .tripConfirmed => 1
  | .breakerAnswer .breakerFail => 2
  | .breakerAnswer .closeConfirmed => 4
  | .breakerAnswer .closeFail => 5
  | .breakerAnswer .cut => 6
  | .port p => portField (some p)
  | .interference (.unit i) => i
  | .interference .breaker => 0
  | .block b => b

/-- The result record of READ-HUNT (R170, R171; log entry 36 for the events noted in STOPPING). -/
def resultFields (r : HuntResult) : Fields :=
  [(1, feederField r.feeder),
    (1, match r.reason with
      | .finished => 1 | .stepLimit => 2 | .aborted => 3 | .tripped => 4 | .unitFailed => 5 | .breakerFailed => 6
      | .pauseTimeout => 7 | .measurement => 8 | .interfered => 9),
    (1, r.steps), (1, r.lastBlock), (1, r.faulty.length)] ++
    r.faulty.flatMap (fun x => [(1, x.address), (1, x.index)]) ++
    [(1, endField r.detail),
      (1, yesNo r.notes.trip + 2 * yesNo r.notes.unexpectedMove + 4 * yesNo r.notes.unitReport +
        8 * yesNo r.notes.measurementLoss + 16 * yesNo r.notes.breakerFail)] ++
    timeFields r.started ++ timeFields r.ended

/-- READ-HUNT (R152, R171; log entry 16 for the lock set, the open window and a result record that does not stand). -/
def State.huntFields (s : State) : Fields :=
  [(1, match s.hunt.state with | .idle => 1 | .running => 2 | .paused => 3 | .stopping => 4 | .done => 5),
    (1, match s.hunt.feeder with | none => 0 | some f => feederField f), (1, s.hunt.current),
    (1, if s.hunt.state = .running then
          (match s.hunt.phase with | .acting => 1 | .observing => 2 | .securing => 3) else 0),
    (1, if s.hunt.state = .paused then (match s.hunt.pauseReason with | .fire => 1 | .hold => 2 | .step => 3) else 0),
    (2, if s.hunt.state = .paused then
          (match s.hunt.pauseTimer with
            | none => 0
            | some t => (t.length - (s.ms - t.start).toNat + 999) / 1000)
        else 0),
    (1, s.hunt.detourFirst)] ++
    (match s.hunt.returnSlot with
      | none => zeroFields [1, 1]
      | some x => [(1, x.block), (1, match x.kind with | .detour => 1 | .insertion => 2)]) ++
    [(1, match s.hunt.insertion with | none => 0 | some b => b), (1, yesNo s.hunt.pendingDetour),
      (1, yesNo s.hunt.stepMode), (1, s.hunt.steps), (1, s.hunt.lockSet.length)] ++
    s.hunt.lockSet.map (fun b => (1, b)) ++
    (match s.hunt.feeder.bind (fun f => (s.unit f).window) with
      | none => zeroFields [1, 1, 2, 2, 2, 2]
      | some w => (1, s.hunt.run.windows + 1) :: windowFields (some w)) ++
    (match s.hunt.result with
      | none => [(1, 0)]
      | some r => (1, 1) :: resultFields r) ++
    [(1, yesNo s.hunt.outstanding)]

/-- A trace record of READ-HUNT-TRACE (R162, R163, R171; log entry 16 for the dropped insertion). -/
def traceFields (r : TraceRecord) : Fields :=
  [(1, r.block), (1, r.action.code)] ++
    (match r.outcome with
      | .done => [(1, 1), (1, 0)]
      | .unitFail c => [(1, 2), (1, failField c)]
      | .cut => [(1, 3), (1, 0)]
      | .detour => [(1, 4), (1, 0)]) ++
    [(1, yesNo r.test), (1, r.windows), (2, r.sefSamples), (1, yesNo r.securingTrip),
      (1, yesNo r.insertionDropped)] ++ timeFields r.time

/-- A group record (R123, R197): the fields in the order of its table, 56 bytes. -/
def groupFields (g : SettingGroup) : Fields :=
  [(2, g.ocPickup), (1, g.ocCurve), (1, g.ocTms), (4, g.ocReset), (2, g.hsRatio), (1, g.hsFrames), (2, g.efPickup),
    (1, g.efCurve), (1, g.efTms), (4, g.efReset), (2, g.sefPickup), (2, g.sefDelay), (1, g.shift), (2, g.limit),
    (2, g.huntPickup), (2, g.huntQuorum), (1, g.shots), (4, g.dead1), (4, g.dead2), (4, g.dead3), (4, g.dead4),
    (4, g.reclaim), (2, g.tripConfirm), (2, g.closeConfirm), (1, g.pulseCode)]

/-- A curve (R29, R197): the number of its points, then each point's ratio and rate. -/
def curveFields (c : Curve) : Fields := (1, c.length) :: c.flatMap (fun q => [(2, q.ratio), (4, q.rate)])

/-- A hunt block (R198). -/
def blockFields (b : HuntBlock) : Fields :=
  [(1, b.action.code), (1, b.unit), (2, b.window), (1, b.repeats + 16 * yesNo b.senseNone + 128 * yesNo b.notify),
    (1, yesNo b.tests.sefSeen + 2 * yesNo b.tests.ocSeen + 4 * yesNo b.tests.trip + 8 * yesNo b.tests.fpi +
      16 * yesNo b.tests.unitFail), (1, b.nextTrue), (1, b.nextFalse)]

end Sys2Proof.Machine
end

