-- ==== Sys2Proof/Certificates/Slice0/Obligations.lean ====
section
/-! DEFINITION. The statements for the provers. Each names the rules it rests on; OBLIGATIONS.json lists them with their
tiers and cites. -/

open Sys2Proof Sys2Proof.Machine

/-! ### The machine as a whole -/

/-- One step runs the command at the front of the queue on the state with the queue's rest; an empty queue changes
nothing (log entry 1). -/
def Obligations.StepRunsFrontCommand : Prop :=
  (∀ (c : Instr) (rest : List Instr) (s : State), s.pending = c :: rest → step s = exec c (s.withPending rest)) ∧
    ∀ s : State, s.pending = [] → step s = .next s

/-- Nothing but a power-on happens in a part without supply (log entry 5). -/
def Obligations.UnpoweredPartStays : Prop :=
  ∀ (i : Instr) (s : State), s.powered = false → (∀ pins, i ≠ .powerOn pins) → exec i s = .next s

/-- The laws of Safety.lean hold of State.reset. -/
def Obligations.LawsHoldAtReset : Prop :=
  State.reset.LogLaw ∧ State.reset.HoldLaw ∧ State.reset.HuntLaw ∧ State.reset.LevelLaw ∧ State.reset.FireLaw ∧
    State.reset.ProtectionLaw ∧ State.reset.SettingsLaw ∧ State.reset.QueueLaw ∧ State.reset.TraceLaw ∧
    State.reset.StoreLaw ∧ State.reset.ImageLaw

/-! ### Laws that every step keeps -/

/-- R172, R173: the log keeps 1 to 128 records numbered without a gap, and every read pointer names a record held or the
next one. -/
def Obligations.StepKeepsLogLaw : Prop := ∀ s t : State, s.LogLaw → step s = .next t → t.LogLaw

/-- R89: every hold list keeps at most 9 master entries, no owner and tag twice, and entries of their owners' form. -/
def Obligations.StepKeepsHoldLaw : Prop := ∀ s t : State, s.HoldLaw → step s = .next t → t.HoldLaw

/-- R84, R152, R36: HUNT entry, engine, sequencer and freeze mark stay together. -/
def Obligations.StepKeepsHuntLaw : Prop := ∀ s t : State, s.HoldLaw → s.HuntLaw → step s = .next t → t.HuntLaw

/-- R112, R119: the site level and every feeder's effective settings stay the ones computed from the requests, the
exposure classes, the table and the groups. -/
def Obligations.StepKeepsLevelLaw : Prop := ∀ s t : State, s.LevelLaw → step s = .next t → t.LevelLaw

/-- R121: a list holds a FIRE entry exactly when the shot limit of the feeder's effective level is 0. -/
def Obligations.StepKeepsFireLaw : Prop := ∀ s t : State, s.HoldLaw → s.FireLaw → step s = .next t → t.FireLaw

/-- R19, R23, R33, R37, R39, R44: the protection units keep their bounds. -/
def Obligations.StepKeepsProtectionLaw : Prop := ∀ s t : State, s.ProtectionLaw → step s = .next t → t.ProtectionLaw

/-- R16, R114, R123, R149: every setting in the working set stays within its range. -/
def Obligations.StepKeepsSettingsLaw : Prop := ∀ s t : State, s.SettingsLaw → step s = .next t → t.SettingsLaw

/-- R137: the transmit queue keeps its limits. -/
def Obligations.StepKeepsQueueLaw : Prop := ∀ s t : State, s.QueueLaw → step s = .next t → t.QueueLaw

/-- R156, R162: the trace keeps one record for each executed block, at most 64. -/
def Obligations.StepKeepsTraceLaw : Prop := ∀ s t : State, s.TraceLaw → step s = .next t → t.TraceLaw

/-- R178: the head of the store's queue has begun; R177, R178: the image keeps its records, and every queued write names
records of it and carries its own owner's contents. The exception at the head, a RESTART with nothing left to wait for in the
store, is the model's choice (log entry 10), and the records' numbers are log entry 38's. -/
def Obligations.StepKeepsStoreLaw : Prop :=
  ∀ s t : State, step s = .next t → (s.StoreLaw → t.StoreLaw) ∧ (s.ImageLaw → t.ImageLaw)

/-! ### Resets and supply -/

/-- R176 and the power-on values of every block, each spelled out in `State.startsAfresh` and `State.startFlags` (R10, R11,
R22, R43, R51, R67, R106, R127, R147, R152, R180, R184, R188, R190, R191): a power-on completes from every state. What the
store gives is the next statement's. The levels of the pins are the command's operand (log entry 3), a part that has supply
starts afresh too (log entry 7), and the fields that no rule gives a value are log entries 30's, 50's and 63's. -/
def Obligations.PowerOnStartsAfresh : Prop :=
  ∀ (pins : Pins) (s : State), ∃ t, exec (.powerOn pins) s = .next t ∧
    t.powered = true ∧ t.ms = 0 ∧ t.time = timeZero ∧ t.timeSet = false ∧ t.startsAfresh pins ∧
    t.log.records.head? =
      some { seq := 0, stamp := stampZero, feeder := none, source := .block .eventLog, details := .powerOn } ∧
    (∀ p, t.startFlags pins p ∧ (t.port p).slot = .idle ∧ (t.port p).busyNote = none ∧ (t.port p).counter = 0 ∧
      (t.port p).mask = 0 ∧ (t.port p).orphan = false ∧ (t.port p).pointer = 0 ∧ (t.port p).overrun = false ∧
      (t.port p).lost = 0 ∧ (t.port p).inReset = (s.port p).inReset) ∧
    t.image = s.image ∧ t.pending = s.pending

/-- R177, R180: at a power-on every record is loaded or replaced as `State.loadedFrom` spells out (R30, R103, R106, R127,
R147, R149, R181). A written record passes, and a damaged one does not. The bytes the check code covers are laid out as log
entry 39 says, the records of a class, the groups among them, are numbered as log entry 38 says, and that a hold record whose
entries break R89's law fails is log entry 71's. The records replaced are the damaged list, each once; while there is one the
store's fault state is LOAD, a STORE_FAULT record carries their number and the first 8 (R180; log entry 64 for their order,
14 for the source, 70 for the feeder), and the STORE flag is set. -/
def Obligations.DamagedRecordsAreReplaced : Prop :=
  (∀ (pins : Pins) (s t : State), exec (.powerOn pins) s = .next t →
    t.loadedFrom s.image stampZero ∧
      (t.store.damaged = [] → ∀ r ∈ t.log.records, r.source ≠ .block .settingStore) ∧
      (t.store.damaged ≠ [] → t.flagSet .store ∧
        t.log.records[1]? = some
          { seq := 1, stamp := stampZero, feeder := none, source := .block .settingStore
            details := .storeFaultLoad t.store.damaged.length (t.store.damaged.take 8) })) ∧
  ∀ (α : Type) (fmt : RecordFormat α) (i : Nat) (a : α) (x : Stored α),
    (stored fmt i a).matches fmt i = true ∧ (stored fmt i a).value = a ∧ (x.damage fmt).matches fmt i = false

/-- R194: an accepted RESTART keeps its port in flight and begins the waits; the pulse wait ends at once when no coil
pulse is in flight, and fixes the store entries to complete. A second one joins the first. -/
def Obligations.RestartBeginsItsWaits : Prop :=
  ∀ (p : Port) (fr : Frame) (s : State), s.controlTaken p 0x2D fr → p ≠ .panel → fr.payload = [] →
    exec (.restart p fr) s = .next
      { s.controlInFlight p 0x2D fr with
        restart := match s.restart with
          | some w => some w
          | none => some { port := p, fixed := if s.anyPulse then none else some s.store.queue.length } }

/-- R194, R176: when both waits have ended the part is reinitialised: every port is answered and its counter is 0, a RESTART
record names the port of the first RESTART, the clock runs on, every read pointer moves to the oldest record, and every block
takes its power-on values, each spelled out in `State.startsAfresh` and `State.startFlags` (R10, R22, R43, R51, R65, R67,
R106, R127, R147, R152, R180, R191). The store loads the image as at a power-on, spelled out in `State.loadedFrom` (R177,
R180; log entries 38, 39 and 71): while a record is damaged the STORE flag is set and a STORE_FAULT record of cause LOAD
carries their number and the first 8 (log entry 64 for their order, 14 for the source, 70 for the feeder). With no damaged
record and no contact pair INVALID the RESTART record is the event's only one. The levels of the pins are the command's
operand (log entry 3); the fields that no rule gives a value are log entries 30's, 50's and 63's. -/
def Obligations.ReinitialisationAnswersPorts : Prop :=
  ∀ (pins : Pins) (s : State) (w : RestartWait), s.powered = true → s.restart = some w → w.fixed = some 0 →
    s.anyPulse = false →
    ∃ t, exec (.restartReinitialisation pins) s = .next t ∧ t.startsAfresh pins ∧
      t.powered = true ∧ t.ms = s.ms ∧ t.time = s.time ∧ t.timeSet = s.timeSet ∧ t.image = s.image ∧
      t.pending = s.pending ∧
      (∃ r ∈ t.log.records, r.details = .restart ∧ r.source = .port w.port ∧ r.seq = s.log.next ∧ r.stamp = s.stamp) ∧
      t.loadedFrom s.image s.stamp ∧
      (t.store.damaged ≠ [] → t.flagSet .store ∧
        ∃ r ∈ t.log.records,
          r.details = .storeFaultLoad t.store.damaged.length (t.store.damaged.take 8) ∧ r.feeder = none ∧
            r.source = .block .settingStore ∧ r.seq = s.log.next + 1 ∧ r.stamp = s.stamp) ∧
      (∀ p, t.startFlags pins p ∧ (t.port p).counter = 0 ∧ (t.port p).mask = 0 ∧ (t.port p).orphan = false ∧
        (t.port p).busyNote = none ∧ (t.port p).inReset = (s.port p).inReset) ∧
      (t.store.damaged = [] → (∀ f, decode (feederGet pins.contacts f) ≠ .invalid) →
        t.lastRecord none (.port w.port) s.stamp .restart ∧
        ∀ p, (t.port p).pointer = t.log.oldest ∧ (t.port p).overrun = false ∧ (t.port p).lost = 0) ∧
      (∀ p code, (s.port p).slot = .inFlight code →
        (t.port p).slot = .ready
          { status := if code = 0x2D then .accepted else .restarted, code := code, counter := 0, data := [] }) ∧
      ∀ p, (s.port p).slot.isInFlight = false → (t.port p).slot = .idle

/-- R193, R175, R11, R190: the reset line of a port acts on that port alone, and a request in flight becomes an orphan; a
millisecond of the clock, with which the ACK of R134 begins 2 ms after the check of a REPORT taken (log entry 18), while no
close request of the hunt engine stands that the breaker interface has yet to take (log entry 63: HuntRequestsAndTimeout says
what a tick does with one); a change of the key switch. -/
def Obligations.InputsFollowTheirEvents : Prop :=
  ∀ (p : Port) (s : State), s.powered = true →
    exec (.portReset p) s = .next
      (s.setPort p
        { s.port p with
          slot := .idle, busyNote := none, orphan := (s.port p).orphan || (s.port p).slot.isInFlight
          flags := 0, mask := 0, inReset := true, pointer := s.log.next, overrun := false, lost := 0 }) ∧
    exec (.portResetRelease p) s = .next (s.setPort p { s.port p with inReset := false }) ∧
    (∀ c : State, (∀ f, (s.breaker f).huntAsk = false) →
      c = { s with
        ms := s.ms + 1
        time := if s.time.ms + 1 < 86400000 then { day := s.time.day, ms := s.time.ms + 1 }
          else { day := s.time.day + 1, ms := 0 } } →
      (s.bus.state = .listening → timerDue (s.ms + 1) s.bus.ackTimer = true →
        exec .millisecondTick s = .next
          (c.setBus
            { s.bus with
              state := .acking, since := s.ms + 1, mismatch := none, ackTimer := none
              sent := [0x30, crc8 [0x30]] })) ∧
      (s.bus.state ≠ .listening ∨ timerDue (s.ms + 1) s.bus.ackTimer = false →
        exec .millisecondTick s = .next c)) ∧
    ∀ k, exec (.keySwitchChange k) s = .next { s with key := k }

/-- R105, R179: a loss of supply damages the record then being written, which its operand names (log entry 6), and keeps what
had been written before it: of a STORE-REPAIR the working set as it stands at the loss (log entry 9). The records written
before pass their check with the values the write carries, the damaged one fails it, and every other record is as before
(R177, R178); a write that had written all its records, or none begun, damages none. The damaged record keeps its old
contents under a code that does not match (log entry 39), and the numbering of the records is log entry 38's. -/
def Obligations.PowerLossCutsTheWrite : Prop :=
  ∀ (n : Nat) (s : State), s.powered = true →
    ∃ t, exec (.powerLoss n) s = .next t ∧ t.powered = false ∧ s.changesOnly [.supply, .image] t ∧
      (s.store.queue = [] → t.image = s.image) ∧
      ∀ e rest, s.store.queue = e :: rest →
        (e.begun = false → t.image = s.image) ∧
        (e.begun = true → s.ImageLaw →
          (∀ r, e.job.records[n]? = some r →
            s.imageAfter e.job n (some r) t.image ∧
              ∃ x, t.image.recordAt r = some x ∧ x.passes r.index = false) ∧
          (e.job.records.length ≤ n → s.imageAfter e.job n none t.image))

/-! ### Measurement frames and time -/

/-- R1, R4, R7, R8: an accepted frame leaves its receiver VALID with its sequence and its values held and the watchdog
restarted; other feeders' receivers and protection units are untouched, and without a hunt on the feeder nothing else changes
but what a trip of the protection unit moves. The samples that the forward distance gives are taken by the protection unit in
order, each whole (R5, R34: `State.sampled`), after the clearing of a discontinuity (R6, R22, R43). In LOST the receiver
appends MEASUREMENT_RESTORED and sets the MEASUREMENT flag; that the record stands last is log entry 58's choice, and its
source log entry 14's. -/
def Obligations.AcceptedFrameUpdatesReceiver : Prop :=
  ∀ (bytes : List Byte) (m : Measured) (s : State), s.powered = true → measuredOf bytes = some m → m.fault = false →
    ∃ t, exec (.measurementFrame bytes) s = .next t ∧
      t.receiver m.feeder =
        { state := .valid, last := m.sequence, held := some m.sample
          watchdog := some { start := s.ms, length := 50 } } ∧
      (∃ u v : State,
        (((s.receiver m.feeder).samples m).1 = false → u = s) ∧
        (((s.receiver m.feeder).samples m).1 = true →
          u = s.setUnit m.feeder
            { s.unit m.feeder with
              oc := { (s.unit m.feeder).oc with pickup := false, acc := 0, operated := false }
              ef := { (s.unit m.feeder).ef with pickup := false, acc := 0, operated := false }
              hs := { count := 0, operated := false }
              sef := { (s.unit m.feeder).sef with count := 0, operated := false, alarm := false } }) ∧
        State.takesSamples m.feeder u ((s.receiver m.feeder).samples m).2 v ∧
        ((s.receiver m.feeder).state ≠ .lost → t = v.setReceiver m.feeder (t.receiver m.feeder)) ∧
        (v.setReceiver m.feeder (t.receiver m.feeder)).changesOnly [.log, .ports] t) ∧
      (∀ g, g ≠ m.feeder → t.receiver g = s.receiver g ∧ t.unit g = s.unit g) ∧
      t.ms = s.ms ∧ t.time = s.time ∧ t.key = s.key ∧ t.fire.requests = s.fire.requests ∧ t.image = s.image ∧
      ((s.receiver m.feeder).state = .lost → t.flagSet .measurement ∧
        t.lastRecord (some m.feeder) (.block .frameReceiver) s.stamp .measurementRestored) ∧
      (s.huntOn m.feeder = false → s.StoreLaw →
        s.changesOnly [.receivers, .protection, .breakers, .sequencers, .holds, .log, .store, .ports] t)

/-- R2: a transfer of another length, with a check code that does not match, with a feeder outside 1..4 or with
FRONTEND_FAULT has no effect on any block; every other transfer is an accepted frame, whose flags field tells but
OVERRANGE and FRONTEND_FAULT. -/
def Obligations.DiscardedFrameHasNoEffect : Prop :=
  ∀ (bytes : List Byte) (s : State),
    (bytes.length ≠ 13 ∨ crc16 (bytes.take 11) ≠ BitVec.ofNat 16 (wordAt bytes 11) ∨
        (byteAt bytes 0 < 1 ∨ 4 < byteAt bytes 0) ∨ (byteAt bytes 10).testBit 1 = true →
      exec (.measurementFrame bytes) s = .next s) ∧
    (s.powered = true → bytes.length = 13 → crc16 (bytes.take 11) = BitVec.ofNat 16 (wordAt bytes 11) →
        1 ≤ byteAt bytes 0 → byteAt bytes 0 ≤ 4 → (byteAt bytes 10).testBit 1 = false →
      ∃ f m, feederOf (byteAt bytes 0) = some f ∧ measuredOf bytes = some m ∧
        m = { feeder := f, sequence := bytes.getD 1 0, fault := false
              sample := Sample.overranged
                { ia := wordAt bytes 2, ib := wordAt bytes 4, ic := wordAt bytes 6, i0 := wordAt bytes 8 }
                ((byteAt bytes 10).testBit 0) } ∧
        exec (.measurementFrame bytes) s = .next (s.acceptFrame m))

/-- R4, R5, R6, R7: what the receiver hands the protection unit for an accepted frame, by its forward distance; a receiver
that is not VALID, one that holds no values yet among them, hands on the frame's own. -/
def Obligations.ForwardDistanceDecidesSamples : Prop :=
  ∀ (r : Receiver) (m : Measured),
    (r.state ≠ .valid → r.samples m = (false, [m.sample])) ∧
    (r.state = .valid →
      (m.sequence - r.last = 1 → r.samples m = (false, [m.sample])) ∧
      (m.sequence = r.last → r.samples m = (true, [m.sample])) ∧
      (4 ≤ (m.sequence - r.last).toNat → r.samples m = (true, [m.sample])) ∧
      ∀ h : Sample, r.held = some h →
        (m.sequence - r.last = 2 → r.samples m = (false, [h, m.sample])) ∧
        (m.sequence - r.last = 3 → r.samples m = (false, [h, h, m.sample])))

/-- R9, R22, R43, R167, R168: the watchdog's expiry takes the receiver to LOST and clears the protection unit, records the
loss, ends a hunt RUNNING or PAUSED on the feeder, and is noted by a STOPPING one, with one flag (log entry 36). A watchdog
that does not run or is not due expires not (log entry 2). The record's source is log entry 14's. -/
def Obligations.WatchdogExpiryLosesMeasurement : Prop :=
  ∀ (f : Feeder) (s : State), s.powered = true →
    (timerDue s.ms (s.receiver f).watchdog = false → exec (.frameWatchdogExpiry f) s = .next s) ∧
    (timerDue s.ms (s.receiver f).watchdog = true →
      ∃ t, exec (.frameWatchdogExpiry f) s = .next t ∧
        t.receiver f = { s.receiver f with state := .lost, watchdog := none } ∧
        s.feederOnly f t ∧
        s.changesOnly [.receivers, .protection, .sequencers, .holds, .bus, .hunt, .log, .ports] t ∧
        (t.unit f).oc = inverseStart ∧ (t.unit f).ef = inverseStart ∧ (t.unit f).hs = highSetStart ∧
        (t.unit f).sef = sefStart ∧ (t.unit f).base.acc = 0 ∧ (t.unit f).base.seeded = false ∧
        (t.unit f).base.high = false ∧ t.flagSet .measurement ∧
        (s.huntOn f = false →
          s.changesOnly [.receivers, .protection, .log, .ports] t ∧ (t.unit f).base.frozen = (s.unit f).base.frozen ∧
            t.lastRecord (some f) (.block .frameReceiver) s.stamp (.measurementLost (s.receiver f).last)) ∧
        (s.hunt.feeder = some f → s.hunt.state = .running ∨ s.hunt.state = .paused →
          t.hunt.state = .done ∧ t.hunt.result.map HuntResult.reason = some .measurement) ∧
        (s.hunt.feeder = some f → s.hunt.state = .stopping →
          t.hunt = { s.hunt with notes := { s.hunt.notes with measurementLoss := true } } ∧
          s.changesOnly [.receivers, .protection, .hunt, .log, .ports] t ∧
          t.lastRecord (some f) (.block .frameReceiver) s.stamp (.measurementLost (s.receiver f).last)))

/-- R12: an accepted SET-TIME replaces the time of day and sets TIME_SET, records what stood before, and is answered;
it changes no millisecond count. One whose millisecond of the day is out of range is refused ARGUMENT. The record's
source is log entry 14's. -/
def Obligations.SetTimeReplacesTimeOfDay : Prop :=
  ∀ (p : Port) (fr : Frame) (s : State), s.controlTaken p 0x01 fr → p ≠ .panel → fr.payload.length = 6 →
    (longAt fr.payload 2 < 86400000 →
      ∃ t, exec (.setTime p fr) s = .next t ∧
        t.time = { day := BitVec.ofNat 16 (wordAt fr.payload 0), ms := longAt fr.payload 2 } ∧ t.timeSet = true ∧
        t.lastRecord none (.port p) { time := t.time, timeSet := true } (.timeSet s.time s.timeSet) ∧
        t.answerAt p = some (.accepted, []) ∧ (t.port p).counter = (s.port p).counter + 1 ∧
        s.changesOnly [.clock, .log, .ports] t) ∧
    (86400000 ≤ longAt fr.payload 2 → exec (.setTime p fr) s = .next (s.controlAnswered p 0x01 fr .argument []))

/-! ### Overcurrent, earth-fault and sensitive earth-fault elements -/

/-- R17: the rate of a picked-up ratio is the last point's at or beyond it, else interpolated between the two points that
bracket it, one of which brackets every such ratio; at a point it is that point's rate, and the product of the
interpolation is at most 1,048,575 × 624. A ratio that is not picked up uses no rate. -/
def Obligations.RateInterpolatesCurve : Prop :=
  (∀ (k : Curve) (m : Nat), curveValid k = true → 16 ≤ m → m ≤ 640 →
    (∀ z, k.getLast? = some z → z.ratio ≤ m → curveRate k m = z.rate) ∧
    (∀ j a b, k[j]? = some a → k[j + 1]? = some b → a.ratio ≤ m → m < b.ratio →
      curveRate k m = a.rate + (b.rate - a.rate) * (m - a.ratio) / (b.ratio - a.ratio) ∧
        (b.rate - a.rate) * (m - a.ratio) ≤ 1048575 * 624) ∧
    (∀ a ∈ k, a.ratio = m → curveRate k m = a.rate) ∧
    ((∃ z, k.getLast? = some z ∧ z.ratio ≤ m) ∨
      ∃ j a b, k[j]? = some a ∧ k[j + 1]? = some b ∧ a.ratio ≤ m ∧ m < b.ratio)) ∧
    ∀ (x : Inverse) (m tms d : Nat) (k k' : Curve), m < 16 → x.sample m k tms d = x.sample m k' tms d

/-- R18: the increment of a picked-up element is the rate times 100 over the time multiplier in force, rounded down and at
least 1; over the ranges of R16 and R13 it lies in 1..20,971,520. -/
def Obligations.IncrementIsRateOverMultiplier : Prop :=
  (∀ (u : Protection) (e : Effective) (oc ef : Curve) (x : Sample),
    (u.evaluate e oc ef x).unit.oc =
      (u.oc.sample (currentRatio x.imax e.group.ocPickup) oc e.ocTms e.group.ocReset).1 ∧
    (u.evaluate e oc ef x).unit.ef =
      (u.ef.sample (currentRatio x.i0 e.group.efPickup) ef e.efTms e.group.efReset).1) ∧
  (∀ (x : Inverse) (m tms d : Nat) (c : Curve), 16 ≤ m →
    (x.sample m c tms d).1.acc = min 1048576 (x.acc + max 1 (curveRate c m * 100 / tms))) ∧
  (∀ rate tms : Nat, rate ≤ 1048576 → 5 ≤ tms → tms ≤ 150 →
    rate * 100 ≤ 104857600 ∧ 1 ≤ increment rate tms ∧ increment rate tms ≤ 20971520) ∧
  increment 1048576 5 = 20971520 ∧ increment 1 150 = 1

/-- R20: on a sample that is not picked up the accumulator falls by the D in force and not below 0; D = 0 empties it at
once, and so does D at full scale. -/
def Obligations.AccumulatorResetsByDecrement : Prop :=
  (∀ (u : Protection) (e : Effective) (oc ef : Curve) (x : Sample),
    (u.evaluate e oc ef x).unit.oc =
      (u.oc.sample (currentRatio x.imax e.group.ocPickup) oc e.ocTms e.group.ocReset).1 ∧
    (u.evaluate e oc ef x).unit.ef =
      (u.ef.sample (currentRatio x.i0 e.group.efPickup) ef e.efTms e.group.efReset).1) ∧
  ∀ (x : Inverse) (m tms d : Nat) (c : Curve), m < 16 →
    (d = 0 → (x.sample m c tms d).1.acc = 0) ∧
    (d ≠ 0 → d ≤ x.acc → (x.sample m c tms d).1.acc + d = x.acc) ∧
    (d ≠ 0 → x.acc < d → (x.sample m c tms d).1.acc = 0) ∧
    (d = 1048576 → x.acc ≤ 1048576 → (x.sample m c tms d).1.acc = 0)

/-- R19, R21: an element operates on the one sample of a pickup that brings its accumulator to full scale, and not again
before a sample that is not picked up clears its mark. R30: on the fallback curve at a time multiplier of 100 that
is the 128th sample, whatever the ratios. -/
def Obligations.InverseElementOperatesOnce : Prop :=
  (∀ (x y : Inverse) (op : Bool) (m tms d : Nat) (c : Curve), x.sample m c tms d = (y, op) →
    (op = true ↔ 16 ≤ m ∧ y.acc = 1048576 ∧ x.operated = false) ∧
    (16 ≤ m → y.pickup = true ∧ (y.operated = true ↔ y.acc = 1048576)) ∧
    (m < 16 → y.pickup = false ∧ (y.operated = true ↔ x.operated = true ∧ y.acc = 1048576))) ∧
  (∀ (x : Inverse) (tms d : Nat) (c : Curve) (ms : List Nat), (∀ m ∈ ms, 16 ≤ m) → x.acc = 1048576 →
    x.operated = true → Inverse.run c tms d x ms = List.replicate ms.length false) ∧
  ∀ (x : Inverse) (d : Nat) (ms : List Nat), (∀ m ∈ ms, 16 ≤ m ∧ m ≤ 640) → x.acc = 0 → x.operated = false →
    Inverse.run fallbackCurve 100 d x ms = (List.range ms.length).map (fun i => i + 1 == 128)

/-- R23: the high-set element counts consecutive samples at or above H, up to 50, and operates once at Nhs,eff. R15: a
ratio reaches 16 exactly when the current reaches the pickup, and 65,535 gives 640 for a pickup up to 1,638. -/
def Obligations.HighSetCountsFrames : Prop :=
  (∀ (x y : HighSet) (op : Bool) (m h n : Nat), x.sample m h n = (y, op) →
    (m < h → y = { count := 0, operated := false } ∧ op = false) ∧
    (h ≤ m → y.count = min 50 (x.count + 1) ∧ (op = true ↔ n ≤ y.count ∧ x.operated = false) ∧
      (y.operated = true ↔ x.operated = true ∨ n ≤ y.count))) ∧
  (∀ i p : Nat, 1 ≤ p → (16 ≤ currentRatio i p ↔ p ≤ i) ∧ currentRatio i p ≤ 640) ∧
  ∀ p : Nat, 1 ≤ p → p ≤ 1638 → currentRatio 65535 p = 640

/-- R39, R41, R42: the leaky counter gains 2 on a sample at or above PSeff and loses 1 on any other; the element
operates at 2 × DSeff with the mark and the freeze mark clear; the alarm latch clears at 0. A continuous pickup from
0 operates on exactly the sample number DSeff. R44: a push of settings cuts a count above the new 2 × DSeff down to it and
clears the mark when the action goes from ALARM to TRIP, and keeps the rest. R45, R46: an open window counts each sample,
with the residual against the hunt pickup and the pickup flags of OC and EF, and reports with the sample that completes
it; without one nothing is counted. -/
def Obligations.SefLeakyCounter : Prop :=
  (∀ (x y : Sef) (op : Bool) (e ps ds : Nat) (frozen : Bool), x.sample e ps ds frozen = (y, op) →
    y.residual = e ∧ (y.pickup = true ↔ ps ≤ e) ∧
    (ps ≤ e → y.count = min (2 * ds) (x.count + 2) ∧
      (op = true ↔ y.count = 2 * ds ∧ x.operated = false ∧ frozen = false) ∧
      (y.operated = true ↔ x.operated = true ∨ op = true)) ∧
    (e < ps → y.count = x.count - 1 ∧ y.operated = false ∧ op = false) ∧
    (y.alarm = true ↔ x.alarm = true ∧ y.count ≠ 0)) ∧
  (∀ (x : Sef) (ps ds : Nat) (es : List Nat), (∀ e ∈ es, ps ≤ e) → x.count = 0 → x.operated = false → 10 ≤ ds →
    Sef.run ps ds x es = (List.range es.length).map (fun i => i + 1 == ds)) ∧
  (∀ (x : Sef) (old new : Bool) (ds : Nat),
    (x.push old new ds).residual = x.residual ∧ (x.push old new ds).pickup = x.pickup ∧
    (x.push old new ds).alarm = x.alarm ∧
    (2 * ds < x.count → (x.push old new ds).count = 2 * ds) ∧
    (x.count ≤ 2 * ds → (x.push old new ds).count = x.count) ∧
    (old = false → new = true → (x.push old new ds).operated = false) ∧
    (old = true ∨ new = false → (x.push old new ds).operated = x.operated)) ∧
  ∀ (f : Feeder) (s : State),
    ((s.unit f).window = none → s.windowSample f = s) ∧
    ∀ w v : Window, (s.unit f).window = some w →
      v = { length := w.length, samples := w.samples + 1
            sefSamples := if (s.effective f).group.huntPickup ≤ (s.unit f).sef.residual then w.sefSamples + 1
              else w.sefSamples
            pickupSamples := if (s.unit f).oc.pickup = true ∨ (s.unit f).ef.pickup = true then w.pickupSamples + 1
              else w.pickupSamples } →
      (v.samples < v.length → s.windowSample f = s.setUnit f { s.unit f with window := some v }) ∧
      (v.length ≤ v.samples →
        s.windowSample f =
          (s.setUnit f { s.unit f with window := none }).huntWindowReport f
            { samples := v.samples, sefSamples := v.sefSamples, pickupSamples := v.pickupSamples
              quorum := (s.effective f).group.huntQuorum })

/-- R35, R36, R37: a seeding takes the residual under the limit; an update adds I0 and takes off B, so that B rises toward
a larger I0, falls toward a smaller one and rests at an equal one; a sum beyond the limit is clamped and latched. R38: a push
of another k or limit keeps the baseline's value, drops its fractional bits when k changes, clamps it to a smaller limit and
clears the latch below a larger one; it leaves an unseeded baseline alone. -/
def Obligations.BaselineFollowsResidual : Prop :=
  (∀ (b : Baseline) (old new limit : Nat),
    (b.seeded = false → b.push old new limit = b) ∧
    (b.seeded = true →
      (limit < b.value old → b.push old new limit = { b with acc := limit * 2 ^ new, high := true }) ∧
      (b.value old ≤ limit →
        (b.push old new limit).value new = b.value old ∧ (b.push old new limit).seeded = true ∧
        (b.push old new limit).frozen = b.frozen ∧
        (old = new → (b.push old new limit).acc = b.acc) ∧
        (old ≠ new → (b.push old new limit).acc = b.value old * 2 ^ new) ∧
        ((b.push old new limit).high = true ↔ b.high = true ∧ b.value old = limit)))) ∧
  ∀ (b : Baseline) (i0 k limit : Nat),
    ((b.seed i0 k limit).seeded = true ∧ (b.seed i0 k limit).value k = min i0 limit ∧
      ((b.seed i0 k limit).high = true ↔ b.high = true ∨ limit < i0)) ∧
    (limit < (b.acc + i0 - b.acc / 2 ^ k) / 2 ^ k →
      b.update i0 k limit = { b with acc := limit * 2 ^ k, high := true }) ∧
    ((b.acc + i0 - b.acc / 2 ^ k) / 2 ^ k ≤ limit →
      (b.update i0 k limit).acc + b.value k = b.acc + i0 ∧
      ((b.update i0 k limit).high = true ↔ b.high = true ∧ (b.update i0 k limit).value k = limit) ∧
      (b.value k < i0 → b.acc < (b.update i0 k limit).acc) ∧
      (i0 < b.value k → (b.update i0 k limit).acc < b.acc) ∧
      (b.value k = i0 → (b.update i0 k limit).acc = b.acc)) ∧
    (b.update i0 k limit).value k ≤ limit

/-- R25, R26, R53, R69: the protection unit's trip request on a feeder in service with its breaker closed starts the trip
pulse with the one cause, and takes the sequencer to TRIPPING with that cause and no shot. The cause is the first of
HS, OC, EF and SEF that operated. In RECLAIM the shots and the mark are kept; in RECLOSING with phase GRANTED the trip cuts
the AUTO close (R54), and what lastClose keeps is log entry 29's. A request that finds a trip in flight joins it (R55), a
requester that has asked already once (log entry 43); in FAIL_PULSE it is answered BREAKER_FAIL at once, which takes the
sequencer to FAILED (R70, R79): that this outcome is told before the report is the choice of log entries 12 and 52, and the
failed trip kept as the joined one log entry 28's. R70: with the breaker open already the answer ALREADY_OPEN
is report and outcome in one event in IN_SERVICE, RECLAIM and RECLOSING with phase GRANTED, the outcome in TRIPPING, and
nothing in any other state. R163, R162, R167: what a hunt on the feeder makes of the trip, by where it stands; a detour
begins its block, or pauses before it in step mode (log entry 60 for the OPEN-BREAKER that awaits its answer). That STOPPING
notes the trip with one flag is log entry 36's, and that a trace record's windows are the closed ones log entry 44's. -/
def Obligations.ProtectionTripStartsPulse : Prop :=
  (∀ oc hs ef sef : Bool,
    (hs = true → tripCause oc hs ef sef = some .hs) ∧
    (hs = false → oc = true → tripCause oc hs ef sef = some .oc) ∧
    (hs = false → oc = false → ef = true → tripCause oc hs ef sef = some .ef) ∧
    (hs = false → oc = false → ef = false → sef = true → tripCause oc hs ef sef = some .sef)) ∧
  (∀ (f : Feeder) (c : Cause) (s : State), (s.breaker f).slot = .empty → (s.breaker f).stableClosed = true →
    (s.sequencer f).state = .inService → s.huntOn f = false →
    s.protectionTrip f c =
      (s.setBreaker f
        { s.breaker f with
          slot := .trip
            { purposes := { protection := true, manual := false, hunt := false }, requesters := [.protection]
              cause := some c, phase := .pulse, pulseLength := 20 * 2 ^ (s.effective f).group.pulseCode
              confirmTime := (s.effective f).group.tripConfirm, started := s.ms, cut := none
              closedFirst := false } }).setSequencer f
        { s.sequencer f with
          state := .tripping, shots := 0, cause := some c, phase := none, openTaken := false, timer := none }) ∧
  (∀ (f : Feeder) (c : Cause) (s : State), s.huntOn f = false →
    ((s.breaker f).slot = .empty → (s.breaker f).stableClosed = true → (s.sequencer f).state = .reclaim →
      s.protectionTrip f c =
        (s.setBreaker f
          { s.breaker f with
            slot := .trip (s.newTrip f { purpose := .protection, requester := .protection, cause := some c } none)
          }).setSequencer f
          { s.sequencer f with
            state := .tripping, cause := some c, phase := none, openTaken := false, timer := none }) ∧
    (∀ op : CloseOp, (s.breaker f).slot = .close op → op.purpose = .auto → op.requester = .sequencer →
        (s.sequencer f).state = .reclosing → (s.sequencer f).phase = some .granted →
      s.protectionTrip f c =
        (s.setBreaker f
          { s.breaker f with
            slot := .trip
              (s.newTrip f { purpose := .protection, requester := .protection, cause := some c }
                (some { purpose := .auto, requester := .sequencer }))
            lastClose := some { outcome := .cut, time := s.time } }).setSequencer f
          { s.sequencer f with
            state := .tripping, cause := some c, phase := none, openTaken := false, timer := none }) ∧
    (∀ op j : TripOp, (s.breaker f).slot = .trip op →
        j = op.join { purpose := .protection, requester := .protection, cause := some c } →
      (op.phase ≠ .failPulse → (s.sequencer f).state = .inService ∨ (s.sequencer f).state = .reclaim →
        s.protectionTrip f c =
          (s.setBreaker f { s.breaker f with slot := .trip j }).setSequencer f
            { s.sequencer f with
              state := .tripping, cause := some c, phase := none, openTaken := false, timer := none
              shots := if (s.sequencer f).state = .inService then 0 else (s.sequencer f).shots }) ∧
      (op.phase = .failPulse → (s.sequencer f).state ≠ .hunt → (s.sequencer f).pendingOpen = [] →
        s.protectionTrip f c =
          (s.setBreaker f
            { s.breaker f with
              slot := .trip j
              failed := some
                { purposes := j.purposes, requesters := j.requesters, cause := j.cause, started := j.started }
            }).setSequencer f
            { s.sequencer f with
              state := .failed, phase := none, openTaken := false, manualClose := none, timer := none })) ∧
    ((s.breaker f).slot = .empty → (s.breaker f).stableClosed = false →
      ((s.sequencer f).state = .inService ∨ (s.sequencer f).state = .reclaim ∨
          ((s.sequencer f).state = .reclosing ∧ (s.sequencer f).phase = some .granted) →
        s.protectionTrip f c =
          (s.setSequencer f
            { s.sequencer f with
              state := .tripping, cause := some c, phase := none, openTaken := false, timer := none
              shots := if (s.sequencer f).state = .inService then 0 else (s.sequencer f).shots }).confirmTrip f) ∧
      ((s.sequencer f).state = .tripping →
        s.protectionTrip f c =
          (s.setSequencer f { s.sequencer f with cause := (s.sequencer f).cause.or (some c) }).confirmTrip f) ∧
      ((s.sequencer f).state ≠ .inService → (s.sequencer f).state ≠ .reclaim → (s.sequencer f).state ≠ .tripping →
          ((s.sequencer f).state = .reclosing → (s.sequencer f).phase ≠ some .granted) →
        s.protectionTrip f c = s))) ∧
  ∀ (f : Feeder) (s : State), s.hunt.feeder = some f →
    (∀ c, (s.sequencer f).state = .hunt → (s.breaker f).slot = .empty → (s.breaker f).stableClosed = true →
      s.protectionTrip f c =
        (s.setBreaker f
          { s.breaker f with
            slot := .trip (s.newTrip f { purpose := .protection, requester := .protection, cause := some c } none)
          }).huntTripReport f) ∧
    (s.hunt.state = .stopping →
      s.huntTripReport f = s.setHunt { s.hunt with notes := { s.hunt.notes with trip := true } }) ∧
    (s.hunt.state = .running →
      (s.hunt.phase = .securing →
        s.huntTripReport f = s.setHunt { s.hunt with run := { s.hunt.run with securingTrip := true } }) ∧
      (s.hunt.phase = .observing → s.currentBlock.tests.trip = true →
        s.huntTripReport f = s.setHunt { s.hunt with run := { s.hunt.run with windowTrip := true } }) ∧
      (s.hunt.phase = .acting → s.currentBlock.action = .openBreaker → s.hunt.awaiting = .trip →
        s.huntTripReport f = s) ∧
      (s.hunt.phase = .acting → s.currentBlock.action ≠ .openBreaker ∨ s.hunt.awaiting ≠ .trip →
          s.hunt.awaiting ≠ .tripReport →
        (1 ≤ s.currentBlock.window → s.currentBlock.tests.trip = true →
          s.huntTripReport f = s.setHunt { s.hunt with run := { s.hunt.run with heldTrip := true } }) ∧
        (s.currentBlock.window = 0 ∨ s.currentBlock.tests.trip = false →
          s.huntTripReport f = s.setHunt { s.hunt with pendingDetour := true })) ∧
      (s.hunt.phase = .acting → s.hunt.awaiting = .tripReport → s.hunt.pendingDetour = false →
          1 ≤ s.currentBlock.window → s.currentBlock.tests.trip = true →
        s.huntTripReport f =
          (s.setHunt
            { s.hunt with
              phase := .observing, awaiting := .nothing
              run := { s.hunt.run with outcome := .cut, windowTrip := true, heldTrip := false } }).setUnit f
            { s.unit f with window := some (freshWindow s.currentBlock.window) }) ∧
      (∀ r : TraceRecord,
          r = { block := s.hunt.current, action := s.currentBlock.action, outcome := .detour
                test := s.currentBlock.test
                  { sefSeen := false, ocSeen := false, trip := true, fpi := false, unitFail := false }
                windows := s.hunt.run.windows, sefSamples := s.hunt.run.sefSamples
                securingTrip := s.hunt.run.securingTrip, insertionDropped := s.hunt.insertion.isSome
                time := s.time } →
          (s.hunt.phase = .observing ∧ s.currentBlock.tests.trip = false) ∨
            (s.hunt.phase = .acting ∧ s.hunt.awaiting = .tripReport ∧
              (s.currentBlock.window = 0 ∨ s.currentBlock.tests.trip = false)) →
          (∀ x, s.hunt.run.outcome ≠ .unitFail x) →
        (s.hunt.detourFirst = 0 ∨ s.hunt.returnSlot ≠ none →
          (s.huntTripReport f).huntEnded .tripped .none ∧
            (s.huntTripReport f).hunt.trace = s.hunt.trace ++ [r]) ∧
        (s.hunt.detourFirst ≠ 0 → s.hunt.returnSlot = none → s.hunt.stepMode = true →
          (s.huntTripReport f).hunt =
            { (s.hunt.traced r).pausedBefore .step s.hunt.detourFirst s.ms with
              pendingDetour := false, insertion := none
              returnSlot := some { block := s.currentBlock.next r.test, kind := .detour } } ∧
          ((s.huntTripReport f).unit f).window = none ∧
          s.changesOnly [.protection, .hunt, .log, .ports] (s.huntTripReport f)) ∧
        (s.hunt.detourFirst ≠ 0 → s.hunt.returnSlot = none → s.hunt.stepMode = false →
            (s.huntBlock s.hunt.detourFirst).action = .wait → 1 ≤ (s.huntBlock s.hunt.detourFirst).window →
            s.hunt.steps < 63 →
          (s.huntTripReport f).hunt =
            { (s.hunt.traced r).observing with
              pendingDetour := false, insertion := none, current := s.hunt.detourFirst
              returnSlot := some { block := s.currentBlock.next r.test, kind := .detour } } ∧
          ((s.huntTripReport f).unit f).window = some (freshWindow (s.huntBlock s.hunt.detourFirst).window) ∧
          s.changesOnly [.protection, .hunt, .log, .ports] (s.huntTripReport f)))) ∧
    (s.hunt.state = .paused →
      (s.hunt.detourFirst = 0 ∨ s.hunt.returnSlot ≠ none → (s.huntTripReport f).huntEnded .tripped .none) ∧
      (s.hunt.detourFirst ≠ 0 → s.hunt.returnSlot = none →
        (s.hunt.pauseReason = .step →
          s.huntTripReport f = s.setHunt
            { s.hunt with
              insertion := none, pendingDetour := false, returnSlot := some { block := s.hunt.current, kind := .detour }
              current := s.hunt.detourFirst }) ∧
        (s.hunt.pauseReason ≠ .step → (s.huntBlock s.hunt.detourFirst).action = .wait →
            1 ≤ (s.huntBlock s.hunt.detourFirst).window → s.hunt.steps < 64 →
          s.huntTripReport f =
            (s.setHunt
              { s.hunt.observing with
                insertion := none, pendingDetour := false, returnSlot := some { block := s.hunt.current, kind := .detour }
                current := s.hunt.detourFirst }).setUnit f
              { s.unit f with window := some (freshWindow (s.huntBlock s.hunt.detourFirst).window) })))

/-! ### Breaker interface -/

/-- R52 to R55, R59: how the breaker interface takes a trip and a close request, by its slot, its stable position and the
hold list (log entry 43 for a requester that joins twice); what a new trip and a new close hold, their pulse length and
their confirm time fixed from the active group as it stands (R52); and the coil outputs, which are never energised
together. -/
def Obligations.RequestsToTheBreaker : Prop :=
  ∀ (f : Feeder) (s : State),
    (∀ (r : TripRequest) (cut : Option CutClose),
      s.newTrip f r cut =
        { purposes :=
            match r.purpose with
            | .protection => { protection := true, manual := false, hunt := false }
            | .manual => { protection := false, manual := true, hunt := false }
            | .hunt => { protection := false, manual := false, hunt := true }
          requesters := [r.requester], cause := r.cause, phase := .pulse
          pulseLength := 20 * 2 ^ (s.effective f).group.pulseCode
          confirmTime := (s.effective f).group.tripConfirm, started := s.ms, cut := cut, closedFirst := false }) ∧
    (∀ (p : ClosePurpose) (q : Requester),
      s.newClose f p q =
        { purpose := p, requester := q, phase := .pulse, pulseLength := 20 * 2 ^ (s.effective f).group.pulseCode
          confirmTime := (s.effective f).group.closeConfirm, started := s.ms }) ∧
    (∀ r : TripRequest,
      ((s.breaker f).slot = .empty → (s.breaker f).stableClosed = false → s.tripRequest f r = (s, .alreadyOpen)) ∧
      ((s.breaker f).slot = .empty → (s.breaker f).stableClosed = true →
        s.tripRequest f r =
          (s.setBreaker f { s.breaker f with slot := .trip (s.newTrip f r none) }, .started)) ∧
      (∀ op, (s.breaker f).slot = .close op → (s.tripRequest f r).2 = .cut op ∧
        ((s.tripRequest f r).1.breaker f).slot =
          .trip (s.newTrip f r (some { purpose := op.purpose, requester := op.requester })) ∧
        ((s.tripRequest f r).1.breaker f).closeCoil = false ∧ ((s.tripRequest f r).1.breaker f).tripCoil = true) ∧
      (∀ op, (s.breaker f).slot = .trip op →
        ((s.tripRequest f r).1.breaker f).slot = .trip (op.join r) ∧
        (op.join r).purposes = op.purposes.join r.purpose.single ∧ (op.join r).cause = op.cause.or r.cause ∧
        (op.join r).requesters =
          (if r.requester ∈ op.requesters then op.requesters else op.requesters ++ [r.requester]) ∧
        ((s.tripRequest f r).2 = if op.phase = .failPulse then .failed else .joined))) ∧
    (∀ (p : ClosePurpose) (q : Requester),
      ((s.breaker f).slot ≠ .empty → s.closeRequest f p q = (s, .refused .busy none)) ∧
      ((s.breaker f).slot = .empty → (s.breaker f).stableClosed = true →
        s.closeRequest f p q = (s, .refused .notOpen none)) ∧
      ((s.breaker f).slot = .empty → (s.breaker f).stableClosed = false →
        (∀ h, (s.closeRequest f p q).2 = .refused .barred (some h) ↔
          barring (s.holdTable f).list p = some h) ∧
        ((∀ h ∈ (s.holdTable f).list, h.kind.severity < p.ceiling) →
          s.closeRequest f p q =
            (s.setBreaker f { s.breaker f with slot := .close (s.newClose f p q) }, .granted)) ∧
        ((∃ h ∈ (s.holdTable f).list, p.ceiling ≤ h.kind.severity) → (s.closeRequest f p q).1 = s))) ∧
    ((s.breaker f).tripCoil = true → (s.breaker f).closeCoil = false)

/-- R49, R50: a change of the contacts gives the decoded position; the stable position follows OPEN and CLOSED only;
INVALID starts the position-fault timer, but not while the alarm stands, which is the model's choice (log entry 46). OPEN
and CLOSED clear a standing alarm with a record marked cleared and without a flag; its source is log entry 14's, and that of
the operation in flight it carries the kind alone log entry 51's. No other
feeder's breaker interface changes. TRAVEL and INVALID reach no other block; inputs that have not changed are no event
of the breaker. -/
def Obligations.ContactsGivePosition : Prop :=
  ∀ (f : Feeder) (c : Contacts) (s : State), s.powered = true →
    (c = (s.breaker f).contacts → exec (.positionContactChange f c) s = .next s.pollRestart) ∧
    (c ≠ (s.breaker f).contacts →
      ∃ t, exec (.positionContactChange f c) s = .next t ∧ (t.breaker f).contacts = c ∧
        (decode c = .open → (t.breaker f).stableClosed = false ∧ (t.breaker f).alarm = false) ∧
        (decode c = .closed → (t.breaker f).stableClosed = true ∧ (t.breaker f).alarm = false) ∧
        (decode c = .travel → s.changesOnly [.breakers, .restart] t ∧
          t.breaker f = { s.breaker f with contacts := c, faultTimer := none }) ∧
        (decode c = .invalid → s.changesOnly [.breakers, .restart] t ∧
          t.breaker f =
            { s.breaker f with
              contacts := c
              faultTimer := if (s.breaker f).alarm then none else some { start := s.ms, length := 20 } }) ∧
        (∀ closed : Bool, decode c = (if closed then .closed else .open) → (s.breaker f).alarm = true →
          (s.huntOn f = false →
            ∃ r ∈ t.log.records, r.feeder = some f ∧ r.source = .block .breakerInterface ∧ r.stamp = s.stamp ∧
              r.details = .positionFault true closed (s.breaker f).slot.kind) ∧
          ((s.breaker f).stableClosed = closed → (s.breaker f).slot = .empty → (s.breaker f).failed = none →
            s.changesOnly [.breakers, .log, .ports, .restart] t ∧
            t.breaker f = { s.breaker f with contacts := c, alarm := false, faultTimer := none } ∧
            (∀ p, (t.port p).flags = (s.port p).flags) ∧
            t.lastRecord (some f) (.block .breakerInterface) s.stamp (.positionFault true closed none))) ∧
        ∀ g, g ≠ f → t.breaker g = s.breaker g)

/-- R56, R60, R63: a change to OPEN confirms a trip and a change to CLOSED confirms a close: the slot empties, the record is
appended, the TRIP flag set, and every master that asked is answered. R70, R71, R74, R79, R80: what the sequencer makes of
it, a FAILED one among them. R158, R160, R163, R167: what a hunt on the feeder makes of it. The records' sources are log
entry 14's; that the record of a standing alarm's clearing comes before the operation's is log entry 33's; that the LOCKOUT
record of FAILED comes behind the HOLD_PLACED records of its patrol is log entry 66's; what lastTrip and lastClose keep is
log entry 29's, and a manual close that is not the one in flight log entry 34's. -/
def Obligations.ContactsConfirmOperations : Prop :=
  ∀ (f : Feeder) (c : Contacts) (s : State), s.powered = true → c ≠ (s.breaker f).contacts →
    (∀ op : TripOp, s.huntOn f = false → (s.breaker f).slot = .trip op → op.phase ≠ .failPulse → decode c = .open →
      ∃ t, exec (.positionContactChange f c) s = .next t ∧
        t.breaker f =
          { s.breaker f with
            contacts := c, stableClosed := false, alarm := false, faultTimer := none, slot := .empty, failed := none
            lastTrip := some { outcome := .tripConfirmed, time := s.time } } ∧
        t.flagSet .trip ∧
        (s.StoreLaw → s.changesOnly [.breakers, .sequencers, .holds, .log, .store, .ports, .restart] t) ∧
        ((s.sequencer f).state = .tripping →
          ((s.sequencer f).openTaken = true → (t.sequencer f).state = .open) ∧
          ((s.sequencer f).openTaken = false →
            ((t.sequencer f).state = .dead ↔
              (s.sequencer f).mark = false ∧ (s.effective f).patrol = false ∧ (s.holdTable f).list = [] ∧
                (s.sequencer f).shots < (s.effective f).shotLimit ∧
                (s.effective f).mayReclose ((s.sequencer f).cause.or op.cause) = true) ∧
            ((t.sequencer f).state = .dead ∨ (t.sequencer f).state = .lockout))) ∧
        ((s.sequencer f).state = .failed →
          (t.sequencer f).state = .lockout ∧ (t.sequencer f).reason = some .breakerFail ∧ t.flagSet .lockout ∧
            t.lastRecord (some f) (.block .recloseSequencer) s.stamp
              (.lockout .breakerFail (s.sequencer f).shots (s.sequencer f).cause (s.effective f).level
                (s.effective f).shotLimit none) ∧
            (op.purposes.protection = true → (s.effective f).patrol = true →
              hasOwner (t.holdTable f).list .patrol = true)) ∧
        (∃ r ∈ t.log.records, r.feeder = some f ∧ r.stamp = s.stamp ∧
          r.details =
            .trip false op.purposes op.cause op.requesters op.cut op.closedFirst (s.ms - op.started).toNat) ∧
        ∀ p code, .master p ∈ op.requesters → (s.port p).slot = .inFlight code → (s.port p).orphan = false →
          (t.port p).slot =
            .ready { status := .tripConfirmed, code := code, counter := (s.port p).counter, data := [] }) ∧
    (∀ op : CloseOp, s.huntOn f = false → (s.breaker f).slot = .close op → decode c = .closed →
      ∃ t, exec (.positionContactChange f c) s = .next t ∧
        t.breaker f =
          { s.breaker f with
            contacts := c, stableClosed := true, alarm := false, faultTimer := none, slot := .empty
            lastClose := some { outcome := .closeConfirmed, time := s.time } } ∧
        t.flagSet .trip ∧ s.feederOnly f t ∧
        s.changesOnly [.breakers, .sequencers, .log, .ports, .restart] t ∧
        t.lastRecord (some f) (requesterSource [op.requester]) s.stamp
          (.close op.purpose op.requester (s.ms - op.started).toNat) ∧
        (op.purpose = .auto → (s.sequencer f).state = .reclosing → (s.sequencer f).phase = some .granted →
          t.sequencer f =
            { s.sequencer f with
              state := .reclaim, mark := false, phase := none
              timer := some { start := s.ms, length := (s.effective f).group.reclaim } }) ∧
        (op.purpose ≠ .auto → (s.sequencer f).state = .open ∨ (s.sequencer f).state = .lockout →
          t.sequencer f =
            { s.sequencer f with
              state := .reclaim, shots := 0, mark := true, phase := none, manualClose := none
              timer := some { start := s.ms, length := (s.effective f).group.reclaim } }) ∧
        ∀ p code, op.requester = .master p → (s.port p).slot = .inFlight code → (s.port p).orphan = false →
          (t.port p).slot =
            .ready { status := .closeConfirmed, code := code, counter := (s.port p).counter, data := [] }) ∧
    (∀ op : TripOp, s.hunt.feeder = some f → (s.sequencer f).state = .hunt → (s.breaker f).slot = .trip op →
        op.phase ≠ .failPulse → op.requesters = [.protection] → decode c = .open →
      ∃ t, exec (.positionContactChange f c) s = .next t ∧ t.flagSet .trip ∧ (t.breaker f).slot = .empty ∧
        t.hunt = s.hunt ∧ t.sequencers = s.sequencers) ∧
    (s.hunt.feeder = some f → (s.sequencer f).state = .hunt →
        (decode c = .open ∧ s.hunt.awaiting = .trip ∧ ∃ op : TripOp, (s.breaker f).slot = .trip op ∧
            op.phase ≠ .failPulse ∧ op.requesters = [.hunt]) ∨
          (decode c = .closed ∧ s.hunt.awaiting = .close ∧ ∃ op : CloseOp, (s.breaker f).slot = .close op ∧
            op.requester = .hunt) →
      ∃ t, exec (.positionContactChange f c) s = .next t ∧ t.flagSet .trip ∧
        (s.hunt.state = .running → s.hunt.phase = .acting → s.hunt.pendingDetour = false →
            1 ≤ s.currentBlock.window →
          t.sequencers = s.sequencers ∧ (t.breaker f).slot = .empty ∧
          t.hunt =
            { s.hunt with
              phase := .observing, awaiting := .nothing
              run := { s.hunt.run with outcome := .done, windowTrip := s.hunt.run.heldTrip, heldTrip := false } } ∧
          (t.unit f).window =
            some { length := s.currentBlock.window, samples := 0, sefSamples := 0, pickupSamples := 0 }) ∧
        (s.hunt.state = .running → s.hunt.phase = .securing → s.hunt.awaiting = .trip → s.nextPauses true →
          (t.breaker f).slot = .empty ∧
          s.blockDone f (.block .huntEngine) s.hunt.run.outcome true s.hunt.run.windows s.hunt.run.sefSamples
            [.breakers, .restart] t) ∧
        (s.hunt.state = .stopping → (t.breaker f).slot = .empty ∧
          t.hunt.state = .done ∧ t.hunt.result.map HuntResult.reason = some .aborted ∧ t.flagSet .hunt ∧
          (hasOwner (s.holdTable f).list .hunt = true →
            (t.sequencer f).state = if decode c = .closed then .inService else .open)))

/-- R58, R62, R79, R81: a movement that no operation explains, and the late open. An unexpected one is recorded and flagged
and moves the sequencer as R81 gives; while the breaker-fail output is asserted a movement to OPEN is the late open, with
FAIL_PULSE still running or the slot empty, which releases the output and takes the sequencer to LOCKOUT. R163, R167,
R168: what a hunt on the feeder makes of an unexpected movement. An unexpected movement's source is the interface and a late
open's that of its trip (log entry 14); that a late open leaves lastTrip and lastClose as they are is log entry 29's, that
STOPPING notes the movement with one flag log entry 36's, and that the record of a standing alarm's clearing comes first log
entry 33's. -/
def Obligations.MovementsWithoutOperation : Prop :=
  ∀ (f : Feeder) (c : Contacts) (s : State), s.powered = true → c ≠ (s.breaker f).contacts →
    (s.huntOn f = false → (s.breaker f).slot = .empty → (s.breaker f).failed = none →
        decode c = .open → (s.breaker f).stableClosed = true →
      ∃ t, exec (.positionContactChange f c) s = .next t ∧ t.flagSet .trip ∧ s.feederOnly f t ∧
        s.changesOnly [.breakers, .sequencers, .log, .ports, .restart] t ∧
        t.breaker f = { s.breaker f with contacts := c, stableClosed := false, alarm := false, faultTimer := none } ∧
        t.lastRecord (some f) (.block .breakerInterface) s.stamp (.unexpectedMove true (s.breaker f).decoded .open) ∧
        t.sequencer f =
          (if (s.sequencer f).state = .inService ∨ (s.sequencer f).state = .reclaim then
            { s.sequencer f with
              state := .open, shots := 0, mark := false, phase := none, openTaken := false, timer := none }
          else s.sequencer f)) ∧
    (s.huntOn f = false → (s.breaker f).slot = .empty → decode c = .closed → (s.breaker f).stableClosed = false →
      ∃ t, exec (.positionContactChange f c) s = .next t ∧ t.flagSet .trip ∧ s.feederOnly f t ∧
        s.changesOnly [.breakers, .sequencers, .log, .ports, .restart] t ∧
        t.breaker f = { s.breaker f with contacts := c, stableClosed := true, alarm := false, faultTimer := none } ∧
        t.lastRecord (some f) (.block .breakerInterface) s.stamp
          (.unexpectedMove false (s.breaker f).decoded .closed) ∧
        t.sequencer f =
          (if (s.sequencer f).state = .open ∨ (s.sequencer f).state = .lockout ∨ (s.sequencer f).state = .dead then
            { s.sequencer f with
              state := .reclaim, shots := 0, mark := true, phase := none, manualClose := none
              timer := some { start := s.ms, length := (s.effective f).group.reclaim } }
          else s.sequencer f)) ∧
    (∀ x, decode c = .open → (s.breaker f).failed = some x →
        (s.breaker f).slot = .empty ∨ (∃ op : TripOp, (s.breaker f).slot = .trip op ∧ op.phase = .failPulse) →
      ∃ t, exec (.positionContactChange f c) s = .next t ∧ t.flagSet .trip ∧ s.feederOnly f t ∧
        s.changesOnly [.breakers, .sequencers, .log, .ports, .restart] t ∧
        t.breaker f =
          { s.breaker f with
            contacts := c, stableClosed := false, alarm := false, faultTimer := none, slot := .empty
            failed := none } ∧
        (∃ r ∈ t.log.records, r.feeder = some f ∧ r.stamp = s.stamp ∧
          r.details = .trip true x.purposes x.cause x.requesters none false (s.ms - x.started).toNat) ∧
        ((s.sequencer f).state = .failed ∨ (s.sequencer f).state = .inService ∨ (s.sequencer f).state = .reclaim →
          (t.sequencer f).state = .lockout ∧ (t.sequencer f).reason = some .breakerFail ∧ t.flagSet .lockout) ∧
        ((s.sequencer f).state ≠ .failed → (s.sequencer f).state ≠ .inService → (s.sequencer f).state ≠ .reclaim →
          t.sequencers = s.sequencers)) ∧
    (∀ opened : Bool, s.hunt.feeder = some f → (s.sequencer f).state = .hunt → (s.breaker f).slot = .empty →
        (s.breaker f).failed = none → (s.breaker f).stableClosed = opened →
        decode c = (if opened then .open else .closed) →
      ∃ t, exec (.positionContactChange f c) s = .next t ∧ t.flagSet .trip ∧
        (s.hunt.state = .stopping → t.hunt = { s.hunt with notes := { s.hunt.notes with unexpectedMove := true } }) ∧
        (opened = false → s.hunt.state = .running ∨ s.hunt.state = .paused →
          t.hunt.state = .done ∧ t.hunt.result.map HuntResult.reason = some .interfered ∧
            t.hunt.result.map HuntResult.detail = some (.interference .breaker)) ∧
        (opened = true → s.hunt.state = .running → s.hunt.phase = .observing →
          (s.currentBlock.tests.trip = true →
            t.hunt = { s.hunt with run := { s.hunt.run with windowTrip := true } }) ∧
          (s.currentBlock.tests.trip = false → s.hunt.detourFirst = 0 ∨ s.hunt.returnSlot ≠ none →
            t.hunt.state = .done ∧ t.hunt.result.map HuntResult.reason = some .tripped)) ∧
        (opened = true → s.hunt.state = .paused → s.hunt.pauseReason = .step → s.hunt.detourFirst ≠ 0 →
            s.hunt.returnSlot = none →
          t.hunt =
            { s.hunt with
              insertion := none, pendingDetour := false, returnSlot := some { block := s.hunt.current, kind := .detour }
              current := s.hunt.detourFirst }))

/-- R50, R52, R54, R56, R57, R60: the position-fault timer sets the alarm; the pulse timer de-energises the coil, which
leaves CONFIRM_WAIT, or after a failure an empty slot, and confirms a trip that cut a close and whose breaker stands OPEN.
R194: with a RESTART waiting, the end of the last pulse fixes the store entries to complete. A timer that does not run or is
not due expires not (log entry 2). The record's source is log entry 14's, and that of the operation in flight it carries the
kind alone log entry 51's. -/
def Obligations.BreakerTimersExpire : Prop :=
  ∀ (f : Feeder) (s : State), s.powered = true →
    (timerDue s.ms (s.breaker f).faultTimer = false → exec (.positionFaultTimerExpiry f) s = .next s) ∧
    (timerDue s.ms (s.breaker f).faultTimer = true →
      ∃ t, exec (.positionFaultTimerExpiry f) s = .next t ∧
        t.breaker f = { s.breaker f with alarm := true, faultTimer := none } ∧ t.flagSet .trip ∧
        s.changesOnly [.breakers, .log, .ports] t ∧ (∀ g, g ≠ f → t.breaker g = s.breaker g) ∧
        t.lastRecord (some f) (.block .breakerInterface) s.stamp
          (.positionFault false (s.breaker f).stableClosed (s.breaker f).slot.kind)) ∧
    (timerDue s.ms (s.breaker f).slot.pulseTimer = false → exec (.pulseTimerExpiry f) s = .next s) ∧
    (∀ op : TripOp, (s.breaker f).slot = .trip op → op.phase = .pulse → op.pulseLength ≤ (s.ms - op.started).toNat →
        op.cut ≠ none → (s.breaker f).decoded = .open → s.huntOn f = false ∨ Requester.hunt ∉ op.requesters →
      ∃ t, exec (.pulseTimerExpiry f) s = .next t ∧ s.tripEnds f op t) ∧
    ∀ (x : Slot) (u : State),
      (∃ op : TripOp, (s.breaker f).slot = .trip op ∧ op.phase = .pulse ∧
          op.pulseLength ≤ (s.ms - op.started).toNat ∧ (op.cut = none ∨ (s.breaker f).decoded ≠ .open) ∧
          x = .trip { op with phase := .confirmWait }) ∨
        (∃ op : TripOp, (s.breaker f).slot = .trip op ∧ op.phase = .failPulse ∧
          op.pulseLength ≤ (s.ms - op.started).toNat ∧ x = .empty) ∨
        (∃ op : CloseOp, (s.breaker f).slot = .close op ∧ op.phase = .pulse ∧
          op.pulseLength ≤ (s.ms - op.started).toNat ∧ x = .close { op with phase := .confirmWait }) →
      u = s.setBreaker f { s.breaker f with slot := x } →
      (s.restart = none → exec (.pulseTimerExpiry f) s = .next u) ∧
      ∀ w : RestartWait, s.restart = some w →
        (w.fixed = none → u.anyPulse = false →
          exec (.pulseTimerExpiry f) s = .next
            { u with restart := some { w with fixed := some s.store.queue.length } }) ∧
        (w.fixed ≠ none ∨ u.anyPulse = true → exec (.pulseTimerExpiry f) s = .next u)

/-- R54, R57, R61, R79, R80: a trip that cut a close and whose breaker stands OPEN is confirmed at the confirm time; another
not confirmed in time fails: the output is asserted, a pulse still running goes on as FAIL_PULSE, the masters are answered
BREAKER_FAIL and the sequencer goes to FAILED. A close not confirmed in time fails: the slot empties, the master is answered
CLOSE_FAIL, and the AUTO close of RECLOSING and a manual close of OPEN or LOCKOUT lead to LOCKOUT (R74, R77, R80). R158,
R167: either failure ends a hunt that waits for it, and any BREAKER_FAIL one that is RUNNING or PAUSED; a STOPPING one notes
the BREAKER_FAIL, with one flag (log entry 36), and ends aborted at the answer it waits for. The engine hears of it before
the sequencer, which the hunt's end has taken out of HUNT (log entry 54). A MANUAL-OPEN held in RECLOSING phase ASKED is
passed then (log entry 53). A time that does not run or is not due expires not (log entry 2); a record's source is the port
that asked first, or the interface (log entry 14). That a failed trip is kept as the latest that failed is log entry 28's,
and what lastTrip and lastClose keep log entry 29's. -/
def Obligations.ConfirmTimesExpire : Prop :=
  ∀ (f : Feeder) (s : State), s.powered = true →
    (timerDue s.ms (s.breaker f).slot.tripConfirmTimer = false → exec (.tripConfirmTimeExpiry f) s = .next s) ∧
    (timerDue s.ms (s.breaker f).slot.closeConfirmTimer = false → exec (.closeConfirmTimeExpiry f) s = .next s) ∧
    (∀ op : TripOp, (s.breaker f).slot = .trip op → op.phase ≠ .failPulse →
        op.confirmTime ≤ (s.ms - op.started).toNat → op.cut ≠ none → (s.breaker f).decoded = .open →
        s.huntOn f = false ∨ Requester.hunt ∉ op.requesters →
      ∃ t, exec (.tripConfirmTimeExpiry f) s = .next t ∧ s.tripEnds f op t) ∧
    (s.huntOn f = false →
      (∀ op : TripOp, (s.breaker f).slot = .trip op → op.phase ≠ .failPulse →
        op.confirmTime ≤ (s.ms - op.started).toNat → op.cut = none ∨ (s.breaker f).decoded ≠ .open →
        (s.sequencer f).pendingOpen = [] →
        ∃ t, exec (.tripConfirmTimeExpiry f) s = .next t ∧ (t.breaker f).breakerFailOutput = true ∧
          t.breaker f =
            { s.breaker f with
              slot := if op.phase = .pulse then .trip { op with phase := .failPulse } else .empty
              failed := some
                { purposes := op.purposes, requesters := op.requesters, cause := op.cause, started := op.started }
              lastTrip := some { outcome := .breakerFail, time := s.time } } ∧
          t.flagSet .trip ∧ s.feederOnly f t ∧
          ((s.sequencer f).state ≠ .hunt → t.sequencer f =
            { s.sequencer f with
              state := .failed, phase := none, openTaken := false, manualClose := none, timer := none }) ∧
          s.changesOnly [.breakers, .sequencers, .log, .ports, .restart] t ∧
          t.lastRecord (some f) (requesterSource op.requesters) s.stamp
            (.breakerFail op.purposes op.cause op.requesters op.cut (s.breaker f).decoded
              (s.ms - op.started).toNat) ∧
          ∀ p code, .master p ∈ op.requesters → (s.port p).slot = .inFlight code → (s.port p).orphan = false →
            (t.port p).slot =
              .ready { status := .breakerFail, code := code, counter := (s.port p).counter, data := [] }) ∧
      (∀ (op : TripOp) (q : Port), (s.breaker f).slot = .trip op → op.phase = .confirmWait →
        op.confirmTime ≤ (s.ms - op.started).toNat → op.cut = none ∨ (s.breaker f).decoded ≠ .open →
        (s.sequencer f).state = .reclosing → (s.sequencer f).phase = some .asked → (s.sequencer f).pendingOpen = [q] →
        (s.breaker f).stableClosed = true →
        ∃ t, exec (.tripConfirmTimeExpiry f) s = .next t ∧ (t.breaker f).breakerFailOutput = true ∧
          (t.breaker f).slot =
            .trip (s.newTrip f { purpose := .manual, requester := .master q, cause := none } none) ∧
          t.sequencer f =
            { s.sequencer f with
              state := .failed, phase := none, pendingOpen := [], openTaken := false, manualClose := none
              timer := none } ∧
          s.changesOnly [.breakers, .sequencers, .log, .ports, .restart] t) ∧
      ∀ op : CloseOp, (s.breaker f).slot = .close op → op.confirmTime ≤ (s.ms - op.started).toNat →
        ∃ t, exec (.closeConfirmTimeExpiry f) s = .next t ∧
          t.breaker f =
            { s.breaker f with slot := .empty, lastClose := some { outcome := .closeFail, time := s.time } } ∧
          t.flagSet .trip ∧ s.feederOnly f t ∧
          s.changesOnly [.breakers, .sequencers, .log, .ports, .restart] t ∧
          (∃ r ∈ t.log.records, r.feeder = some f ∧ r.stamp = s.stamp ∧
            r.details = .closeFail op.purpose op.requester (s.breaker f).decoded) ∧
          (∀ src, (op.purpose = .auto ∧ op.requester = .sequencer ∧ (s.sequencer f).state = .reclosing ∧
                (s.sequencer f).phase = some .granted ∧ src = .block .recloseSequencer) ∨
              (∃ q, (op.purpose = .remote ∨ op.purpose = .localClose) ∧ op.requester = .master q ∧
                ((s.sequencer f).state = .open ∨ (s.sequencer f).state = .lockout) ∧ src = .port q) →
            t.sequencer f =
              { s.sequencer f with
                state := .lockout, phase := none, openTaken := false, manualClose := none, timer := none
                reason := some .closeFail } ∧
            t.flagSet .lockout ∧
            t.lastRecord (some f) src s.stamp
              (.lockout .closeFail (s.sequencer f).shots (s.sequencer f).cause (s.effective f).level
                (s.effective f).shotLimit none)) ∧
          (op.purpose = .hunt ∨
              (op.purpose = .auto ∧
                ((s.sequencer f).state ≠ .reclosing ∨ (s.sequencer f).phase ≠ some .granted)) ∨
              (op.purpose ≠ .auto ∧ (s.sequencer f).state ≠ .open ∧ (s.sequencer f).state ≠ .lockout) →
            t.sequencers = s.sequencers) ∧
          ∀ p code, op.requester = .master p → (s.port p).slot = .inFlight code → (s.port p).orphan = false →
            (t.port p).slot =
              .ready { status := .closeFail, code := code, counter := (s.port p).counter, data := [] }) ∧
    (s.hunt.feeder = some f →
      (∀ op : TripOp, (s.breaker f).slot = .trip op → op.phase ≠ .failPulse →
          op.confirmTime ≤ (s.ms - op.started).toNat → op.cut = none ∨ (s.breaker f).decoded ≠ .open →
        ∃ t, exec (.tripConfirmTimeExpiry f) s = .next t ∧ (t.breaker f).breakerFailOutput = true ∧ t.flagSet .trip ∧
          (s.hunt.state = .running ∨ s.hunt.state = .paused →
            t.huntEnded .breakerFailed (.breakerAnswer .breakerFail) ∧
            (hasOwner (s.holdTable f).list .hunt = true → (t.sequencer f).state = .failed)) ∧
          (s.hunt.state = .stopping →
            (Requester.hunt ∉ op.requesters ∨ s.hunt.awaiting ≠ .trip →
              t.hunt = { s.hunt with notes := { s.hunt.notes with breakerFail := true } }) ∧
            (Requester.hunt ∈ op.requesters → s.hunt.awaiting = .trip →
              t.hunt.state = .done ∧ t.hunt.result.map HuntResult.reason = some .aborted ∧ t.flagSet .hunt ∧
              t.hunt.result.map HuntResult.notes = some { s.hunt.notes with breakerFail := true } ∧
              (hasOwner (s.holdTable f).list .hunt = true → (t.sequencer f).state = .failed)))) ∧
      ∀ op : CloseOp, (s.breaker f).slot = .close op → op.confirmTime ≤ (s.ms - op.started).toNat →
          op.requester = .hunt → op.purpose = .hunt → s.hunt.awaiting = .close →
        ∃ t, exec (.closeConfirmTimeExpiry f) s = .next t ∧
          t.breaker f =
            { s.breaker f with slot := .empty, lastClose := some { outcome := .closeFail, time := s.time } } ∧
          t.flagSet .trip ∧
          (s.hunt.state = .running → t.huntEnded .breakerFailed (.breakerAnswer .closeFail)) ∧
          (s.hunt.state = .stopping →
            t.hunt.state = .done ∧ t.hunt.result.map HuntResult.reason = some .aborted ∧ t.flagSet .hunt) ∧
          (hasOwner (s.holdTable f).list .hunt = true → s.hunt.state = .running ∨ s.hunt.state = .stopping →
            (t.sequencer f).state = if (s.breaker f).stableClosed then .inService else .open))

/-! ### Reclose sequencer -/

/-- R71, R76: what the sequencer does at a confirmed trip: the PATROL placement, a taken open, and else the five tests in
order, between DEAD with the dead time of the next shot and LOCKOUT with the reason of the first test that fails. R83,
R91, R101: the placement on the lists of its patrol corridor, and what it does to a corridor feeder in DEAD. -/
def Obligations.ConfirmedTripDecides : Prop :=
  ∀ (f : Feeder) (s : State), (s.sequencer f).state = .tripping →
    (s.StoreLaw → s.changesOnly [.sequencers, .holds, .log, .store, .ports] (s.confirmTrip f)) ∧
    ((s.effective f).patrol = true → hasOwner ((s.confirmTrip f).holdTable f).list .patrol = true) ∧
    (∀ g, g ≠ f →
      ((s.effective f).patrol = true → feederGet (s.holdTable f).corridor g = true →
          hasOwner (s.holdTable g).list .patrol = false →
        ((s.confirmTrip f).holdTable g).list = (s.holdTable g).list ++
          [{ owner := .patrol, kind := .all, tag := 0, reason := 0, expiry := none, stamp := s.stamp }] ∧
        (s.confirmTrip f).flagSet .holds ∧
        ((s.sequencer g).state = .dead →
          ((s.confirmTrip f).sequencer g).state = .lockout ∧
            ((s.confirmTrip f).sequencer g).reason = some .holdInDead) ∧
        ((s.sequencer g).state ≠ .dead → (s.confirmTrip f).sequencer g = s.sequencer g)) ∧
      ((s.effective f).patrol = false ∨ feederGet (s.holdTable f).corridor g = false ∨
          hasOwner (s.holdTable g).list .patrol = true →
        ((s.confirmTrip f).holdTable g).list = (s.holdTable g).list ∧
          (s.confirmTrip f).sequencer g = s.sequencer g)) ∧
    ((s.sequencer f).openTaken = true →
      (s.confirmTrip f).sequencer f =
        { s.sequencer f with
          state := .open, shots := 0, mark := false, phase := none, openTaken := false, timer := none }) ∧
    ((s.sequencer f).openTaken = false →
      ((s.sequencer f).mark = false ∧ (s.effective f).patrol = false ∧ (s.holdTable f).list = [] ∧
          (s.sequencer f).shots < (s.effective f).shotLimit ∧
          (s.effective f).mayReclose (s.sequencer f).cause = true →
        s.confirmTrip f = s.setSequencer f
          { s.sequencer f with
            state := .dead, mark := false, phase := none, openTaken := false
            timer := some
              { start := s.ms, length := (s.effective f).group.deadTime (s.sequencer f).shots } }) ∧
      (¬ ((s.sequencer f).mark = false ∧ (s.effective f).patrol = false ∧ (s.holdTable f).list = [] ∧
          (s.sequencer f).shots < (s.effective f).shotLimit ∧
          (s.effective f).mayReclose (s.sequencer f).cause = true) →
        (s.confirmTrip f).flagSet .lockout ∧
        (s.confirmTrip f).sequencer f =
          { s.sequencer f with
            state := .lockout, mark := false, phase := none, openTaken := false, manualClose := none, timer := none
            reason := some
              (if (s.sequencer f).mark then .switchOnToFault
              else if (s.effective f).patrol then .patrol
              else if (s.holdTable f).list ≠ [] then .hold
              else if (s.effective f).shotLimit ≤ (s.sequencer f).shots then .shots
              else .cause) }))

/-- R72, R73, R75, R77: the dead timer's expiry, the two tests at it, the ask, the grant and the refusal of the AUTO close,
with the close pulse that the grant begins (R52, R59) and the MANUAL-OPEN held in phase ASKED, which R78 has passed in that
event; and the reclaim timer's expiry (log entries 2 and 11 for the forms that do nothing and for the ask alone). The
record's source is log entry 14's; which reason stands when both tests fail is log entry 61's. Of a held MANUAL-OPEN passed:
that the ports held are a list is log entry 32's, a port that joins a trip it has asked for already log entry 43's, and the
CUT that lastClose keeps log entry 29's. -/
def Obligations.SequencerTimersExpire : Prop :=
  ∀ (f : Feeder) (s : State), s.powered = true →
    ((s.breaker f).askPending = false →
      (∀ taken, s.deadDue f = false → exec (.deadTimerExpiry f taken) s = .next s) ∧
      (∀ taken, s.deadDue f = true →
          (s.effective f).shotLimit ≤ (s.sequencer f).shots ∨
            (s.effective f).mayReclose (s.sequencer f).cause = false →
        ∃ t, exec (.deadTimerExpiry f taken) s = .next t ∧ s.changesOnly [.sequencers, .log, .ports] t ∧
          (t.sequencer f).state = .lockout ∧ t.flagSet .lockout ∧
          (t.sequencer f).reason =
            some (if (s.effective f).shotLimit ≤ (s.sequencer f).shots then .shotsAtExpiry else .causeAtExpiry)) ∧
      (s.deadDue f = true → (s.sequencer f).shots < (s.effective f).shotLimit →
          (s.effective f).mayReclose (s.sequencer f).cause = true →
        ∃ t, exec (.deadTimerExpiry f false) s = .next t ∧
          t = (s.setSequencer f
            { s.sequencer f with state := .reclosing, phase := some .asked, timer := none }).setBreaker f
              { s.breaker f with askPending := true } ∧
          exec (.deadTimerExpiry f true) s = exec (.deadTimerExpiry f true) t)) ∧
    ((s.breaker f).askPending = true → (s.sequencer f).state = .reclosing → (s.sequencer f).phase = some .asked →
        (s.sequencer f).pendingOpen = [] →
      (∀ taken, (s.breaker f).slot = .empty → (s.breaker f).stableClosed = false → (s.holdTable f).list = [] →
        exec (.deadTimerExpiry f taken) s = .next
          ((s.setBreaker f
            { s.breaker f with
              askPending := false
              slot := .close
                { purpose := .auto, requester := .sequencer, phase := .pulse
                  pulseLength := 20 * 2 ^ (s.effective f).group.pulseCode
                  confirmTime := (s.effective f).group.closeConfirm, started := s.ms } }).setSequencer f
              { s.sequencer f with shots := (s.sequencer f).shots + 1, phase := some .granted })) ∧
      (∀ taken c, ((s.breaker f).slot ≠ .empty ∧ c = .busy) ∨
            ((s.breaker f).slot = .empty ∧ (s.breaker f).stableClosed = true ∧ c = .notOpen) ∨
            ((s.breaker f).slot = .empty ∧ (s.breaker f).stableClosed = false ∧ (s.holdTable f).list ≠ [] ∧
              c = .barred) →
        ∃ t, exec (.deadTimerExpiry f taken) s = .next t ∧ s.changesOnly [.breakers, .sequencers, .log, .ports] t ∧
          t.breaker f = { s.breaker f with askPending := false } ∧ (t.sequencer f).state = .lockout ∧
          (t.sequencer f).reason = some .closeRefused ∧ (t.sequencer f).shots = (s.sequencer f).shots ∧
          t.flagSet .lockout ∧
          t.lastRecord (some f) (.block .recloseSequencer) s.stamp
            (.lockout .closeRefused (s.sequencer f).shots (s.sequencer f).cause (s.effective f).level
              (s.effective f).shotLimit (some c)))) ∧
    (∀ (q : Port) (r : Sequencer), (s.breaker f).askPending = true → (s.sequencer f).state = .reclosing →
        (s.sequencer f).phase = some .asked → (s.sequencer f).pendingOpen = [q] →
        r =
          { s.sequencer f with
            state := .open, shots := 0, mark := false, phase := none, openTaken := false, timer := none
            pendingOpen := [] } →
      (∀ taken, (s.breaker f).slot = .empty → (s.breaker f).stableClosed = false → (s.holdTable f).list = [] →
        exec (.deadTimerExpiry f taken) s = .next
          ((s.setBreaker f
            { s.breaker f with
              askPending := false
              slot := .trip
                (s.newTrip f { purpose := .manual, requester := .master q, cause := none }
                  (some { purpose := .auto, requester := .sequencer }))
              lastClose := some { outcome := .cut, time := s.time } }).setSequencer f r)) ∧
      (∀ taken code, (s.breaker f).slot = .empty → (s.breaker f).stableClosed = false → (s.holdTable f).list ≠ [] →
          (s.port q).slot = .inFlight code → (s.port q).orphan = false →
        ∃ t, exec (.deadTimerExpiry f taken) s = .next t ∧ s.changesOnly [.breakers, .sequencers, .ports] t ∧
          s.feederOnly f t ∧ t.breaker f = { s.breaker f with askPending := false } ∧ t.sequencer f = r ∧
          (t.port q).slot =
            .ready { status := .alreadyOpen, code := code, counter := (s.port q).counter, data := [] }) ∧
      (∀ taken, (s.breaker f).slot = .empty → (s.breaker f).stableClosed = true →
        exec (.deadTimerExpiry f taken) s = .next
          ((s.setBreaker f
            { s.breaker f with
              askPending := false
              slot := .trip
                (s.newTrip f { purpose := .manual, requester := .master q, cause := none } none) }).setSequencer f r)) ∧
      ∀ taken (op : TripOp), (s.breaker f).slot = .trip op → op.phase ≠ .failPulse →
        exec (.deadTimerExpiry f taken) s = .next
          ((s.setBreaker f
            { s.breaker f with
              askPending := false
              slot := .trip (op.join { purpose := .manual, requester := .master q, cause := none }) }).setSequencer f
            r)) ∧
    ((s.sequencer f).state ≠ .reclaim ∨ timerDue s.ms (s.sequencer f).timer = false →
      exec (.reclaimTimerExpiry f) s = .next s) ∧
    ((s.sequencer f).state = .reclaim → timerDue s.ms (s.sequencer f).timer = true →
      exec (.reclaimTimerExpiry f) s = .next
        (s.setSequencer f { s.sequencer f with state := .inService, shots := 0, mark := false, timer := none }))

/-- R78: MANUAL-OPEN by the state of the feeder's sequencer, and R54, R55, R58 by what the breaker's slot holds. R167: in
HUNT it is an abort of the hunt too, taken before the trip is passed (log entry 69). The list of the held ports is log entry
32's, a requester that joins a trip it already asked for log entry 43's, the failed trip kept as the joined one log entry
28's, and what lastClose keeps log entry 29's. R55, R79: one that joins a trip in FAIL_PULSE is answered BREAKER_FAIL at
once, and the sequencer goes to FAILED. -/
def Obligations.ManualOpenByState : Prop :=
  ∀ (p : Port) (f : Feeder) (fr : Frame) (s : State), s.controlTaken p 0x06 fr → (p = .remote → s.key = .remotePos) →
    fr.payload.length = 1 → feederOf (byteAt fr.payload 0) = some f →
    ((s.sequencer f).state = .inService ∨ (s.sequencer f).state = .reclaim → (s.breaker f).slot = .empty →
        (s.breaker f).stableClosed = true →
      exec (.manualOpen p fr) s = .next
        (((s.controlInFlight p 0x06 fr).setSequencer f
          { s.sequencer f with
            state := .open, shots := 0, mark := false, phase := none, openTaken := false, timer := none }).setBreaker f
          { s.breaker f with
            slot := .trip (s.newTrip f { purpose := .manual, requester := .master p, cause := none } none) })) ∧
    (∀ op : TripOp, (s.sequencer f).state = .inService ∨ (s.sequencer f).state = .reclaim →
        (s.breaker f).slot = .trip op →
      (op.phase ≠ .failPulse →
        exec (.manualOpen p fr) s = .next
          (((s.controlInFlight p 0x06 fr).setSequencer f
            { s.sequencer f with
              state := .open, shots := 0, mark := false, phase := none, openTaken := false, timer := none }).setBreaker f
            { s.breaker f with
              slot := .trip (op.join { purpose := .manual, requester := .master p, cause := none }) })) ∧
      (op.phase = .failPulse → s.huntOn f = false →
          ∀ j : TripOp, j = op.join { purpose := .manual, requester := .master p, cause := none } →
        exec (.manualOpen p fr) s = .next
          (((s.controlAnswered p 0x06 fr .breakerFail []).setSequencer f
            { s.sequencer f with
              state := .failed, shots := 0, mark := false, phase := none, pendingOpen := [], openTaken := false
              manualClose := none, timer := none }).setBreaker f
            { s.breaker f with
              slot := .trip j
              failed := some
                { purposes := j.purposes, requesters := j.requesters, cause := j.cause, started := j.started } }))) ∧
    (∀ op j : TripOp, (s.breaker f).slot = .trip op → op.phase = .failPulse → s.huntOn f = false →
        (s.sequencer f).state = .failed ∨ (s.sequencer f).state = .tripping ∨
          (((s.sequencer f).state = .open ∨ (s.sequencer f).state = .lockout) ∧ (s.breaker f).stableClosed = true) →
        j = op.join { purpose := .manual, requester := .master p, cause := none } →
      exec (.manualOpen p fr) s = .next
        (((s.controlAnswered p 0x06 fr .breakerFail []).setSequencer f
          { s.sequencer f with
            state := .failed, phase := none, pendingOpen := [], openTaken := false, manualClose := none
            timer := none }).setBreaker f
          { s.breaker f with
            slot := .trip j
            failed := some
              { purposes := j.purposes, requesters := j.requesters, cause := j.cause, started := j.started } })) ∧
    (∀ op : CloseOp, (s.sequencer f).state = .inService ∨ (s.sequencer f).state = .reclaim ∨
          ((s.sequencer f).state = .reclosing ∧ (s.sequencer f).phase = some .granted) →
        (s.breaker f).slot = .close op →
        (op.requester = .sequencer ∧ op.purpose = .auto) ∨
          (op.requester = .hunt ∧ op.purpose = .hunt ∧ s.hunt.awaiting ≠ .close) →
      exec (.manualOpen p fr) s = .next
        (((s.controlInFlight p 0x06 fr).setSequencer f
          { s.sequencer f with
            state := .open, shots := 0, mark := false, phase := none, openTaken := false, timer := none }).setBreaker f
          { s.breaker f with
            slot := .trip
              (s.newTrip f { purpose := .manual, requester := .master p, cause := none }
                (some { purpose := op.purpose, requester := op.requester }))
            lastClose := some { outcome := .cut, time := s.time } })) ∧
    ((s.sequencer f).state = .hunt → s.hunt.feeder = some f →
      (s.hunt.state = .running → s.hunt.phase = .observing → s.hunt.awaiting = .nothing → (s.breaker f).slot = .empty →
          hasOwner (s.holdTable f).list .hunt = true →
        ∃ t, exec (.manualOpen p fr) s = .next t ∧ s.feederOnly f t ∧
          s.changesOnly [.protection, .breakers, .sequencers, .holds, .bus, .hunt, .log, .ports] t ∧
          t.hunt.state = .done ∧ t.hunt.result.map HuntResult.reason = some .aborted ∧
          t.hunt.result.map HuntResult.detail = some (.port p) ∧
          ((s.breaker f).stableClosed = true →
            (t.sequencer f).state = .inService ∧ (t.port p).slot = .inFlight 0x06 ∧
            t.breaker f =
              { s.breaker f with
                slot := .trip
                  (s.newTrip f { purpose := .manual, requester := .master p, cause := none } none) }) ∧
          ((s.breaker f).stableClosed = false →
            (t.sequencer f).state = .open ∧ t.breaker f = s.breaker f ∧ t.answerAt p = some (.alreadyOpen, []))) ∧
      ∀ op : TripOp, s.hunt.state = .running → s.hunt.awaiting = .trip → (s.breaker f).slot = .trip op →
          op.phase ≠ .failPulse →
        exec (.manualOpen p fr) s = .next
          ((((s.controlInFlight p 0x06 fr).setHunt
            { s.hunt with
              state := .stopping, abortPort := some p, pauseTimer := none, pendingDetour := false
              insertion := none }).setUnit f { s.unit f with window := none }).setBreaker f
            { s.breaker f with
              slot := .trip (op.join { purpose := .manual, requester := .master p, cause := none }) })) ∧
    ((s.sequencer f).state = .open ∨ (s.sequencer f).state = .lockout → (s.sequencer f).manualClose = none →
        (s.breaker f).slot = .empty → (s.breaker f).stableClosed = true →
      exec (.manualOpen p fr) s = .next
        ((s.controlInFlight p 0x06 fr).setBreaker f
          { s.breaker f with
            slot := .trip (s.newTrip f { purpose := .manual, requester := .master p, cause := none } none) })) ∧
    ((s.sequencer f).state = .dead → (s.breaker f).slot = .empty → (s.breaker f).stableClosed = false →
      exec (.manualOpen p fr) s = .next
        ((s.controlAnswered p 0x06 fr .alreadyOpen []).setSequencer f
          { s.sequencer f with
            state := .open, shots := 0, mark := false, phase := none, openTaken := false, timer := none })) ∧
    ((s.sequencer f).state = .reclosing → (s.sequencer f).phase = some .asked →
      exec (.manualOpen p fr) s = .next
        ((s.controlInFlight p 0x06 fr).setSequencer f
          { s.sequencer f with pendingOpen := (s.sequencer f).pendingOpen ++ [p] })) ∧
    (∀ op : TripOp, (s.sequencer f).state = .tripping → (s.breaker f).slot = .trip op → op.phase ≠ .failPulse →
      exec (.manualOpen p fr) s = .next
        (((s.controlInFlight p 0x06 fr).setSequencer f { s.sequencer f with openTaken := true }).setBreaker f
          { s.breaker f with
            slot := .trip (op.join { purpose := .manual, requester := .master p, cause := none }) })) ∧
    ((s.sequencer f).state = .failed → (s.breaker f).slot = .empty → (s.breaker f).stableClosed = true →
      exec (.manualOpen p fr) s = .next
        ((s.controlInFlight p 0x06 fr).setBreaker f
          { s.breaker f with
            slot := .trip (s.newTrip f { purpose := .manual, requester := .master p, cause := none } none) })) ∧
    ((s.sequencer f).state = .failed → (s.breaker f).slot = .empty → (s.breaker f).stableClosed = false →
      exec (.manualOpen p fr) s = .next (s.controlAnswered p 0x06 fr .alreadyOpen [])) ∧
    ((s.sequencer f).state = .open ∨ (s.sequencer f).state = .lockout → (s.sequencer f).manualClose = none →
        (s.breaker f).stableClosed = false →
      exec (.manualOpen p fr) s = .next (s.controlAnswered p 0x06 fr .alreadyOpen [])) ∧
    (∀ (op : CloseOp) (q : Port) (code : Byte), (s.sequencer f).state = .open ∨ (s.sequencer f).state = .lockout →
        (s.sequencer f).manualClose = some q → (s.breaker f).slot = .close op → op.requester = .master q →
        (op.purpose = .remote ∨ op.purpose = .localClose) →
        q ≠ p → (s.port q).slot = .inFlight code → (s.port q).orphan = false →
      ∃ t, exec (.manualOpen p fr) s = .next t ∧ s.changesOnly [.breakers, .sequencers, .ports] t ∧
        s.feederOnly f t ∧
        t.breaker f =
          { s.breaker f with
            slot := .trip
              (s.newTrip f { purpose := .manual, requester := .master p, cause := none }
                (some { purpose := op.purpose, requester := op.requester }))
            lastClose := some { outcome := .cut, time := s.time } } ∧
        (t.port q).slot = .ready { status := .cut, code := code, counter := (s.port q).counter, data := [] } ∧
        t.sequencer f = { s.sequencer f with manualClose := none })

/-- R80, R52, R59, R90: MANUAL-CLOSE: in OPEN and LOCKOUT the breaker interface tests it and begins its pulse, with the
length and the confirm time of the active group, or gives the refusal, which for BARRED carries the first entry that bars it,
laid out as log entry 16 says; in any other state it is refused STATE. -/
def Obligations.ManualCloseIsTested : Prop :=
  ∀ (p : Port) (f : Feeder) (fr : Frame) (s : State), s.controlTaken p 0x07 fr →
    (p = .remote → s.key = .remotePos) → (p = .panel → s.key = .localPos) →
    fr.payload.length = 1 → feederOf (byteAt fr.payload 0) = some f →
    ((s.sequencer f).state ≠ .open → (s.sequencer f).state ≠ .lockout →
      exec (.manualClose p fr) s = .next (s.controlAnswered p 0x07 fr .state [])) ∧
    ((s.sequencer f).state = .open ∨ (s.sequencer f).state = .lockout →
      ((s.breaker f).slot ≠ .empty →
        exec (.manualClose p fr) s = .next (s.controlAnswered p 0x07 fr .busy [])) ∧
      ((s.breaker f).slot = .empty → (s.breaker f).stableClosed = true →
        exec (.manualClose p fr) s = .next (s.controlAnswered p 0x07 fr .notOpen [])) ∧
      ((s.breaker f).slot = .empty → (s.breaker f).stableClosed = false →
        (∀ h, barring (s.holdTable f).list (if p = .remote then .remote else .localClose) = some h →
          exec (.manualClose p fr) s = .next (s.controlAnswered p 0x07 fr .barred (barringBytes h))) ∧
        (barring (s.holdTable f).list (if p = .remote then .remote else .localClose) = none →
          exec (.manualClose p fr) s = .next
            (((s.controlInFlight p 0x07 fr).setBreaker f
              { s.breaker f with
                slot := .close
                  { purpose := if p = .remote then .remote else .localClose, requester := .master p, phase := .pulse
                    pulseLength := 20 * 2 ^ (s.effective f).group.pulseCode
                    confirmTime := (s.effective f).group.closeConfirm, started := s.ms } }).setSequencer f
                  { s.sequencer f with manualClose := some p }))))

/-! ### Reclose holds -/

/-- R89, R92, R93, R94, R104: PLACE-HOLD: a new entry joins the end of the list, a tenth master entry is refused FULL,
and a standing owner and tag are refreshed in place. A placement and a refresh alike append HOLD_PLACED, lock out a sequencer
in DEAD (R83), set the HOLDS flag and request the retention write; under a store fault the answer is ACCEPTED_VOLATILE, with
the byte of log entries 15 and 16. The moment of a record is R172's, its source log entry 14's. -/
def Obligations.PlaceHoldChangesTheList : Prop :=
  ∀ (p : Port) (f : Feeder) (k : HoldKind) (fr : Frame) (s : State), s.controlTaken p 0x09 fr → s.StoreLaw →
    fr.payload.length = 7 → feederOf (byteAt fr.payload 0) = some f → holdKindOf (byteAt fr.payload 1) = some k →
    wordAt fr.payload 2 ≠ 0 →
    (1440 < wordAt fr.payload 5 → exec (.placeHold p fr) s = .next (s.controlAnswered p 0x09 fr .argument [])) ∧
    (wordAt fr.payload 5 ≤ 1440 → (s.holdTable f).list.find? (Hold.isOf (.master p) (wordAt fr.payload 2)) = none →
      (9 ≤ masterCount (s.holdTable f).list →
        exec (.placeHold p fr) s = .next (s.controlAnswered p 0x09 fr .full [])) ∧
      ∀ h : Hold,
        h = { owner := .master p, kind := k, tag := wordAt fr.payload 2, reason := byteAt fr.payload 4
              expiry := if wordAt fr.payload 5 = 0 then none
                else some { minutes := wordAt fr.payload 5, start := s.ms }
              stamp := s.stamp } →
        masterCount (s.holdTable f).list < 9 →
        ∃ t, exec (.placeHold p fr) s = .next t ∧ (t.holdTable f).list = (s.holdTable f).list ++ [h] ∧
          s.feederOnly f t ∧
          s.changesOnly [.holds, .sequencers, .log, .store, .ports] t ∧ t.flagSet .holds ∧
          t.answerAt p =
            some (if s.store.fault = none then (.placed, []) else (.acceptedVolatile, [0x01])) ∧
          ((s.sequencer f).state ≠ .dead → t.sequencers = s.sequencers) ∧
          ((s.sequencer f).state = .dead →
            (t.sequencer f).state = .lockout ∧ (t.sequencer f).reason = some .holdInDead) ∧
          (∃ r ∈ t.log.records, r.feeder = some f ∧ r.stamp = s.stamp ∧
            r.details = .holdPlaced h false (some p) ((s.holdTable f).list.length + 1) none) ∧
          (s.store.fault = none → (s.holdTable f).pendingMark = false →
            ∃ e ∈ t.store.queue, ∃ x, e.job = .internal (.holds f) x)) ∧
    (∀ old new : Hold, wordAt fr.payload 5 ≤ 1440 →
        (s.holdTable f).list.find? (Hold.isOf (.master p) (wordAt fr.payload 2)) = some old →
        new =
          { old with
            kind := k, reason := byteAt fr.payload 4
            expiry := if wordAt fr.payload 5 = 0 then none
              else some { minutes := wordAt fr.payload 5, start := s.ms } } →
      ∃ t, exec (.placeHold p fr) s = .next t ∧
        (t.holdTable f).list = (s.holdTable f).list.replace old new ∧
        s.feederOnly f t ∧ s.changesOnly [.holds, .sequencers, .log, .store, .ports] t ∧ t.flagSet .holds ∧
        t.answerAt p =
          some (if s.store.fault = none then (.refreshed, []) else (.acceptedVolatile, [0x02])) ∧
        ((s.sequencer f).state ≠ .dead → t.sequencers = s.sequencers) ∧
        ((s.sequencer f).state = .dead →
          (t.sequencer f).state = .lockout ∧ (t.sequencer f).reason = some .holdInDead) ∧
        (∃ r ∈ t.log.records, r.feeder = some f ∧ r.source = .port p ∧ r.stamp = s.stamp ∧
          r.details = .holdPlaced new true (some p) (s.holdTable f).list.length none) ∧
        (s.store.fault = none → (s.holdTable f).pendingMark = false →
          ∃ e ∈ t.store.queue, ∃ x, e.job = .internal (.holds f) x))

/-- R92, R95 to R98, R102: a removal by request, by override, by expiry or by PATROL-CLEAR takes one entry off the
list, records it last and sets the HOLDS flag, and moves no sequencer, while no hunt is paused on the feeder (one may
then go on). An automatic owner is refused AUTOMATIC, an entry that does not stand NOT_FOUND. An expiry that is not
due does nothing (log entry 2); the one byte after ACCEPTED_VOLATILE is log entries 15's and 16's. The records' sources are
log entry 14's. -/
def Obligations.RemovalsChangeTheList : Prop :=
  ∀ (f : Feeder) (s : State), s.powered = true → s.StoreLaw → s.huntIs f .paused = false →
    (∀ (p q : Port) (h : Hold) (fr : Frame), s.controlTaken p 0x0A fr → grantRemoveHold s.key fr.payload p = true →
        fr.payload.length = 5 → feederOf (byteAt fr.payload 0) = some f →
        ownerOf p (byteAt fr.payload 3) = some (.master q) → wordAt fr.payload 1 ≠ 0 →
        (s.holdTable f).list.find? (Hold.isOf (.master q) (wordAt fr.payload 1)) = some h →
      ∃ t, exec (.removeHold p fr) s = .next t ∧ (t.holdTable f).list = (s.holdTable f).list.erase h ∧
        s.feederOnly f t ∧ s.changesOnly [.holds, .log, .store, .ports] t ∧
        t.flagSet .holds ∧
        t.lastRecord (some f) (.port p) s.stamp (.holdRemoved h (if q = p then .request else .override) (some p)) ∧
        t.answerAt p = some (if s.store.fault = none then (.removed, []) else (.acceptedVolatile, [0x03]))) ∧
    (∀ (p : Port) (o : Owner) (fr : Frame), s.controlTaken p 0x0A fr → grantRemoveHold s.key fr.payload p = true →
        fr.payload.length = 5 → feederOf (byteAt fr.payload 0) = some f →
        ownerOf p (byteAt fr.payload 3) = some o → wordAt fr.payload 1 ≠ 0 →
      (o.isMaster = false → exec (.removeHold p fr) s = .next (s.controlAnswered p 0x0A fr .automatic [])) ∧
      (o.isMaster = true → (∀ h ∈ (s.holdTable f).list, h.owner = o → h.tag ≠ wordAt fr.payload 1) →
        exec (.removeHold p fr) s = .next (s.controlAnswered p 0x0A fr .notFound []))) ∧
    (∀ (q : Port) (tag : Word) (h : Hold),
        (s.holdTable f).list.find? (Hold.isOf (.master q) tag.toNat) = some h →
      (h.expired s.ms = false → exec (.holdExpiry f q tag) s = .next s) ∧
      (h.expired s.ms = true →
        ∃ t, exec (.holdExpiry f q tag) s = .next t ∧ (t.holdTable f).list = (s.holdTable f).list.erase h ∧
          s.feederOnly f t ∧ s.changesOnly [.holds, .log, .store, .ports] t ∧
          t.flagSet .holds ∧
          t.lastRecord (some f) (.block .holdTable) s.stamp (.holdRemoved h .expired none))) ∧
    (∀ (p : Port) (fr : Frame), s.controlTaken p 0x0B fr → p ≠ .station → fr.payload.length = 1 →
        feederOf (byteAt fr.payload 0) = some f →
      ((s.holdTable f).list.find? (fun h => h.owner == .patrol) = none →
        exec (.patrolClear p fr) s = .next (s.controlAnswered p 0x0B fr .notFound [])) ∧
      ∀ h, (s.holdTable f).list.find? (fun h => h.owner == .patrol) = some h →
        ∃ t, exec (.patrolClear p fr) s = .next t ∧ (t.holdTable f).list = (s.holdTable f).list.erase h ∧
          s.feederOnly f t ∧ s.changesOnly [.holds, .log, .store, .ports] t ∧
          t.flagSet .holds ∧ t.lastRecord (some f) (.port p) s.stamp (.holdRemoved h .patrolClear (some p)) ∧
          t.answerAt p = some (if s.store.fault = none then (.removed, []) else (.acceptedVolatile, [0x03])))

/-! ### Fire-danger levels -/

/-- R109 to R112, R120 to R122: a fire request set, withdrawn or expired replaces its port's slot, and the site level, every
feeder's effective settings and FIRE entry follow; a changed effective level sets the LEVEL flag. While no hunt is paused it
is recorded LEVEL_CHANGED with its levels, its cause and its source (log entry 14), and nothing else but the settings pushed
to the protection units (R14, R38, R44: the baseline and the SEF element alone), the sequencers told of a placement, the
store and the ports changes, and the answer tells of the change. An expiry that is not due does nothing (log entry 2); the
codes of the answer are log entry 16's. -/
def Obligations.FireRequestsSetTheLevels : Prop :=
  ∀ (p : Port) (s : State), s.powered = true →
    (∀ (l : Level) (fr : Frame) (r : FireRequest), s.controlTaken p 0x0E fr → fr.payload.length = 3 →
        levelOf (byteAt fr.payload 0) = some l → l ≠ .l0 → wordAt fr.payload 1 ≤ 2880 →
        r = { level := l
              expiry := if wordAt fr.payload 1 = 0 then none
                else some { minutes := wordAt fr.payload 1, start := s.ms }
              stamp := s.stamp, damaged := false } →
      ∃ t, exec (.setFireRequest p fr) s = .next t ∧ t.fire.requests = portSet s.fire.requests p (some r) ∧
        t.LevelLaw ∧ (s.HoldLaw → t.FireLaw) ∧
        (∀ f, (t.effective f).level ≠ (s.effective f).level → t.flagSet .level) ∧
        (s.hunt.state ≠ .paused → s.StoreLaw →
          s.changesOnly [.protection, .sequencers, .holds, .fire, .log, .store, .ports] t ∧
          s.levelsRecorded t .request p ∧
          (∀ f, t.unit f =
            { s.unit f with
              base := (s.unit f).base.push (s.effective f).group.shift (t.effective f).group.shift
                (t.effective f).group.limit
              sef := (s.unit f).sef.push (s.effective f).sefTrip (t.effective f).sefTrip (t.effective f).sefDelay }) ∧
          t.answerAt p = some
            (if s.store.fault = none then .accepted else .acceptedVolatile,
              [if portGet s.fire.requests p = none then 1 else 2, BitVec.ofNat 8 t.fire.site.number]))) ∧
    (∀ fr : Frame, s.controlTaken p 0x0F fr → fr.payload = [] →
      (portGet s.fire.requests p = none →
        exec (.withdrawFireRequest p fr) s = .next (s.controlAnswered p 0x0F fr .notFound [])) ∧
      (portGet s.fire.requests p ≠ none →
        ∃ t, exec (.withdrawFireRequest p fr) s = .next t ∧ t.fire.requests = portSet s.fire.requests p none ∧
          t.LevelLaw ∧ (s.HoldLaw → t.FireLaw) ∧
          (∀ f, (t.effective f).level ≠ (s.effective f).level → t.flagSet .level) ∧
          (s.hunt.state ≠ .paused → s.StoreLaw →
            s.changesOnly [.protection, .sequencers, .holds, .fire, .log, .store, .ports] t ∧
            s.levelsRecorded t .request p ∧
            (∀ f, t.unit f =
              { s.unit f with
                base := (s.unit f).base.push (s.effective f).group.shift (t.effective f).group.shift
                  (t.effective f).group.limit
                sef := (s.unit f).sef.push (s.effective f).sefTrip (t.effective f).sefTrip (t.effective f).sefDelay }) ∧
            t.answerAt p = some (if s.store.fault = none then .withdrawn else .acceptedVolatile, [])))) ∧
    (slotExpired s.ms (portGet s.fire.requests p) = false → exec (.fireRequestExpiry p) s = .next s) ∧
    (slotExpired s.ms (portGet s.fire.requests p) = true →
      ∃ t, exec (.fireRequestExpiry p) s = .next t ∧ t.fire.requests = portSet s.fire.requests p none ∧
        t.LevelLaw ∧ (s.HoldLaw → t.FireLaw) ∧
        (∀ f, (t.effective f).level ≠ (s.effective f).level → t.flagSet .level) ∧
        (s.hunt.state ≠ .paused → s.StoreLaw →
          s.changesOnly [.protection, .sequencers, .holds, .fire, .log, .store, .ports] t ∧
          s.levelsRecorded t .expiry p ∧
          (∀ f, t.unit f =
            { s.unit f with
              base := (s.unit f).base.push (s.effective f).group.shift (t.effective f).group.shift
                (t.effective f).group.limit
              sef := (s.unit f).sef.push (s.effective f).sefTrip (t.effective f).sefTrip (t.effective f).sefDelay })))

/-! ### Settings and their store -/

/-- R27, R103, R113, R115, R117, R124, R144, R151, R178, R182: a write of settings that passes its checks is queued with the
store, its response waiting for the completion; a unit list and hunt blocks take effect at once. In the fault state each is
refused STORE_FAULT, but for a STORE_REPAIR, which is refused STATE without one. -/
def Obligations.SettingWritesAreQueued : Prop :=
  ∀ (p : Port) (f : Feeder) (fr : Frame) (s : State), p ≠ .panel →
    (∀ (n : Nat) (c : Curve), s.controlTaken p 0x04 fr → 2 ≤ fr.payload.length →
        fr.payload.length = 2 + 6 * byteAt fr.payload 1 →
        n = byteAt fr.payload 0 → c = pointsAt fr.payload 2 (byteAt fr.payload 1) → 1 ≤ n → n ≤ 4 →
        curveValid c = true →
      ((∃ g, s.curveActive n g = true) → exec (.writeCurve p fr) s = .next (s.controlAnswered p 0x04 fr .inUse [])) ∧
      ((∀ g, s.curveActive n g = false) →
        exec (.writeCurve p fr) s = .next
          (if s.store.fault = none then (s.controlInFlight p 0x04 fr).storeEnqueue (.port p (.curve n c))
          else s.controlAnswered p 0x04 fr .storeFault []))) ∧
    (s.controlTaken p 0x0C fr → fr.payload.length = 2 → feederOf (byteAt fr.payload 0) = some f →
        byteAt fr.payload 1 < 16 → feederGet (feederSetOf (byteAt fr.payload 1)) f = false →
      exec (.writeCorridor p fr) s = .next
        (if s.store.fault = none then
          (s.controlInFlight p 0x0C fr).storeEnqueue (.port p (.corridor f (feederSetOf (byteAt fr.payload 1))))
        else s.controlAnswered p 0x0C fr .storeFault [])) ∧
    (∀ e, s.controlTaken p 0x10 fr → fr.payload.length = 2 → feederOf (byteAt fr.payload 0) = some f →
        exposureOf (byteAt fr.payload 1) = some e →
      exec (.writeExposure p fr) s = .next
        (if s.store.fault = none then (s.controlInFlight p 0x10 fr).storeEnqueue (.port p (.exposure f e))
        else s.controlAnswered p 0x10 fr .storeFault [])) ∧
    (∀ start values, s.controlTaken p 0x11 fr → fr.payload.length = 5 → start = byteAt fr.payload 0 →
        values = [byteAt fr.payload 1, byteAt fr.payload 2, byteAt fr.payload 3, byteAt fr.payload 4] →
        fireValuesValid start values = true →
      (32 < start → exec (.writeFireBlock p fr) s = .next (s.controlAnswered p 0x11 fr .range [])) ∧
      (start ≤ 32 →
        exec (.writeFireBlock p fr) s = .next
          (if s.store.fault = none then (s.controlInFlight p 0x11 fr).storeEnqueue (.port p (.fireBlock start values))
          else s.controlAnswered p 0x11 fr .storeFault []))) ∧
    (s.controlTaken p 0x12 fr → fr.payload = [] →
      exec (.restoreFireTable p fr) s = .next
        (if s.store.fault = none then (s.controlInFlight p 0x12 fr).storeEnqueue (.port p .restoreTable)
        else s.controlAnswered p 0x12 fr .storeFault [])) ∧
    (∀ l g, s.controlTaken p 0x13 fr → fr.payload.length = 58 → feederOf (byteAt fr.payload 0) = some f →
        letterOf (byteAt fr.payload 1) = some l → g = groupAt fr.payload 2 → groupValid g = true →
      ((s.effective f).letter = l → exec (.writeGroup p fr) s = .next (s.controlAnswered p 0x13 fr .inUse [])) ∧
      ((s.effective f).letter ≠ l →
        exec (.writeGroup p fr) s = .next
          (if s.store.fault = none then (s.controlInFlight p 0x13 fr).storeEnqueue (.port p (.group f l g))
          else s.controlAnswered p 0x13 fr .storeFault []))) ∧
    (∀ l, s.controlTaken p 0x18 fr → 2 ≤ fr.payload.length → fr.payload.length = 2 + byteAt fr.payload 1 →
        feederOf (byteAt fr.payload 0) = some f → l = addressesAt fr.payload 2 (byteAt fr.payload 1) →
        unitListValid l (s.otherAddresses f) = true →
      (s.huntOn f = true → exec (.writeUnitList p fr) s = .next (s.controlAnswered p 0x18 fr .huntActive [])) ∧
      (s.huntOn f = false →
        exec (.writeUnitList p fr) s = .next
          (if s.store.fault = none then
            ((s.controlInFlight p 0x18 fr).setUnitList f l).storeEnqueue (.port p (.unitList f l))
          else s.controlAnswered p 0x18 fr .storeFault []))) ∧
    (∀ first n blocks, s.controlTaken p 0x1D fr → 2 ≤ fr.payload.length → fr.payload.length = 2 + 8 * n →
        first = byteAt fr.payload 0 → n = byteAt fr.payload 1 → huntBlocksAt fr.payload 2 n = some blocks →
        1 ≤ first → 1 ≤ n → n ≤ 8 → first + n ≤ 256 →
      ((∃ i ∈ s.hunt.lockSet, first ≤ i ∧ i < first + n) →
        exec (.writeHuntBlocks p fr) s = .next (s.controlAnswered p 0x1D fr .inUse [])) ∧
      ((∀ i ∈ s.hunt.lockSet, i < first ∨ first + n ≤ i) →
        exec (.writeHuntBlocks p fr) s = .next
          (if s.store.fault = none then
            ((s.controlInFlight p 0x1D fr).setHunt
              { s.hunt with memory := writeBlocks s.hunt.memory first blocks }).storeEnqueue
                (.port p (.huntBlocks first blocks))
          else s.controlAnswered p 0x1D fr .storeFault []))) ∧
    (s.controlTaken p 0x28 fr → fr.payload = [] →
      exec (.storeRepair p fr) s = .next
        (if s.store.fault = none then s.controlAnswered p 0x28 fr .state []
        else if s.store.queue.any StoreEntry.isRepair then s.controlAnswered p 0x28 fr .busy []
        else (s.controlInFlight p 0x28 fr).storeEnqueue (.port p .repair)))

/-- R28, R103, R113, R116, R117, R125, R144, R151, R178, R179, R182: the completion of the head entry writes its records and
gives its contents to the working set, appends its record and answers the port, and a repair has every owner request its
retention write; a record that reads back wrong twice leaves it damaged and puts the store in its fault state, and every
entry queued behind is answered or dropped. The image then holds the records written, which pass their check with the values
the write carries (R177; of a fire-table block the table with the four fields replaced), the record left damaged fails it, and
every other record is as before. An idle store has nothing to complete; a failure named beyond the records of
the write is no event of the part and stops (log entry 8). What a STORE-REPAIR writes, the working set as it stands at its
completion, is log entry 9's, the check code of a spoiled record log entry 39's, and that a record stands on the damaged
list once is log entry 64's. The records' sources are log entry 14's, and that a STORE_FAULT record has no feeder is log
entry 70's. -/
def Obligations.StoreWritesComplete : Prop :=
  ∀ (e : StoreEntry) (rest : List StoreEntry) (s : State), s.powered = true → s.store.queue = e :: rest →
    e.begun = true →
    (∃ t, exec (.storeWriteCompletion none) s = .next t ∧
      (s.ImageLaw → s.imageAfter e.job e.job.records.length none t.image) ∧
      (∀ p n c, e.job = .port p (.curve n c) → 1 ≤ n → n ≤ 4 → s.fire.curves.length = 4 → t.curve n = c) ∧
      (∀ p f l g, e.job = .port p (.group f l g) → t.workingGroup f l = { group := g, fallback := false }) ∧
      (∀ p start values, e.job = .port p (.fireBlock start values) →
        t.fire.table = writeFields s.fire.table start values ∧ t.fire.replaced = false) ∧
      (∀ p, e.job = .port p .restoreTable → t.fire.table = fixedTable ∧ t.fire.replaced = false) ∧
      (∀ p f x, e.job = .port p (.exposure f x) → feederGet t.fire.exposure f = x) ∧
      (∀ p f c, e.job = .port p (.corridor f c) → (t.holdTable f).corridor = c) ∧
      (∀ p w, e.job = .port p w → s.hunt.state ≠ .paused →
        ∃ r ∈ t.log.records, r.stamp = s.stamp ∧ (r.feeder, r.details) = s.writtenRecord p w ∧ r.source = .port p) ∧
      (∀ p, e.job = .port p .repair →
        t.store.fault = none ∧ t.store.damaged = [] ∧ t.flagSet .store ∧
        ∀ o, s.pendingMark o = false → ∃ x ∈ t.store.queue, ∃ taken, x.job = .internal o taken) ∧
      ∀ p w code, e.job = .port p w → s.hunt.state ≠ .paused → (s.port p).slot = .inFlight code →
        (s.port p).orphan = false →
        (t.port p).slot = .ready { status := .accepted, code := code, counter := (s.port p).counter, data := [] }) ∧
    (∀ n r, e.job.records[n]? = some r →
      ∃ t, exec (.storeWriteCompletion (some n)) s = .next t ∧ t.store.fault = some .write ∧
        r ∈ t.store.damaged ∧ t.store.queue = [] ∧ t.flagSet .store ∧
        (s.ImageLaw → s.imageAfter e.job n (some r) t.image ∧
          ∃ x, t.image.recordAt r = some x ∧ x.passes r.index = false) ∧
        s.changesOnly [.holds, .fire, .bus, .log, .store, .image, .ports, .restart] t ∧
        t.lastRecord none (.block .settingStore) s.stamp (.storeFaultWrite r) ∧
        (∀ x ∈ s.store.queue, ∀ o taken, x.job = .internal o taken → t.pendingMark o = false) ∧
        ∀ p w code, (∃ x ∈ s.store.queue, x.job = .port p w) →
            (∀ x ∈ s.store.queue, ∀ w', x.job = .port p w' → w' = w) →
            (s.port p).slot = .inFlight code → (s.port p).orphan = false →
          (t.port p).slot = .ready
            { status := match w with
                | .unitList _ _ => .acceptedVolatile
                | .huntBlocks _ _ => .acceptedVolatile
                | _ => .storeFault
              code := code, counter := (s.port p).counter, data := [] }) ∧
    (∀ n, e.job.records.length ≤ n → exec (.storeWriteCompletion (some n)) s = .fault .noSuchRecord) ∧
    ∀ bad, exec (.storeWriteCompletion bad) { s with store := { s.store with queue := [] } } =
      .next { s with store := { s.store with queue := [] } }

/-! ### Line bus -/

/-- R131 to R133, R139 to R141: what the events of the wire do to the bus state, in the states their rules name (log entry
17): the quiet gap, an ACTIVE level, a lost and a won preamble, the end of the check, an echo mismatch, clamps, and a bus
that becomes STUCK and is restored 500 ms after it was last said to read ACTIVE. R129, R130, R132, R199: what the part's
driver does in each bus state, slot by slot in the preamble and bit by bit in a frame. The start of a clamp's run is log
entry 19's. The records' sources are log entry 14's. -/
def Obligations.BusStatesFollowTheWire : Prop :=
  (∀ (s : State) (e : BusEntry), s.bus.contending = some e →
    (s.bus.state = .preamble →
      s.bus.driver = .levels
        (WireLevel.active ::
          match e.source, e.kind with
          | .hunt, _ => [.active, .active, .passive]
          | .master _, .query => [.passive, .active, .passive]
          | .master _, _ => [.active, .passive, .passive]))) ∧
  (∀ s : State,
    (s.bus.state = .sending ∨ s.bus.state = .acking →
      s.bus.driver = if s.bus.mismatch = none then .levels (s.bus.sent.flatMap characterLevels) else .released) ∧
    (s.bus.state = .clampOut → s.bus.driver = .clamping) ∧
    (s.bus.state ∈ [.gap, .idle, .replyWait, .listening, .clampIn, .stuck] → s.bus.driver = .released)) ∧
  (∀ (c : Byte) (i : Nat), (characterLevels c).length = 10 ∧ (characterLevels c)[0]? = some .active ∧
    (characterLevels c)[9]? = some .passive ∧ framingError (characterLevels c) = false ∧
    (i < 8 → (characterLevels c)[i + 1]? = some (if c.getLsbD i then .passive else .active))) ∧
  (∀ e : BusEntry, (preambleLevels e.priority ++ e.chars.flatMap characterLevels).length =
    if e.kind = .open ∨ e.kind = .close then 64 else 54) ∧
  ∀ s : State, s.powered = true →
    (s.bus.state = .gap → 10 ≤ (s.ms - s.bus.since).toNat →
      (s.bus.queue = [] →
        exec .quietGapEnd s = .next
          (s.setBus { s.bus with state := .idle, since := s.ms, mismatch := none, ackTimer := none, sent := [] })) ∧
      ∀ e rest, s.bus.queue = e :: rest →
        exec .quietGapEnd s = .next
          (s.setBus
            { s.bus with
              state := .preamble, since := s.ms, mismatch := none, ackTimer := none, sent := []
              queue := { e with clampWait := false, phase := .preamble } ::
                rest.map (fun x => { x with clampWait := false }) })) ∧
    (s.bus.state = .gap ∨ s.bus.state = .idle →
      exec .activeSeen s = .next
        (s.setBus { s.bus with state := .listening, since := s.ms, mismatch := none, ackTimer := none, sent := [] })) ∧
    (s.bus.state = .stuck → exec .activeSeen s = .next (s.setBus { s.bus with lastActive := s.ms })) ∧
    (∀ e rest, s.bus.state = .preamble → s.bus.queue = e :: rest → e.phase = .preamble →
        (∀ x ∈ rest, x.phase = .waiting) →
      exec .preambleWon s = .next
        (s.setBus
          { s.bus with
            state := .sending, since := s.ms, mismatch := none, ackTimer := none, sent := e.chars
            queue := { e with phase := .inFlight } :: rest }) ∧
      exec .lostArbitration s = .next
        (s.setBus
          { s.bus with
            state := .listening, since := s.ms, mismatch := none, ackTimer := none, sent := []
            queue := { e with phase := .waiting } :: rest })) ∧
    (s.bus.state = .sending → s.bus.mismatch = none →
      exec .checkSent s = .next
        (s.setBus { s.bus with state := .replyWait, since := s.ms, mismatch := none, ackTimer := none, sent := [] })) ∧
    (s.bus.state = .sending ∨ s.bus.state = .acking → s.bus.mismatch = none →
      exec .echoMismatch s = .next (s.setBus { s.bus with mismatch := some s.ms, sent := [] })) ∧
    (s.clampPossible = true →
      exec .clampSeen s = .next
        (s.setBus
          { s.bus with
            state := .clampIn, since := s.ms, mismatch := none, ackTimer := none, sent := []
            runStart := match s.bus.mismatch with
              | some m => m
              | none => s.ms - 20
            queue := s.bus.queue.map (fun x =>
              { x with clampWait := true, phase := if x.phase = .inFlight then .waiting else x.phase }) })) ∧
    (s.bus.state = .clampIn →
      exec .clampEnd s = .next
        (s.setBus { s.bus with state := .gap, since := s.ms, mismatch := none, ackTimer := none, sent := [] })) ∧
    (s.bus.state = .clampOut → 50 ≤ (s.ms - s.bus.since).toNat →
      ∃ t, exec .clampOutEnd s = .next t ∧ s.changesOnly [.bus, .ports] t ∧
        t.bus =
          { s.bus with state := .gap, since := s.ms, mismatch := none, ackTimer := none, sent := [], resetPorts := [] } ∧
        (∀ p, p ∉ s.bus.resetPorts → t.port p = s.port p) ∧
        ∀ p code, p ∈ s.bus.resetPorts → (s.port p).slot = .inFlight code → (s.port p).orphan = false →
          (t.port p).slot =
            .ready { status := .accepted, code := code, counter := (s.port p).counter, data := [] }) ∧
    (s.bus.state = .clampIn → 100 < (s.ms - s.bus.runStart).toNat →
      ∃ t, exec .linebusStuck s = .next t ∧ t.bus.state = .stuck ∧ t.bus.queue = [] ∧
        t.bus.since = s.ms ∧ t.bus.lastActive = s.ms ∧ t.flagSet .linebus ∧
        ((∀ x ∈ s.bus.queue, x.isHunt = false) → s.changesOnly [.bus, .log, .ports] t) ∧
        t.lastRecord none (.block .lineBusController) s.stamp .linebusStuck) ∧
    (s.bus.state = .stuck → (s.ms - s.bus.lastActive).toNat < 500 → exec .linebusRestored s = .next s) ∧
    (s.bus.state = .stuck → 500 ≤ (s.ms - s.bus.lastActive).toNat →
      ∃ t, exec .linebusRestored s = .next t ∧ s.changesOnly [.bus, .log, .ports] t ∧ t.flagSet .linebus ∧
        t.bus = { s.bus with state := .idle, since := s.ms, mismatch := none, ackTimer := none, sent := [] } ∧
        t.lastRecord none (.block .lineBusController) s.stamp (.linebusRestored (s.ms - s.bus.since).toNat))

/-- R130, R133, R134, R138: the attempt of a master's entry ends: a failure short of the third leaves the entry in its place,
waiting, with its count raised; a third failure and any complete reply complete it. The unit's record takes what a reply
carries and the completion, and the silent mark at NO_REPLY. The hunt engine's own entry ends its attempts so too. R157,
R159, R160, R162: what the engine makes of its completion: in ACTING the block observes or goes to its test, or the hunt ends
UNIT_FAILED, in SECURING the block completes; R167, R169: a stopping hunt ends, and an ended one has its outstanding mark
cleared. R134, R199: how a complete reply is judged, by its framing, its check, its data count and its status; R135: what a
unit's record takes from the bytes a frame carries. The states of the events are log entry 17's, the feeder and source of
UNIT_SILENT log entry 14's, and that a reply of another status than DONE and REFUSED updates the record before its attempt
fails is log entry 23's. -/
def Obligations.AttemptsEndAndComplete : Prop :=
  (∀ (chars : List Byte) (framing : Bool) (st n : Nat), st = (chars.getD 0 0).toNat / 16 →
    n = (chars.getD 0 0).toNat % 4 →
    (framing = true ∨ n = 3 ∨ chars.length ≠ n + 2 ∨ crc8 (chars.take (n + 1)) ≠ chars.getD (n + 1) 0 →
      judgeReply chars framing = { outcome := .checkFail, carried := none }) ∧
    (framing = false → n ≠ 3 → chars.length = n + 2 → crc8 (chars.take (n + 1)) = chars.getD (n + 1) 0 →
      judgeReply chars framing =
        { outcome := if st = 1 then .done else if st = 2 then .refusedByUnit else .checkFail
          carried := some
            { unit := if 1 ≤ n then some (chars.getD 1 0) else none
              condition := if n = 2 then some (chars.getD 2 0) else none } })) ∧
  (∀ (r : UnitRecord) (now : Stamp) (w : UnitWord),
    r.heard now w =
      { r with
        lastContact := some now, silent := false
        switch :=
          match w.unit with
          | some b => if b.toNat % 4 = 1 then .open else if b.toNat % 4 = 2 then .closed else .unknown
          | none => r.switch
        faultPassed :=
          match w.unit with
          | some b => b.getLsbD 4
          | none => r.faultPassed
        localLock :=
          match w.condition with
          | some b => b.getLsbD 0
          | none => r.localLock
        batteryLow :=
          match w.condition with
          | some b => b.getLsbD 1
          | none => r.batteryLow }) ∧
  (∀ (e : BusEntry) (q : Port) (s : State), s.powered = true → s.bus.inFlight = some e → e.source = .master q →
    e.address - 1 < s.bus.units.length →
    (∀ i c, (i = .replyWindowClose ∧ c = .noReply ∧ s.bus.state = .replyWait ∧ 17 ≤ (s.ms - s.bus.since).toNat) ∨
        (i = .replyIncomplete ∧ c = .checkFail ∧ s.bus.state = .replyWait) ∨
        (∃ chars framing, i = .reply chars framing ∧ c = .checkFail ∧ s.bus.state = .replyWait ∧
          judgeReply chars framing = { outcome := .checkFail, carried := none }) ∨
        (i = .echoFail ∧ c = .echoFail ∧ s.bus.state = .sending ∧ s.mismatchWithin = true) →
      (e.attempts + 1 < 3 →
        exec i s = .next
          (s.setBus
            { s.bus with
              state := .gap, since := s.ms, mismatch := none, ackTimer := none, sent := []
              queue := s.bus.queue.replace e { e with attempts := e.attempts + 1, phase := .waiting } })) ∧
      (3 ≤ e.attempts + 1 →
        ∃ t, exec i s = .next t ∧ s.changesOnly [.bus, .log, .ports] t ∧ t.flagSet .linebus ∧
          t.bus =
            { s.bus with
              state := .gap, since := s.ms, mismatch := none, ackTimer := none, sent := [], queue := s.bus.queue.erase e
              units := t.bus.units } ∧
          (∀ a, a - 1 ≠ e.address - 1 → t.unitRecord a = s.unitRecord a) ∧
          t.unitRecord e.address =
            { s.unitRecord e.address with
              silent := if c = CompletionCode.noReply then true else (s.unitRecord e.address).silent
              lastCommand := some { source := e.source, kind := e.kind, code := c, time := s.time } } ∧
          (c = CompletionCode.noReply → (s.unitRecord e.address).silent = false →
            t.lastRecord ((s.unitRecord e.address).place.map UnitPlace.feeder) (.port q) s.stamp
              (.unitSilent e.address (s.unitRecord e.address).place e.source e.kind)) ∧
          (c ≠ CompletionCode.noReply ∨ (s.unitRecord e.address).silent = true → t.log = s.log))) ∧
    (∀ chars framing w c, s.bus.state = .replyWait → judgeReply chars framing = { outcome := c, carried := some w } →
        c = CompletionCode.done ∨ c = CompletionCode.refusedByUnit →
      ∃ t, exec (.reply chars framing) s = .next t ∧ s.changesOnly [.bus, .ports] t ∧ t.flagSet .linebus ∧
        t.bus =
          { s.bus with
            state := .gap, since := s.ms, mismatch := none, ackTimer := none, sent := [], queue := s.bus.queue.erase e
            units := t.bus.units } ∧
        (∀ a, a - 1 ≠ e.address - 1 → t.unitRecord a = s.unitRecord a) ∧
        t.unitRecord e.address =
          { (s.unitRecord e.address).heard s.stamp w with
            lastCommand := some { source := e.source, kind := e.kind, code := c, time := s.time } }) ∧
    (∀ chars framing w (r : UnitRecord), s.bus.state = .replyWait →
        judgeReply chars framing = { outcome := .checkFail, carried := some w } →
        r = (s.unitRecord e.address).heard s.stamp w →
      ∃ t, exec (.reply chars framing) s = .next t ∧ s.changesOnly [.bus, .ports] t ∧
        (∀ a, a - 1 ≠ e.address - 1 → t.unitRecord a = s.unitRecord a) ∧
        (e.attempts + 1 < 3 →
          t.bus =
            { s.bus with
              state := .gap, since := s.ms, mismatch := none, ackTimer := none, sent := []
              queue := s.bus.queue.replace e { e with attempts := e.attempts + 1, phase := .waiting }
              units := t.bus.units } ∧
          t.unitRecord e.address = r) ∧
        (3 ≤ e.attempts + 1 → t.flagSet .linebus ∧
          t.bus =
            { s.bus with
              state := .gap, since := s.ms, mismatch := none, ackTimer := none, sent := [], queue := s.bus.queue.erase e
              units := t.bus.units } ∧
          t.unitRecord e.address =
            { r with
              lastCommand := some { source := e.source, kind := e.kind, code := .checkFail, time := s.time } }))) ∧
  ∀ (e : BusEntry) (f : Feeder) (s : State), s.powered = true → s.bus.inFlight = some e → e.source = .hunt →
    (∀ x ∈ s.bus.queue, x.isHunt = true → x = e) → e.address - 1 < s.bus.units.length → s.hunt.feeder = some f →
    (∀ i, (i = .replyWindowClose ∧ s.bus.state = .replyWait ∧ 17 ≤ (s.ms - s.bus.since).toNat) ∨
        (i = .replyIncomplete ∧ s.bus.state = .replyWait) ∨
        (∃ chars framing, i = .reply chars framing ∧ s.bus.state = .replyWait ∧
          judgeReply chars framing = { outcome := .checkFail, carried := none }) ∨
        (i = .echoFail ∧ s.bus.state = .sending ∧ s.mismatchWithin = true) →
        e.attempts + 1 < 3 →
      (s.hunt.state = .running →
        exec i s = .next
          (s.setBus
            { s.bus with
              state := .gap, since := s.ms, mismatch := none, ackTimer := none, sent := []
              queue := s.bus.queue.replace e { e with attempts := e.attempts + 1, phase := .waiting } })) ∧
      (s.hunt.state = .idle ∨ s.hunt.state = .done →
        exec i s = .next
          ((s.setBus
            { s.bus with
              state := .gap, since := s.ms, mismatch := none, ackTimer := none, sent := []
              queue := s.bus.queue.erase e }).setHunt { s.hunt with outstanding := false })) ∧
      (s.hunt.state = .stopping → s.hunt.awaiting = .unit →
        ∃ t, exec i s = .next t ∧ t.bus.queue = s.bus.queue.erase e ∧ t.hunt.state = .done ∧
          t.hunt.result.map HuntResult.reason = some .aborted ∧ t.flagSet .hunt)) ∧
    (∀ chars framing w, s.bus.state = .replyWait → s.hunt.state = .running → e.attempts + 1 < 3 →
        judgeReply chars framing = { outcome := .checkFail, carried := some w } →
      ∃ t, exec (.reply chars framing) s = .next t ∧ s.changesOnly [.bus, .ports] t ∧
        t.bus.queue = s.bus.queue.replace e { e with attempts := e.attempts + 1, phase := .waiting } ∧
        t.unitRecord e.address = (s.unitRecord e.address).heard s.stamp w) ∧
    ∀ i c,
      (i = .replyWindowClose ∧ c = .noReply ∧ s.bus.state = .replyWait ∧ 17 ≤ (s.ms - s.bus.since).toNat ∧
          3 ≤ e.attempts + 1) ∨
        (i = .replyIncomplete ∧ c = .checkFail ∧ s.bus.state = .replyWait ∧ 3 ≤ e.attempts + 1) ∨
        (i = .echoFail ∧ c = .echoFail ∧ s.bus.state = .sending ∧ s.mismatchWithin = true ∧ 3 ≤ e.attempts + 1) ∨
        (∃ chars framing w, i = .reply chars framing ∧ s.bus.state = .replyWait ∧
          judgeReply chars framing = { outcome := c, carried := w } ∧
          (c = CompletionCode.done ∨ c = CompletionCode.refusedByUnit ∨
            (c = CompletionCode.checkFail ∧ 3 ≤ e.attempts + 1))) →
      ∃ t, exec i s = .next t ∧
        (t.unitRecord e.address).lastCommand = (s.unitRecord e.address).lastCommand ∧
        (c = .noReply → (t.unitRecord e.address).silent = true ∧
          ((s.unitRecord e.address).silent = false → t.flagSet .linebus)) ∧
        (s.hunt.awaiting = .unit → s.hunt.state = .stopping →
          t.bus.queue = s.bus.queue.erase e ∧ t.hunt.state = .done ∧
            t.hunt.result.map HuntResult.reason = some .aborted ∧ t.flagSet .hunt) ∧
        (s.hunt.state = .idle ∨ s.hunt.state = .done →
          t.bus.queue = s.bus.queue.erase e ∧ t.hunt = { s.hunt with outstanding := false }) ∧
        (s.hunt.awaiting = .unit → s.hunt.state = .running →
          (s.hunt.phase = .securing →
            (c = .done → s.nextPauses true →
              s.blockDone f (.block .huntEngine) s.hunt.run.outcome true s.hunt.run.windows s.hunt.run.sefSamples
                [.bus] t) ∧
            (c ≠ .done → t.huntEnded .unitFailed (.unitCode (.completion c)))) ∧
          (s.hunt.phase = .acting → c = .done → s.hunt.pendingDetour = false →
            (1 ≤ s.currentBlock.window →
              t.hunt =
                { s.hunt with
                  phase := .observing, awaiting := .nothing
                  run := { s.hunt.run with outcome := .done, windowTrip := s.hunt.run.heldTrip, heldTrip := false } } ∧
              t.unit f = { s.unit f with window := some (freshWindow s.currentBlock.window) } ∧
              s.changesOnly [.protection, .bus, .hunt, .log, .ports] t) ∧
            ∀ test : Bool, s.currentBlock.window = 0 → s.currentBlock.action ≠ .testCloseUnit →
              s.currentBlock.action ≠ .testCloseBreaker → s.addressAt f s.currentBlock.unit = some e.address →
              test = s.currentBlock.test
                { sefSeen := false, ocSeen := false, trip := false, fpi := (t.unitRecord e.address).faultPassed
                  unitFail := false } →
              s.nextPauses test →
              s.blockDone f (.block .huntEngine) .done test (s.hunt.run.windows + 1) 0 [.bus] t) ∧
          (s.hunt.phase = .acting → c ≠ .done →
            (s.currentBlock.tests.unitFail = false → t.huntEnded .unitFailed (.unitCode (.completion c))) ∧
            ∀ test : Bool, s.currentBlock.tests.unitFail = true → s.hunt.pendingDetour = false →
              test = s.currentBlock.test
                { sefSeen := false, ocSeen := false, trip := s.hunt.run.heldTrip, fpi := false, unitFail := true } →
              test = false ∨
                (s.currentBlock.action ≠ .testCloseUnit ∧ s.currentBlock.action ≠ .testCloseBreaker) →
              s.nextPauses test →
              s.blockDone f (.block .huntEngine) (.unitFail (.completion c)) test s.hunt.run.windows
                s.hunt.run.sefSamples [.bus] t))

/-- R134, R135, R136: while it listens the part takes a REPORT whose check matches, updates the unit's record and prepares
its ACK, which begins 2 ms later with the tick that reaches it (log entry 18); in these 2 ms it hears nothing else.
Anything else heard leads to the quiet gap, as the end of a frame heard and of its own ACK do. The LINEBUS flag is set by
the four changes of R135 and by a switch that moved without a command for it, and by nothing else. R168, R167: such a move
of a unit of the feeder of a hunt ends the hunt, or is noted in STOPPING, where one flag notes it (log entry 36). A REPORT of
another length, destination, source or kind is discarded as one whose check does not match (log entry 24 for the length),
and a REPORT taken gives its source and its two bytes (R199), which the record takes as R135 says. What is a move and what
explains it is R136's. -/
def Obligations.ReportsUpdateUnits : Prop :=
  (∀ (chars : List Byte) (framing : Bool) (r : ReportTaken), judgeReport chars framing = some r ↔
    framing = false ∧ chars.length = 7 ∧ crc8 (chars.take 6) = chars.getD 6 0 ∧
      (chars.getD 0 0 = 0x10 ∨ chars.getD 0 0 = 0x11 ∨ chars.getD 0 0 = 0x12 ∨ chars.getD 0 0 = 0x13) ∧
      (chars.getD 1 0).toNat % 32 = 0 ∧ (chars.getD 2 0).toNat % 32 ≠ 0 ∧ chars.getD 3 0 = 2 ∧
      r = { source := (chars.getD 2 0).toNat % 32, unit := chars.getD 4 0, condition := chars.getD 5 0 }) ∧
  (∀ (r : UnitRecord) (now : Stamp) (u c : Byte),
    r.heard now { unit := some u, condition := some c } =
      { r with
        lastContact := some now, silent := false
        switch := if u.toNat % 4 = 1 then .open else if u.toNat % 4 = 2 then .closed else .unknown
        faultPassed := u.getLsbD 4, localLock := c.getLsbD 0, batteryLow := c.getLsbD 1 }) ∧
  (∀ (old new : SwitchState) (e : BusEntry) (a : Nat),
    (isMove old new = true ↔ old ≠ .unknown ∧ new ≠ .unknown ∧ old ≠ new) ∧
    (e.explains a new = true ↔
      e.address = a ∧ ((e.kind = .open ∧ new = .open) ∨ (e.kind = .close ∧ new = .closed)))) ∧
  ∀ s : State, s.powered = true →
    (∀ chars framing, s.bus.state = .listening → s.bus.ackTimer = none → judgeReport chars framing = none →
      exec (.report chars framing) s = .next
        (s.setBus { s.bus with state := .gap, since := s.ms, mismatch := none, ackTimer := none, sent := [] })) ∧
    (∀ chars framing (r : ReportTaken) (old new : UnitRecord), s.bus.state = .listening → s.bus.ackTimer = none →
        judgeReport chars framing = some r → r.source - 1 < s.bus.units.length → old = s.unitRecord r.source →
        new = old.heard s.stamp { unit := some r.unit, condition := some r.condition } →
      ∃ t, exec (.report chars framing) s = .next t ∧ t.unitRecord r.source = new ∧
        (∀ a, a - 1 ≠ r.source - 1 → t.unitRecord a = s.unitRecord a) ∧
        ((old.faultPassed = false ∧ new.faultPassed = true) ∨ ¬ (old.health = .localLock ↔ new.health = .localLock) ∨
            (old.batteryLow = false ∧ new.batteryLow = true) ∨ old.silent = true → t.flagSet .linebus) ∧
        (isMove old.switch (switchOf r.unit) = true →
            (∀ x ∈ s.bus.queue, x.explains r.source (switchOf r.unit) = false) →
          t.flagSet .linebus ∧
          ∀ x, old.place = some x → s.hunt.feeder = some x.feeder →
            (s.hunt.state = .running ∨ s.hunt.state = .paused →
              t.hunt.state = .done ∧ t.hunt.result.map HuntResult.reason = some .interfered ∧
                t.hunt.result.map HuntResult.detail = some (.interference (.unit x.index))) ∧
            (s.hunt.state = .stopping →
              t.hunt = { s.hunt with notes := { s.hunt.notes with unitReport := true } })) ∧
        (isMove old.switch (switchOf r.unit) = false ∨
            (∃ x ∈ s.bus.queue, x.explains r.source (switchOf r.unit) = true) →
          t.hunt = s.hunt ∧
          (¬ (old.faultPassed = false ∧ new.faultPassed = true) → (old.health = .localLock ↔ new.health = .localLock) →
              ¬ (old.batteryLow = false ∧ new.batteryLow = true) → old.silent = false →
            t.ports = s.ports)) ∧
        ((∀ f, s.huntOn f = false) →
          s.changesOnly [.bus, .ports] t ∧
          t.bus = { s.bus with ackTimer := some { start := s.ms, length := 2 }, units := t.bus.units })) ∧
    (s.bus.state = .listening → s.bus.ackTimer = none →
      exec .heardFrameEnd s = .next
        (s.setBus { s.bus with state := .gap, since := s.ms, mismatch := none, ackTimer := none, sent := [] })) ∧
    (s.bus.state = .listening → s.bus.ackTimer ≠ none →
      exec .heardFrameEnd s = .next s ∧ ∀ chars framing, exec (.report chars framing) s = .next s) ∧
    (s.bus.state = .acking → s.bus.mismatch = none →
      exec .ackSent s = .next
        (s.setBus { s.bus with state := .gap, since := s.ms, mismatch := none, ackTimer := none, sent := [] }))

/-- R131, R137, R140, R145, R146: what the masters ask of the line bus: a command refused by the tests in their order or
queued behind the entries of its own or a higher priority, which from IDLE starts the part's preamble, an isolation cleared,
a reset that clears the queue and clamps (log entries 16 and 21; log entry 68 for the clamp wait of an entry that joins in
CLAMP_IN). -/
def Obligations.MastersCommandTheLineBus : Prop :=
  ∀ (p : Port) (fr : Frame) (s : State),
    (∀ a k, s.controlTaken p 0x17 fr → grantUnitCommand s.key fr.payload p = true → fr.payload.length = 2 →
        a = byteAt fr.payload 0 → unitCommandOf (byteAt fr.payload 1) = some k → 1 ≤ a → a ≤ 31 →
      (s.bus.state = .stuck → exec (.unitCommand p fr) s = .next (s.controlAnswered p 0x17 fr .busStuck [])) ∧
      (s.bus.state ≠ .stuck →
        (k = .open ∨ k = .close → s.underHunt a = true →
          exec (.unitCommand p fr) s = .next (s.controlAnswered p 0x17 fr .huntActive [])) ∧
        (s.underHunt a = false ∨ k = .query ∨ k = .clearIndication →
          (k = .close → (s.unitRecord a).isolated = true →
            exec (.unitCommand p fr) s = .next (s.controlAnswered p 0x17 fr .isolated [])) ∧
          (k ≠ .close ∨ (s.unitRecord a).isolated = false →
            (7 ≤ masterEntries s.bus.queue →
              exec (.unitCommand p fr) s = .next (s.controlAnswered p 0x17 fr .full [])) ∧
            (masterEntries s.bus.queue < 7 → s.bus.state ≠ .idle → ∀ n : Nat,
              n = s.bus.queue.countP (fun x => decide (x.priority ≤ if k = .query then 5 else 3)) →
              exec (.unitCommand p fr) s = .next
                ((s.controlAnswered p 0x17 fr .queued [BitVec.ofNat 8 n]).setBus
                  { s.bus with
                    queue := busInsert
                      { source := .master p, address := a, kind := k, attempts := 0, queuedAt := s.ms
                        clampWait := false, phase := .waiting }
                      s.bus.queue })) ∧
            (s.bus.state = .idle → s.bus.queue = [] →
              exec (.unitCommand p fr) s = .next
                ((s.controlAnswered p 0x17 fr .queued [0]).setBus
                  { s.bus with
                    state := .preamble, since := s.ms, mismatch := none, ackTimer := none, sent := []
                    queue :=
                      [{ source := .master p, address := a, kind := k, attempts := 0, queuedAt := s.ms
                         clampWait := false, phase := .preamble }] })))))) ∧
    (∀ a, s.controlTaken p 0x19 fr → p ≠ .panel → fr.payload.length = 1 → a = byteAt fr.payload 0 → 1 ≤ a → a ≤ 31 →
        s.bus.units.length = 31 →
      ((s.unitRecord a).isolated = false →
        exec (.clearIsolation p fr) s = .next (s.controlAnswered p 0x19 fr .notFound [])) ∧
      ((s.unitRecord a).isolated = true → s.StoreLaw →
        ∃ t, exec (.clearIsolation p fr) s = .next t ∧ s.changesOnly [.bus, .store, .ports] t ∧
          t.bus = { s.bus with units := t.bus.units, pendingMark := t.bus.pendingMark } ∧
          t.unitRecord a = { s.unitRecord a with isolated := false } ∧
          (∀ b, b - 1 ≠ a - 1 → t.unitRecord b = s.unitRecord b) ∧ t.flagSet .linebus ∧
          t.answerAt p = some (if s.store.fault = none then .cleared else .acceptedVolatile, []))) ∧
    (s.controlTaken p 0x1A fr → p ≠ .panel → fr.payload = [] →
      (s.bus.state = .stuck → exec (.linebusReset p fr) s = .next (s.controlAnswered p 0x1A fr .busStuck [])) ∧
      (s.bus.state ≠ .stuck → (∀ x ∈ s.bus.queue, x.isHunt = false) →
        ∃ t, exec (.linebusReset p fr) s = .next t ∧ s.changesOnly [.bus, .ports] t ∧ t.bus.state = .clampOut ∧
          t.bus.queue = [] ∧ t.bus.lists = s.bus.lists ∧ t.bus.resetPorts = s.bus.resetPorts ++ [p] ∧
          (t.port p).slot = .inFlight 0x1A ∧
          (s.bus.queue ≠ [] → t.flagSet .linebus)))

/-! ### Earth-fault hunting -/

/-- R153 to R155, R100, R84: START-HUNT: the refusals in their order; an accepted one runs the engine from its first block,
and answers; with a WAIT block first it is then observing on that block with the HUNT entry placed, the sequencer parked and
the freeze mark set. The index in a STRUCTURE or UNIT_RANGE refusal is one byte (log entry 16). The record's source is log
entry 14's. R154: what the walk reaches, and what the structure check and the feeder check find, the lowest index that fails.
R149, R159, R160, R162: the report of a closed window: a test by the block's sense; the next window of a TEST action, the
block's completion, or SECURING, which opens what a TEST action closed. That an FPI test of a RETURN or END is no structure
fault is log entry 48's, and the clamp wait of the entry that SECURING offers in CLAMP_IN log entry 68's. -/
def Obligations.StartHuntBegins : Prop :=
  (∀ (m : List HuntBlock) (first : List Nat), m.length ≤ 255 → first.length ≤ 2 →
    (reachable m first).Pairwise (· < ·) ∧
    ∀ i, i ∈ reachable m first ↔ 1 ≤ i ∧ i ≤ 255 ∧ HuntReaches m first i) ∧
  (∀ (main side : List Nat) (s : State), s.hunt.memory.length ≤ 255 → main.length ≤ 2 → side.length ≤ 2 →
    (∀ i, s.structureFault main side = some i ↔
      s.failsStructure main side i ∧ ∀ j, j < i → ¬ s.failsStructure main side j) ∧
    (s.structureFault main side = none ↔ ∀ i, ¬ s.failsStructure main side i) ∧
    ∀ f : Feeder,
      (∀ i, s.rangeFault f main = some i ↔ s.failsRange f main i ∧ ∀ j, j < i → ¬ s.failsRange f main j) ∧
      (s.rangeFault f main = none ↔ ∀ i, ¬ s.failsRange f main i)) ∧
  (∀ (b : HuntBlock) (c : Conditions) (any : Prop),
    any = ((b.tests.sefSeen = true ∧ c.sefSeen = true) ∨ (b.tests.ocSeen = true ∧ c.ocSeen = true) ∨
      (b.tests.trip = true ∧ c.trip = true) ∨ (b.tests.fpi = true ∧ c.fpi = true) ∨
      (b.tests.unitFail = true ∧ c.unitFail = true)) →
    (b.senseNone = false → (b.test c = true ↔ any)) ∧ (b.senseNone = true → (b.test c = true ↔ ¬ any))) ∧
  (∀ (f : Feeder) (w : WindowReport) (b : HuntBlock) (test : Bool) (s : State), s.hunt.feeder = some f →
    s.hunt.state = .running → s.hunt.phase = .observing → b = s.currentBlock →
    test = b.test
      { sefSeen := decide (w.quorum ≤ w.sefSamples), ocSeen := decide (1 ≤ w.pickupSamples)
        trip := s.hunt.run.windowTrip
        fpi := ((s.addressAt f b.unit).map s.unitRecord).any UnitRecord.faultPassed, unitFail := false } →
    (b.action ≠ .testCloseUnit → b.action ≠ .testCloseBreaker → s.nextPauses test →
      s.blockDone f (.block .huntEngine) s.hunt.run.outcome test (s.hunt.run.windows + 1) w.sefSamples []
        (s.huntWindowReport f w)) ∧
    (b.action = .testCloseUnit ∨ b.action = .testCloseBreaker →
      (test = false → s.hunt.run.windows + 1 < (if b.repeats = 0 then 8 else b.repeats) → 1 ≤ b.window →
        s.huntWindowReport f w =
          (s.setHunt
            { s.hunt with
              awaiting := .nothing
              run := { s.hunt.run with
                windows := s.hunt.run.windows + 1, sefSamples := w.sefSamples
                windowTrip := s.hunt.run.heldTrip, heldTrip := false } }).setUnit f
            { s.unit f with window := some (freshWindow b.window) }) ∧
      (test = false → (if b.repeats = 0 then 8 else b.repeats) ≤ s.hunt.run.windows + 1 → s.nextPauses false →
        s.blockDone f (.block .huntEngine) s.hunt.run.outcome false (s.hunt.run.windows + 1) w.sefSamples []
          (s.huntWindowReport f w)) ∧
      (test = true → s.nextPauses true →
          (b.action = .testCloseUnit ∧
            ((s.addressAt f b.unit).map s.unitRecord).map UnitRecord.switch = some .open) ∨
          (b.action = .testCloseBreaker ∧ (s.breaker f).stableClosed = false) →
        s.blockDone f (.block .huntEngine) s.hunt.run.outcome true (s.hunt.run.windows + 1) w.sefSamples []
          (s.huntWindowReport f w)) ∧
      ∀ a : Awaiting → Hunt,
        (∀ x, a x =
          { s.hunt with
            phase := .securing, awaiting := x
            run := { s.hunt.run with
              windows := s.hunt.run.windows + 1, sefSamples := w.sefSamples, windowTrip := false } }) →
        (∀ n, test = true → b.action = .testCloseUnit → s.addressAt f b.unit = some n →
            (s.unitRecord n).switch ≠ .open → s.bus.huntEntry = none → s.bus.state ≠ .stuck → s.bus.state ≠ .idle →
          s.huntWindowReport f w =
            (s.setHunt (a .unit)).setBus
              { s.bus with
                queue := busInsert
                  { source := .hunt, address := n, kind := .open, attempts := 0, queuedAt := s.ms
                    clampWait := false, phase := .waiting }
                  s.bus.queue }) ∧
        (test = true → b.action = .testCloseBreaker → (s.breaker f).stableClosed = true →
            (s.breaker f).slot = .empty →
          s.huntWindowReport f w =
            (s.setHunt (a .trip)).setBreaker f
              { s.breaker f with
                slot := .trip (s.newTrip f { purpose := .hunt, requester := .hunt, cause := none } none) }))) ∧
  ∀ (p : Port) (f : Feeder) (m : Bool) (first detour : Nat) (fr : Frame) (s : State), s.controlTaken p 0x1E fr →
    grantHunt s.key p = true → fr.payload.length = 4 → feederOf (byteAt fr.payload 0) = some f →
    first = byteAt fr.payload 1 → detour = byteAt fr.payload 2 → stepModeOf (byteAt fr.payload 3) = some m → first ≠ 0 →
    (s.hunt.busy = true → exec (.startHunt p fr) s = .next (s.controlAnswered p 0x1E fr .busy [])) ∧
    (s.hunt.busy = false →
      (s.startRefused f = true → exec (.startHunt p fr) s = .next (s.controlAnswered p 0x1E fr .state [])) ∧
      (s.startRefused f = false →
        (∀ b, s.structureFault [first] [detour] = some b →
          exec (.startHunt p fr) s = .next (s.controlAnswered p 0x1E fr .structure [BitVec.ofNat 8 b])) ∧
        (s.structureFault [first] [detour] = none →
          (∀ b, s.rangeFault f [first, detour] = some b →
            exec (.startHunt p fr) s = .next (s.controlAnswered p 0x1E fr .unitRange [BitVec.ofNat 8 b])) ∧
          (s.rangeFault f [first, detour] = none →
            ∃ t, exec (.startHunt p fr) s = .next t ∧ t.hunt.feeder = some f ∧ t.responseAt p ≠ none ∧
              ((s.huntBlock first).action = .wait → 1 ≤ (s.huntBlock first).window →
                (s.holdTable f).list.all (fun h => h.owner != .hunt) = true →
                s.changesOnly [.protection, .sequencers, .holds, .hunt, .log, .ports] t ∧ s.feederOnly f t ∧
                t.hunt.memory = s.hunt.memory ∧ t.hunt.state = .running ∧ t.hunt.phase = .observing ∧
                t.hunt.current = first ∧ t.hunt.steps = 0 ∧ t.hunt.trace = [] ∧ t.hunt.lockSet = reachable s.hunt.memory [first, detour] ∧
                t.hunt.detourFirst = detour ∧ t.hunt.stepMode = m ∧ t.hunt.started = s.time ∧
                (t.unit f).window =
                  some { length := (s.huntBlock first).window, samples := 0, sefSamples := 0, pickupSamples := 0 } ∧
                (t.unit f).base.frozen = true ∧ (t.sequencer f).state = .hunt ∧ (t.sequencer f).shots = 0 ∧
                (t.holdTable f).list = (s.holdTable f).list ++
                  [{ owner := .hunt, kind := .reclose, tag := 0, reason := 0, expiry := none, stamp := s.stamp }] ∧
                t.flagSet .hunt ∧ t.answerAt p = some (.accepted, []) ∧
                t.lastRecord (some f) (.port p) s.stamp
                  (.huntStart first detour m (reachable s.hunt.memory [first, detour]).length p))))))

/-- R156, R164, R166, R167, R169, R170: what the masters and the pause timer do to a hunt. Without a hunt the requests are
refused STATE. An insertion: refused BUSY, STRUCTURE or UNIT_RANGE, pending while RUNNING, taken at once while PAUSED. The
step mode, which set off begins the waiting block of a step pause, as HUNT-CONTINUE does. R156, R157, R158, R161, R162, R165:
what the beginning of that block does, by its action: the line bus entry offered, or the failure of one that is not; the trip
and the close of the breaker; the pause of a close that is not permitted; MARK, RETURN, END, and the step budget. R59, R158,
R163, R167: a close request is taken in the event in which the engine sends it or, as the free value of log entry 63 has it,
stands until the next millisecond, and what the engine makes then of the pulse begun or of each refusal. An abort: at once,
with an entry withdrawn, or STOPPING while something is in flight. The pause timeout. An end removes the HUNT entry and
leaves the engine DONE with its result record. A pause timer that does not run or is not due expires not (log entry 2). A
record that a port's request causes has that port for its source (log entry 14), a trip joined keeps a requester once (log
entry 43), the entry offered in CLAMP_IN has no clamp wait (log entry 68), and the trace of RETURN and END carries the test
result false (log entry 59). -/
def Obligations.HuntRequestsAndTimeout : Prop :=
  (∀ (p : Port) (fr : Frame) (s : State), s.powered = true → s.hunt.feeder = none →
    (s.controlTaken p 0x1F fr → grantHunt s.key p = true → fr.payload.length = 1 → byteAt fr.payload 0 ≠ 0 →
      exec (.huntInsert p fr) s = .next (s.controlAnswered p 0x1F fr .state [])) ∧
    (∀ m, s.controlTaken p 0x21 fr → grantHunt s.key p = true → fr.payload.length = 1 →
        stepModeOf (byteAt fr.payload 0) = some m →
      exec (.huntStepMode p fr) s = .next (s.controlAnswered p 0x21 fr .state [])) ∧
    (s.controlTaken p 0x20 fr → grantHunt s.key p = true → fr.payload = [] →
      exec (.huntContinue p fr) s = .next (s.controlAnswered p 0x20 fr .state [])) ∧
    (s.controlTaken p 0x22 fr → fr.payload = [] →
      exec (.huntAbort p fr) s = .next (s.controlAnswered p 0x22 fr .state [])) ∧
    exec .pauseTimeout s = .next s) ∧
  (∀ (p : Port) (f : Feeder) (fr : Frame) (a : State) (b : HuntBlock) (s : State), s.hunt.feeder = some f →
    s.controlTaken p 0x20 fr → grantHunt s.key p = true → fr.payload = [] → s.hunt.stepPaused = true →
    a = s.controlAnswered p 0x20 fr .accepted [] → b = s.currentBlock →
    (64 ≤ s.hunt.steps →
      ∃ t, exec (.huntContinue p fr) s = .next t ∧ t.huntEnded .stepLimit (.block s.hunt.current) ∧
        t.hunt.trace = s.hunt.trace) ∧
    (s.hunt.steps < 64 →
      (1 ≤ b.window → s.hunt.pendingDetour = false →
          (b.action = .openBreaker ∧ (s.breaker f).slot = .empty ∧ (s.breaker f).stableClosed = false) ∨
            ((b.action = .closeBreaker ∨ b.action = .testCloseBreaker) ∧ s.huntMayClose f ∧
              (s.breaker f).stableClosed = true) →
        exec (.huntContinue p fr) s = .next
          ((a.setHunt s.hunt.observing).setUnit f { s.unit f with window := some (freshWindow b.window) })) ∧
      (∀ (k : UnitCommandKind) (n : Nat),
          (b.action = .openUnit ∧ k = .open) ∨
            ((b.action = .closeUnit ∨ b.action = .testCloseUnit) ∧ k = .close ∧ s.huntMayClose f) →
          s.addressAt f b.unit = some n →
        (k = .open ∨ (s.unitRecord n).isolated = false → s.bus.huntEntry = none →
          (s.bus.state ≠ .stuck → s.bus.state ≠ .idle →
            exec (.huntContinue p fr) s = .next
              ((a.setHunt (s.hunt.acting .unit)).setBus
                { s.bus with
                  queue := busInsert
                    { source := .hunt, address := n, kind := k, attempts := 0, queuedAt := s.ms
                      clampWait := false, phase := .waiting }
                    s.bus.queue })) ∧
          (s.bus.state = .idle → s.bus.queue = [] →
            exec (.huntContinue p fr) s = .next
              ((a.setHunt (s.hunt.acting .unit)).setBus
                { s.bus with
                  state := .preamble, since := s.ms, mismatch := none, ackTimer := none, sent := []
                  queue :=
                    [{ source := .hunt, address := n, kind := k, attempts := 0, queuedAt := s.ms
                       clampWait := false, phase := .preamble }] }))) ∧
        ∀ c : FailCode,
          (k = .close ∧ (s.unitRecord n).isolated = true ∧ c = .isolated) ∨
            ((k = .open ∨ (s.unitRecord n).isolated = false) ∧ s.bus.huntEntry = none ∧ s.bus.state = .stuck ∧
              c = .completion .busStuck) →
          ∃ t, exec (.huntContinue p fr) s = .next t ∧
            (b.tests.unitFail = false → t.huntEnded .unitFailed (.unitCode c)) ∧
            ∀ test : Bool, b.tests.unitFail = true → s.hunt.pendingDetour = false →
              test = b.test { sefSeen := false, ocSeen := false, trip := false, fpi := false, unitFail := true } →
              test = false ∨ b.action ≠ .testCloseUnit → s.nextPauses test →
              ∃ u, u = s.setHunt (s.hunt.acting .nothing) ∧
                u.blockDone f (.port p) (.unitFail c) test 0 0 [] t) ∧
      (b.action = .openBreaker →
        ((s.breaker f).slot = .empty → (s.breaker f).stableClosed = true →
          exec (.huntContinue p fr) s = .next
            ((a.setHunt (s.hunt.acting .trip)).setBreaker f
              { s.breaker f with
                slot := .trip (s.newTrip f { purpose := .hunt, requester := .hunt, cause := none } none) })) ∧
        (∀ op : TripOp, (s.breaker f).slot = .trip op →
          (op.phase ≠ .failPulse →
            exec (.huntContinue p fr) s = .next
              ((a.setHunt (s.hunt.acting .trip)).setBreaker f
                { s.breaker f with
                  slot := .trip (op.join { purpose := .hunt, requester := .hunt, cause := none }) })) ∧
          (op.phase = .failPulse →
            ∃ t, exec (.huntContinue p fr) s = .next t ∧
              t.huntEnded .breakerFailed (.breakerAnswer .breakerFail) ∧
              (hasOwner (s.holdTable f).list .hunt = true → (t.sequencer f).state = .failed))) ∧
        (∀ (op : CloseOp) (q : Port) (code : Byte), (s.breaker f).slot = .close op → op.requester = .master q →
            op.purpose = .remote ∨ op.purpose = .localClose → q ≠ p → (s.port q).slot = .inFlight code →
            (s.port q).orphan = false →
          ∃ t, exec (.huntContinue p fr) s = .next t ∧ t.hunt = s.hunt.acting .trip ∧
            (t.breaker f).slot =
              .trip
                (s.newTrip f { purpose := .hunt, requester := .hunt, cause := none }
                  (some { purpose := op.purpose, requester := op.requester })) ∧
            (t.port q).slot = .ready { status := .cut, code := code, counter := (s.port q).counter, data := [] } ∧
            s.changesOnly [.breakers, .sequencers, .hunt, .ports] t)) ∧
      (b.action = .closeBreaker ∨ b.action = .testCloseBreaker → s.huntMayClose f →
          (s.breaker f).stableClosed = false →
        ∀ u : State,
          u = (a.setHunt { s.hunt.acting .ask with asks := s.hunt.asks + 1 }).setBreaker f
            { s.breaker f with huntAsk := true } →
          ((s.breaker f).slot = .empty →
            exec (.huntContinue p fr) s = .next
              (if Config.takesHuntClose s.hunt.asks then
                (a.setHunt { s.hunt.acting .close with asks := s.hunt.asks + 1 }).setBreaker f
                  { s.breaker f with slot := .close (s.newClose f .hunt .hunt), huntAsk := false }
              else u)) ∧
          ((s.breaker f).slot ≠ .empty → s.hunt.pendingDetour = false →
            ∃ t, exec (.huntContinue p fr) s = .next t ∧
              (if Config.takesHuntClose s.hunt.asks then t.huntEnded .interfered (.interference .breaker)
              else t = u))) ∧
      (∀ r : PauseReason,
          b.action ∈ [.closeUnit, .testCloseUnit, .closeBreaker, .testCloseBreaker] →
          (r = .fire ∧ (s.effective f).huntCloses = false) ∨
            (r = .hold ∧ (s.effective f).huntCloses = true ∧
              ∃ h ∈ (s.holdTable f).list, ClosePurpose.hunt.ceiling ≤ h.kind.severity) →
        ∃ t, exec (.huntContinue p fr) s = .next t ∧ t.hunt = s.hunt.pausedBefore r s.hunt.current s.ms ∧
          s.changesOnly [.hunt, .log, .ports] t ∧ t.flagSet .hunt ∧
          t.lastRecord (some f) (.port p) s.stamp (.huntPaused s.hunt.current r)) ∧
      (∀ (n : Nat) (test : Bool), b.action = .mark → s.addressAt f b.unit = some n → n - 1 < s.bus.units.length →
          s.StoreLaw →
          test = b.test { sefSeen := false, ocSeen := false, trip := false, fpi := false, unitFail := false } →
          s.nextPauses test →
        ∃ t u, exec (.huntContinue p fr) s = .next t ∧
          u = s.setHunt
            { s.hunt.acting .nothing with
              faulty := if ∃ x ∈ s.hunt.faulty, x.address = n then s.hunt.faulty
                else s.hunt.faulty ++ [{ address := n, index := b.unit }] } ∧
          u.blockDone f (.port p) .done test 0 0 [.bus, .store] t ∧
          t.unitRecord n = { s.unitRecord n with isolated := true } ∧
          (∀ x, x - 1 ≠ n - 1 → t.unitRecord x = s.unitRecord x) ∧
          ((s.unitRecord n).isolated = false → t.flagSet .linebus ∧
            (s.store.fault = none → s.bus.pendingMark = false →
              ∃ x ∈ t.store.queue, ∃ taken, x.job = .internal .isolation taken))) ∧
      (∀ r : TraceRecord,
          r = { block := s.hunt.current, action := b.action, outcome := .done, test := false, windows := 0
                sefSamples := 0, securingTrip := false, insertionDropped := false, time := s.time } →
        (b.action = .finish ∨
            (b.action = .ret ∧ (s.hunt.returnSlot = none ∨
              (s.hunt.pendingDetour = false ∧ s.hunt.insertion = none ∧
                s.hunt.returnSlot.map ReturnSlot.block = some 0))) →
          ∃ t, exec (.huntContinue p fr) s = .next t ∧ t.huntEnded .finished .none ∧
            t.hunt.trace = s.hunt.trace ++ [r]) ∧
        ∀ x : ReturnSlot, b.action = .ret → s.hunt.returnSlot = some x → x.block ≠ 0 →
            s.hunt.pendingDetour = false → s.hunt.insertion = none → s.hunt.stepMode = true →
          exec (.huntContinue p fr) s = .next
            (a.setHunt
              { (s.hunt.traced r).pausedBefore .step x.block s.ms with returnSlot := none })))) ∧
  (∀ (f : Feeder) (s c : State), s.powered = true → (∀ g, (s.breaker g).huntAsk = decide (g = f)) →
      s.bus.state ≠ .listening ∨ timerDue (s.ms + 1) s.bus.ackTimer = false →
      c = { s.setBreaker f { s.breaker f with huntAsk := false } with
        ms := s.ms + 1
        time := if s.time.ms + 1 < 86400000 then { day := s.time.day, ms := s.time.ms + 1 }
          else { day := s.time.day + 1, ms := 0 } } →
    ((s.breaker f).slot = .empty → (s.breaker f).stableClosed = false →
        (∀ h ∈ (s.holdTable f).list, h.kind.severity < ClosePurpose.hunt.ceiling) →
      ∀ d : State, d = c.setBreaker f { c.breaker f with slot := .close (c.newClose f .hunt .hunt) } →
        (s.hunt.feeder = some f → s.hunt.awaiting = .ask →
          exec .millisecondTick s = .next (d.setHunt { s.hunt with awaiting := .close })) ∧
        (s.hunt.feeder ≠ some f ∨ s.hunt.awaiting ≠ .ask → exec .millisecondTick s = .next d)) ∧
    ((s.breaker f).slot ≠ .empty ∨ (s.breaker f).stableClosed = true ∨
        (∃ h ∈ (s.holdTable f).list, ClosePurpose.hunt.ceiling ≤ h.kind.severity) →
      s.hunt.feeder ≠ some f ∨ s.hunt.awaiting ≠ .ask → exec .millisecondTick s = .next c) ∧
    (s.hunt.feeder = some f → s.hunt.awaiting = .ask →
      ((s.breaker f).slot ≠ .empty ∨ (s.breaker f).stableClosed = true ∨
          (∃ h ∈ (s.holdTable f).list, ClosePurpose.hunt.ceiling ≤ h.kind.severity) →
        s.hunt.state = .stopping →
        ∃ t, exec .millisecondTick s = .next t ∧ t.hunt.state = .done ∧
          t.hunt.result.map HuntResult.reason = some .aborted ∧ t.flagSet .hunt) ∧
      (s.hunt.state = .running →
        ((s.breaker f).slot = .empty → (s.breaker f).stableClosed = false →
            (∃ h ∈ (s.holdTable f).list, ClosePurpose.hunt.ceiling ≤ h.kind.severity) →
          ∃ t, exec .millisecondTick s = .next t ∧ c.changesOnly [.hunt, .log, .ports] t ∧ t.flagSet .hunt ∧
            t.hunt =
              { s.hunt with
                state := .paused, pauseReason := .hold, pauseTimer := some { start := s.ms + 1, length := 1800000 }
                phase := .acting, awaiting := .nothing
                run := { outcome := .done, windows := 0, sefSamples := 0, windowTrip := false,
                         heldTrip := s.hunt.run.heldTrip, securingTrip := false } } ∧
            t.lastRecord (some f) (.block .huntEngine) c.stamp (.huntPaused s.hunt.current .hold)) ∧
        ((s.breaker f).slot ≠ .empty → s.hunt.run.heldTrip = false → s.hunt.pendingDetour = false →
          ∃ t, exec .millisecondTick s = .next t ∧ t.huntEnded .interfered (.interference .breaker)) ∧
        (∀ o : BlockOutcome,
            ((s.breaker f).slot ≠ .empty ∧ (s.hunt.run.heldTrip = true ∨ s.hunt.pendingDetour = true) ∧ o = .cut) ∨
              ((s.breaker f).slot = .empty ∧ (s.breaker f).stableClosed = true ∧ o = .done) →
          (s.hunt.pendingDetour = false → 1 ≤ s.currentBlock.window →
            exec .millisecondTick s = .next
              ((c.setHunt
                { s.hunt with
                  phase := .observing, awaiting := .nothing
                  run := { s.hunt.run with
                    outcome := o, windowTrip := s.hunt.run.heldTrip, heldTrip := false } }).setUnit f
                { s.unit f with window := some (freshWindow s.currentBlock.window) })) ∧
          ∀ r : TraceRecord,
            r = { block := s.hunt.current, action := s.currentBlock.action, outcome := .detour
                  test := s.currentBlock.test
                    { sefSeen := false, ocSeen := false, trip := true, fpi := false, unitFail := false }
                  windows := s.hunt.run.windows, sefSamples := s.hunt.run.sefSamples
                  securingTrip := s.hunt.run.securingTrip, insertionDropped := s.hunt.insertion.isSome
                  time := c.time } →
            s.hunt.pendingDetour = true → s.hunt.detourFirst ≠ 0 → s.hunt.returnSlot = none →
              s.hunt.stepMode = true →
            ∃ t, exec .millisecondTick s = .next t ∧
              c.changesOnly [.protection, .hunt, .log, .ports] t ∧
              t.hunt =
                { (s.hunt.traced r).pausedBefore .step s.hunt.detourFirst (s.ms + 1) with
                  pendingDetour := false, insertion := none
                  returnSlot := some { block := s.currentBlock.next r.test, kind := .detour } })))) ∧
  ∀ (p : Port) (f : Feeder) (fr : Frame) (s : State), s.powered = true → s.hunt.feeder = some f →
    (∀ first, s.controlTaken p 0x1F fr → grantHunt s.key p = true → fr.payload.length = 1 →
        first = byteAt fr.payload 0 → first ≠ 0 →
      (s.huntAlive f = false → exec (.huntInsert p fr) s = .next (s.controlAnswered p 0x1F fr .state [])) ∧
      (s.hunt.state = .running ∨ s.hunt.state = .paused →
        (s.hunt.returnSlot ≠ none ∨ s.hunt.insertion ≠ none →
          exec (.huntInsert p fr) s = .next (s.controlAnswered p 0x1F fr .busy [])) ∧
        (s.hunt.returnSlot = none → s.hunt.insertion = none →
          (∀ b, s.structureFault [] [first] = some b →
            exec (.huntInsert p fr) s = .next (s.controlAnswered p 0x1F fr .structure [BitVec.ofNat 8 b])) ∧
          (∀ b, s.structureFault [] [first] = none → s.rangeFault f [first] = some b →
            exec (.huntInsert p fr) s = .next (s.controlAnswered p 0x1F fr .unitRange [BitVec.ofNat 8 b])) ∧
          (s.structureFault [] [first] = none → s.rangeFault f [first] = none →
            ∀ (a : State) (h : Hunt), a = s.controlAnswered p 0x1F fr .accepted [] →
              h = { s.hunt with lockSet := joinLocks s.hunt.lockSet (reachable s.hunt.memory [first]) } →
            (s.hunt.state = .running →
              exec (.huntInsert p fr) s = .next (a.setHunt { h with insertion := some first })) ∧
            (s.hunt.state = .paused → s.hunt.pauseReason = .step →
              exec (.huntInsert p fr) s = .next
                (a.setHunt
                  { h with
                    current := first, returnSlot := some { block := s.hunt.current, kind := .insertion } })) ∧
            (s.hunt.state = .paused → s.hunt.pauseReason ≠ .step → (s.huntBlock first).action = .wait →
                s.hunt.steps < 64 →
              exec (.huntInsert p fr) s = .next
                ((a.setHunt
                  { h.observing with
                    current := first
                    returnSlot := some { block := s.hunt.current, kind := .insertion } }).setUnit f
                  { s.unit f with window := some (freshWindow (s.huntBlock first).window) })))))) ∧
    (∀ m, s.controlTaken p 0x21 fr → grantHunt s.key p = true → fr.payload.length = 1 →
        stepModeOf (byteAt fr.payload 0) = some m →
      (s.huntOn f = false → exec (.huntStepMode p fr) s = .next (s.controlAnswered p 0x21 fr .state [])) ∧
      (s.huntOn f = true →
        ((m = true ∨ s.hunt.state ≠ .paused ∨ s.hunt.pauseReason ≠ .step) →
          exec (.huntStepMode p fr) s = .next
            ((s.controlAnswered p 0x21 fr .accepted []).setHunt { s.hunt with stepMode := m })) ∧
        (m = false → s.hunt.state = .paused → s.hunt.pauseReason = .step → s.currentBlock.action = .wait →
            1 ≤ s.currentBlock.window → s.hunt.steps < 64 →
          exec (.huntStepMode p fr) s = .next
            (((s.controlAnswered p 0x21 fr .accepted []).setHunt
              { s.hunt.observing with stepMode := false }).setUnit f
              { s.unit f with window := some (freshWindow s.currentBlock.window) })))) ∧
    (s.controlTaken p 0x20 fr → grantHunt s.key p = true → fr.payload = [] →
      (s.hunt.stepPaused = false → exec (.huntContinue p fr) s = .next (s.controlAnswered p 0x20 fr .state [])) ∧
      (s.hunt.stepPaused = true → s.currentBlock.action = .wait → 1 ≤ s.currentBlock.window →
          s.hunt.steps < 64 →
        ∃ t, exec (.huntContinue p fr) s = .next t ∧ s.changesOnly [.protection, .hunt, .ports] t ∧
          s.feederOnly f t ∧
          t.hunt =
            { s.hunt with
              state := .running, phase := .observing, awaiting := .nothing, pauseTimer := none
              run := { outcome := .done, windows := 0, sefSamples := 0, windowTrip := false, heldTrip := false,
                       securingTrip := false } } ∧
          (t.unit f).window =
            some { length := s.currentBlock.window, samples := 0, sefSamples := 0, pickupSamples := 0 } ∧
          t.answerAt p = some (.accepted, []))) ∧
    (s.controlTaken p 0x22 fr → fr.payload = [] →
      (s.huntOn f = false → exec (.huntAbort p fr) s = .next (s.controlAnswered p 0x22 fr .state [])) ∧
      (s.hunt.state = .stopping →
        exec (.huntAbort p fr) s = .next (s.controlAnswered p 0x22 fr .accepted [])) ∧
      (s.hunt.state = .running ∨ s.hunt.state = .paused →
        ((s.hunt.awaiting = .trip ∨ s.hunt.awaiting = .ask ∨ s.hunt.awaiting = .close ∨
            (s.hunt.awaiting = .unit ∧ ∃ e, s.bus.huntEntry = some e ∧ e.phase = .inFlight)) →
          exec (.huntAbort p fr) s = .next
            (((s.controlAnswered p 0x22 fr .accepted []).setHunt
              { s.hunt with
                state := .stopping, abortPort := some p, pauseTimer := none, pendingDetour := false
                insertion := none }).setUnit f { s.unit f with window := none })) ∧
        (∀ e, s.hunt.awaiting = .unit → s.bus.huntEntry = some e → e.phase ≠ .inFlight →
          ∃ t, exec (.huntAbort p fr) s = .next t ∧ t.huntEnded .aborted (.port p) ∧
            t.answerAt p = some (.accepted, []) ∧
            ((∀ x ∈ s.bus.queue, x.isHunt = true → x = e) → (s.bus.queue.count e = 1) →
              t.bus.queue = s.bus.queue.erase e))) ∧
      (s.hunt.state = .running ∨ s.hunt.state = .paused →
          s.hunt.awaiting = .nothing ∨ s.hunt.awaiting = .tripReport →
        ∃ t r, exec (.huntAbort p fr) s = .next t ∧ t.hunt.state = .done ∧ t.hunt.lockSet = [] ∧
          t.hunt.result = some r ∧ r.reason = .aborted ∧ r.detail = .port p ∧
          t.lastRecord (some f) (.port p) s.stamp (.huntEnd r) ∧
          (t.unit f).window = none ∧ (s.HoldLaw → hasOwner (t.holdTable f).list .hunt = false) ∧ t.flagSet .hunt ∧
          s.changesOnly [.protection, .sequencers, .holds, .bus, .hunt, .log, .ports] t ∧ s.feederOnly f t ∧
          t.answerAt p = some (.accepted, []))) ∧
    (s.hunt.state ≠ .paused ∨ timerDue s.ms s.hunt.pauseTimer = false → exec .pauseTimeout s = .next s) ∧
    (s.hunt.state = .paused → timerDue s.ms s.hunt.pauseTimer = true →
      ∃ t r, exec .pauseTimeout s = .next t ∧ t.hunt.state = .done ∧ t.hunt.lockSet = [] ∧ t.hunt.result = some r ∧
        r.feeder = f ∧ r.reason = .pauseTimeout ∧ r.detail = .block s.hunt.current ∧ r.steps = s.hunt.steps ∧
        r.faulty = s.hunt.faulty ∧ r.started = s.hunt.started ∧ r.ended = s.time ∧ t.flagSet .hunt ∧
        s.changesOnly [.protection, .sequencers, .holds, .bus, .hunt, .log, .ports] t ∧ s.feederOnly f t ∧
        t.lastRecord (some f) (.block .huntEngine) s.stamp (.huntEnd r) ∧
        (s.HoldLaw → hasOwner (t.holdTable f).list .hunt = false) ∧
        (hasOwner (s.holdTable f).list .hunt = true →
          (t.unit f).base.frozen = false ∧ (t.sequencer f).shots = 0 ∧
            (t.sequencer f).state = if (s.breaker f).stableClosed then .inService else .open))

/-! ### Event log -/

/-- R173 to R175: READ-LOG returns up to four records from the port's read pointer, moves the pointer past them and
clears the overrun mark and the lost count; LOG-SEEK moves the pointer to the oldest record, the latest, or the one
numbered, and refuses a number not held. Each acts on its own port alone; the layout of the data is log entry 16's. -/
def Obligations.LogRequestsMoveThePointer : Prop :=
  ∀ (p : Port) (fr : Frame) (s : State),
    (∀ given left, s.controlTaken p 0x26 fr → fr.payload = [] →
        given = (recordsFrom (s.port p).pointer s.log.records).take 4 →
        left = (recordsFrom (s.port p).pointer s.log.records).length - given.length →
      exec (.readLog p fr) s = .next
        (s.setPort p
          { s.port p with
            slot := .ready
              { status := .accepted, code := 0x26, counter := (s.port p).counter + 1
                data := (s.port p).overrunBytes ++ u16 (s.log.next - 1).toNat ++ u8 left ++
                  given.flatMap LogRecord.bytes }
            busyNote := none, counter := (s.port p).counter + 1
            clockedOut := List.replicate (frameSize fr) 0#8
            pointer := (s.port p).pointer + BitVec.ofNat 16 given.length, overrun := false, lost := 0 })) ∧
    (∀ target n, s.controlTaken p 0x27 fr → fr.payload.length = 3 → target = byteAt fr.payload 0 →
        n = BitVec.ofNat 16 (wordAt fr.payload 1) →
      (target < 1 ∨ 3 < target → exec (.logSeek p fr) s = .next (s.controlAnswered p 0x27 fr .argument [])) ∧
      (target = 3 → n ≠ s.log.next → (∀ r ∈ s.log.records, r.seq ≠ n) →
        exec (.logSeek p fr) s = .next (s.controlAnswered p 0x27 fr .notFound [])) ∧
      ∀ goal, (target = 1 ∧ goal = s.log.oldest) ∨ (target = 2 ∧ goal = s.log.next - 1) ∨
          (target = 3 ∧ goal = n ∧ (n = s.log.next ∨ ∃ r ∈ s.log.records, r.seq = n)) →
        exec (.logSeek p fr) s = .next
          (s.setPort p
            { s.port p with
              slot := .ready
                { status := .accepted, code := 0x27, counter := (s.port p).counter + 1
                  data := (s.port p).overrunBytes }
              busyNote := none, counter := (s.port p).counter + 1
              clockedOut := List.replicate (frameSize fr) 0#8
              pointer := goal, overrun := false, lost := 0 }))

/-! ### Master ports and requests -/

/-- R187, R188, R189: a request row on a free port meets the ranks in order: FRAME with code 0, AUTHORITY by the table of
R189 and the key switch, SEQUENCE for a control-class row; each refusal answers, changes nothing else and leaves the counter.
R189's rows that turn on the key or on what the request carries are given by port: the hunt's, UNIT-COMMAND's by its kind,
and REMOVE-HOLD's by the owner it names and its override mark (R95, R96; log entry 49 for the mark with another owner). -/
def Obligations.RanksRefuseInOrder : Prop :=
  (∀ (k : KeyPosition) (p : Port) (fr : Frame) (i : Instr),
    (i = .startHunt p fr ∨ i = .huntInsert p fr ∨ i = .huntStepMode p fr ∨ i = .huntContinue p fr →
      (grantedTo k i = true ↔ p = .station ∨ (p = .remote ∧ k = .remotePos) ∨ (p = .panel ∧ k = .localPos))) ∧
    (i = .unitCommand p fr →
      (grantedTo k i = true ↔
        p = .station ∨ (p = .remote ∧ (k = .remotePos ∨ (byteAt fr.payload 1 ≠ 1 ∧ byteAt fr.payload 1 ≠ 2))) ∨
          (p = .panel ∧ (k = .localPos ∨ byteAt fr.payload 1 ≠ 2)))) ∧
    (i = .removeHold p fr →
      ((byteAt fr.payload 4).testBit 0 = true → (grantedTo k i = true ↔ p = .panel ∧ k = .localPos)) ∧
      ((byteAt fr.payload 4).testBit 0 = false →
        (grantedTo k i = true ↔
          (byteAt fr.payload 3 = 1 → p = .station) ∧ (byteAt fr.payload 3 = 2 → p = .remote) ∧
            (byteAt fr.payload 3 = 3 → p = .panel))))) ∧
  ∀ (i : Instr) (p : Port) (fr : Frame) (code : Byte) (s : State), requestFrameOf i = some (p, fr) →
    requestCode i = some code → s.portFree p →
    (framePasses code fr = false → exec i s = .next (s.readAnswered p 0 fr .frame [])) ∧
    (framePasses code fr = true → grantedTo s.key i = false →
      exec i s = .next (s.readAnswered p code fr .authority [])) ∧
    (framePasses code fr = true → grantedTo s.key i = true → code ∉ readCodes → fr.counter ≠ (s.port p).counter →
      exec i s = .next (s.readAnswered p code fr .sequence []))

/-- R188, R191, R193: a control-class row that passes rank SEQUENCE raises its port's control counter by 1, and nothing else
but a reset of the part moves a counter; a mask changes by SET-ATTENTION-MASK and a port reset alone, the reset line's level
by its own two events. -/
def Obligations.CountersCountAcceptedRequests : Prop :=
  ∀ (i : Instr) (p : Port) (s t : State), s.powered = true → exec i s = .next t →
    (∀ pins, i ≠ .powerOn pins ∧ i ≠ .restartReinitialisation pins) → (∀ q bytes, i ≠ .requestFrame q bytes) →
    (∀ fr code, requestFrameOf i = some (p, fr) → requestCode i = some code → code ∉ readCodes →
      s.controlTaken p code fr → grantedTo s.key i = true → (t.port p).counter = (s.port p).counter + 1) ∧
    ((∀ fr code, requestFrameOf i = some (p, fr) → requestCode i = some code →
        code ∈ readCodes ∨ ¬ s.controlTaken p code fr ∨ grantedTo s.key i = false) →
      (t.port p).counter = (s.port p).counter) ∧
    ((∀ fr, i ≠ .setAttentionMask p fr) → i ≠ .portReset p → (t.port p).mask = (s.port p).mask) ∧
    (i ≠ .portReset p → i ≠ .portResetRelease p → (t.port p).inReset = (s.port p).inReset)

/-- R185, R193: a request row at a port that is not free: in reset it meets nothing; over an orphan request it is refused
PORT_BUSY at once, whatever its checks (log entry 25); over a request in flight it leaves a busy note when its check
code matches. A port in reset takes no transfer (log entry 31). -/
def Obligations.BusyPortTurnsFramesAway : Prop :=
  ∀ (i : Instr) (p : Port) (fr : Frame) (code : Byte) (s : State), s.powered = true →
    requestFrameOf i = some (p, fr) → requestCode i = some code →
    ((s.port p).inReset = true → exec i s = .next s) ∧
    ((s.port p).inReset = false →
      ((s.port p).orphan = true →
        exec i s = .next
          (s.setPort p
            { s.port p with
              slot := .ready { status := .portBusy, code := code, counter := (s.port p).counter, data := [] }
              clockedOut := List.replicate (frameSize fr) 0#8 })) ∧
      ∀ c, (s.port p).orphan = false → (s.port p).slot = .inFlight c →
        exec i s = .next
          (s.setPort p
            { s.port p with
              busyNote := if frameCheckMatches code fr then some code else (s.port p).busyNote
              clockedOut := List.replicate (frameSize fr) 0#8 }))

/-- R29, R31, R47, R64, R86, R107, R118, R128, R148, R171, R183, R186, R192: every READ-class row answers ACCEPTED with what
its rule lists, field by field as Safety.lean spells it out, in the model's layout and numbering (log entries 15 and 16; 30
for READ-PROTECTION before the first sample, 36 for the notes of READ-HUNT's result record, 56 for the next dead time of
READ-SEQUENCER), and changes nothing but its own port, whose counter stays; READ-ATTENTION also clears the port's flags.
READ-PROTECTION of no feeder is refused ARGUMENT. That READ-UNITS with a count of 0 is accepted without data is the model's
choice (log entry 47). -/
def Obligations.ReadsReturnTheState : Prop :=
  (∀ (i : Instr) (p : Port) (fr : Frame) (code : Byte) (s t : State), requestFrameOf i = some (p, fr) →
    requestCode i = some code → code ∈ readCodes → exec i s = .next t →
    s.changesOnly [.ports] t ∧ (∀ q, q ≠ p → t.port q = s.port q) ∧ (t.port p).counter = (s.port p).counter ∧
      (code ≠ 0x2A → (t.port p).flags = (s.port p).flags) ∧ (t.port p).mask = (s.port p).mask) ∧
  ∀ (p : Port) (f : Feeder) (fr : Frame) (s : State),
    (fr.payload.length = 1 → 1 ≤ byteAt fr.payload 0 → byteAt fr.payload 0 ≤ 4 → s.readTaken p 0x03 fr →
      exec (.readCurve p fr) s =
        .next (s.readAnswered p 0x03 fr .accepted
          (fieldBytes (curveFields (s.curve (byteAt fr.payload 0)))))) ∧
    (fr.payload.length = 1 → (feederOf (byteAt fr.payload 0) = some f →
        (s.readTaken p 0x02 fr →
          exec (.readProtection p fr) s = .next (s.readAnswered p 0x02 fr .accepted
            (fieldBytes (s.protectionFields f)))) ∧
        (s.readTaken p 0x05 fr →
          exec (.readBreaker p fr) s = .next (s.readAnswered p 0x05 fr .accepted
            (fieldBytes (s.breakerFields f)))) ∧
        (s.readTaken p 0x08 fr →
          exec (.readSequencer p fr) s = .next (s.readAnswered p 0x08 fr .accepted
            (fieldBytes (s.sequencerFields f)))) ∧
        (s.readTaken p 0x0D fr →
          exec (.readHolds p fr) s = .next (s.readAnswered p 0x0D fr .accepted (fieldBytes (s.holdsFields f))))) ∧
      (byteAt fr.payload 0 < 1 ∨ 4 < byteAt fr.payload 0 → s.readTaken p 0x02 fr →
        exec (.readProtection p fr) s = .next (s.readAnswered p 0x02 fr .argument []))) ∧
    (fr.payload = [] →
      (s.readTaken p 0x15 fr →
        exec (.readFireTable p fr) s = .next (s.readAnswered p 0x15 fr .accepted
          (fieldBytes s.fireTableFields))) ∧
      (s.readTaken p 0x14 fr →
        exec (.readFire p fr) s = .next (s.readAnswered p 0x14 fr .accepted (fieldBytes s.fireFields))) ∧
      (s.readTaken p 0x29 fr →
        exec (.readStore p fr) s = .next (s.readAnswered p 0x29 fr .accepted (fieldBytes s.storeFields))) ∧
      (s.readTaken p 0x1B fr →
        exec (.readLinebus p fr) s = .next (s.readAnswered p 0x1B fr .accepted
          (fieldBytes s.linebusFields))) ∧
      (s.readTaken p 0x23 fr →
        exec (.readHunt p fr) s = .next (s.readAnswered p 0x23 fr .accepted (fieldBytes s.huntFields))) ∧
      (s.readTaken p 0x2A fr →
        exec (.readAttention p fr) s = .next
          ((s.setPort p { s.port p with flags := 0 }).readAnswered p 0x2A fr .accepted
            [(s.port p).flags, (s.port p).mask])) ∧
      (s.readTaken p 0x2B fr →
        exec (.readPort p fr) s = .next
          (s.readAnswered p 0x2B fr .accepted
            (fieldBytes
              [(2, (s.port p).counter.toNat), (1, (s.port p).flags.toNat), (1, (s.port p).mask.toNat),
                (1, match s.key with | .localPos => 1 | .remotePos => 2), (1, 0)])))) ∧
    (∀ l, fr.payload.length = 2 → feederOf (byteAt fr.payload 0) = some f → letterOf (byteAt fr.payload 1) = some l →
        s.readTaken p 0x16 fr →
      exec (.readGroup p fr) s = .next
        (s.readAnswered p 0x16 fr .accepted
          (fieldBytes
            (groupFields (s.workingGroup f l).group ++ [(1, if (s.effective f).letter = l then 1 else 0)])))) ∧
    (∀ a n, fr.payload.length = 2 → a = byteAt fr.payload 0 → n = byteAt fr.payload 1 → 1 ≤ a → a ≤ 31 → a + n ≤ 32 →
        s.readTaken p 0x1C fr →
      exec (.readUnits p fr) s = .next
        (s.readAnswered p 0x1C fr .accepted
          (fieldBytes (((s.bus.units.drop (a - 1)).take n).flatMap unitFields)))) ∧
    (∀ n l, fr.payload.length = 1 → n = byteAt fr.payload 0 → 1 ≤ n → n ≤ 64 → s.readTaken p 0x24 fr →
        l = (s.hunt.trace.drop (n - 1)).take 8 →
      exec (.readHuntTrace p fr) s = .next
        (s.readAnswered p 0x24 fr .accepted
          (fieldBytes ((1, l.length) :: l.flatMap traceFields ++ [(1, s.hunt.trace.length)])))) ∧
    (∀ a n, fr.payload.length = 2 → a = byteAt fr.payload 0 → n = byteAt fr.payload 1 → 1 ≤ a → 1 ≤ n → n ≤ 8 →
        a + n ≤ 256 → s.readTaken p 0x25 fr →
      exec (.readHuntBlocks p fr) s = .next
        (s.readAnswered p 0x25 fr .accepted
          (fieldBytes ((List.range n).flatMap (fun i =>
            blockFields (s.huntBlock (a + i)) ++ [(1, if a + i ∈ s.hunt.lockSet then 1 else 0)])))))

/-- R184, R185, R191, R196: a transfer that only reads clocks out the response and, read whole, frees the port; a busy note
answers PORT_BUSY once, and a port with nothing to say NOT_READY. SET-ATTENTION-MASK replaces the port's mask, and the
attention line follows the flags outside it. -/
def Obligations.ResponsesAndAttention : Prop :=
  (∀ (p : Port) (n : Nat) (s : State), s.powered = true → (s.port p).inReset = false →
    (∀ r, (s.port p).slot = .ready r →
      exec (.responseRead p n) s = .next
        (s.setPort p
          { s.port p with
            slot := if r.bytes.length ≤ n then .idle else .ready r
            clockedOut := r.bytes.take n ++ List.replicate (n - r.bytes.length) 0#8 })) ∧
    (∀ c, (s.port p).slot = .inFlight c →
      ((s.port p).busyNote = none →
        exec (.responseRead p n) s = .next (s.setPort p { s.port p with clockedOut := List.replicate n 0#8 })) ∧
      ∀ code r, (s.port p).busyNote = some code →
        r = Response.bytes { status := .portBusy, code := code, counter := (s.port p).counter, data := [] } →
        exec (.responseRead p n) s = .next
          (s.setPort p
            { s.port p with
              busyNote := none, clockedOut := r.take n ++ List.replicate (n - r.length) 0#8 })) ∧
    ((s.port p).slot = .idle →
      exec (.responseRead p n) s = .next (s.setPort p { s.port p with clockedOut := List.replicate n 0#8 }))) ∧
  (∀ (p : Port) (fr : Frame) (s : State), s.controlTaken p 0x2C fr → fr.payload.length = 1 →
    exec (.setAttentionMask p fr) s = .next
      (s.setPort p
        { s.port p with
          slot := .ready { status := .accepted, code := 0x2C, counter := (s.port p).counter + 1, data := [] }
          busyNote := none, counter := (s.port p).counter + 1
          clockedOut := List.replicate (frameSize fr) 0#8, mask := fr.payload.getD 0 0 })) ∧
  ∀ q : PortState, q.attentionLine = true ↔ ∃ k : Nat, k < 8 ∧ q.flags.getLsbD k = true ∧ q.mask.getLsbD k = false

/-- R187, R195, R196, R197: the bytes of a transfer that spell a request frame of the catalogue do what the request's row
does; a code that names no request is refused UNKNOWN, and bytes too few for a frame FRAME, both with code 0. The
check codes have the values R195 gives over "123456789". -/
def Obligations.RawFramesAreRequests : Prop :=
  (∀ (i : Instr) (p : Port) (fr : Frame) (code : Byte) (s : State), requestFrameOf i = some (p, fr) →
    requestCode i = some code →
    exec (.requestFrame p
      (code :: (u16 fr.counter.toNat ++ fr.length :: fr.payload ++ u16 fr.check.toNat))) s = exec i s) ∧
  (∀ (p : Port) (fr : Frame) (code : Byte) (s : State), s.portFree p → (code = 0 ∨ 0x2D < code.toNat) →
    exec (.requestFrame p
      (code :: (u16 fr.counter.toNat ++ fr.length :: fr.payload ++ u16 fr.check.toNat))) s =
      .next (s.readAnswered p 0 fr (if framePasses code fr then .unknown else .frame) [])) ∧
  (∀ (p : Port) (bytes : List Byte) (s : State), s.portFree p → 1 ≤ bytes.length → bytes.length < 6 →
    exec (.requestFrame p bytes) s = .next
      (s.setPort p
        { s.port p with
          slot := .ready { status := .frame, code := 0, counter := (s.port p).counter, data := [] }
          busyNote := none, clockedOut := List.replicate bytes.length 0#8 })) ∧
  crc16 [0x31, 0x32, 0x33, 0x34, 0x35, 0x36, 0x37, 0x38, 0x39] = 0x29B1#16 ∧
  crc8 [0x31, 0x32, 0x33, 0x34, 0x35, 0x36, 0x37, 0x38, 0x39] = 0xB4#8
end

