-- ==== Sys2Proof/Laws/State.lean ====
section
/-! SUPPORT. One lemma per field per update of State, and per accessor, each true by rfl: no later proof unfolds a record
update. -/

namespace Sys2Proof.Machine

/-! ### Feeders and ports -/

@[simp] theorem feederGet_set_self {α : Type} (x : PerFeeder α) (f : Feeder) (a : α) : feederGet (feederSet x f a) f = a := by
  cases f <;> rfl

theorem feederGet_set_of_ne {α : Type} (x : PerFeeder α) {f g : Feeder} (h : g ≠ f) (a : α) :
    feederGet (feederSet x f a) g = feederGet x g := by
  cases f <;> cases g <;> first | rfl | exact absurd rfl h

theorem feederGet_set {α : Type} (x : PerFeeder α) (f g : Feeder) (a : α) :
    feederGet (feederSet x f a) g = if g = f then a else feederGet x g := by
  cases f <;> cases g <;> rfl

@[simp] theorem feederSet_get {α : Type} (x : PerFeeder α) (f : Feeder) : feederSet x f (feederGet x f) = x := by
  cases f <;> rfl

@[simp] theorem feederGet_map {α β : Type} (g : α → β) (x : PerFeeder α) (f : Feeder) :
    feederGet (feederMap g x) f = g (feederGet x f) := by cases f <;> rfl

@[simp] theorem portGet_set_self {α : Type} (x : PerPort α) (p : Port) (a : α) : portGet (portSet x p a) p = a := by
  cases p <;> rfl

theorem portGet_set_of_ne {α : Type} (x : PerPort α) {p q : Port} (h : q ≠ p) (a : α) :
    portGet (portSet x p a) q = portGet x q := by
  cases p <;> cases q <;> first | rfl | exact absurd rfl h

theorem portGet_set {α : Type} (x : PerPort α) (p q : Port) (a : α) :
    portGet (portSet x p a) q = if q = p then a else portGet x q := by
  cases p <;> cases q <;> rfl

@[simp] theorem portSet_set {α : Type} (x : PerPort α) (p : Port) (a b : α) : portSet (portSet x p a) p b = portSet x p b := by
  cases p <;> rfl

@[simp] theorem portGet_map {α β : Type} (g : α → β) (x : PerPort α) (p : Port) :
    portGet (portMap g x) p = g (portGet x p) := by cases p <;> rfl

@[simp] theorem feederSet_set {α : Type} (x : PerFeeder α) (f : Feeder) (a b : α) :
    feederSet (feederSet x f a) f b = feederSet x f b := by cases f <;> rfl

/-! ### Fields -/

@[simp] theorem State.setReceiver_powered (s : State) (f : Feeder) (x : Receiver) : (s.setReceiver f x).powered = s.powered := rfl
@[simp] theorem State.setReceiver_ms (s : State) (f : Feeder) (x : Receiver) : (s.setReceiver f x).ms = s.ms := rfl
@[simp] theorem State.setReceiver_time (s : State) (f : Feeder) (x : Receiver) : (s.setReceiver f x).time = s.time := rfl
@[simp] theorem State.setReceiver_timeSet (s : State) (f : Feeder) (x : Receiver) : (s.setReceiver f x).timeSet = s.timeSet := rfl
@[simp] theorem State.setReceiver_key (s : State) (f : Feeder) (x : Receiver) : (s.setReceiver f x).key = s.key := rfl
@[simp] theorem State.setReceiver_receivers (s : State) (f : Feeder) (x : Receiver) : (s.setReceiver f x).receivers = feederSet s.receivers f x := rfl
@[simp] theorem State.setReceiver_protection (s : State) (f : Feeder) (x : Receiver) : (s.setReceiver f x).protection = s.protection := rfl
@[simp] theorem State.setReceiver_breakers (s : State) (f : Feeder) (x : Receiver) : (s.setReceiver f x).breakers = s.breakers := rfl
@[simp] theorem State.setReceiver_sequencers (s : State) (f : Feeder) (x : Receiver) : (s.setReceiver f x).sequencers = s.sequencers := rfl
@[simp] theorem State.setReceiver_holds (s : State) (f : Feeder) (x : Receiver) : (s.setReceiver f x).holds = s.holds := rfl
@[simp] theorem State.setReceiver_fire (s : State) (f : Feeder) (x : Receiver) : (s.setReceiver f x).fire = s.fire := rfl
@[simp] theorem State.setReceiver_bus (s : State) (f : Feeder) (x : Receiver) : (s.setReceiver f x).bus = s.bus := rfl
@[simp] theorem State.setReceiver_hunt (s : State) (f : Feeder) (x : Receiver) : (s.setReceiver f x).hunt = s.hunt := rfl
@[simp] theorem State.setReceiver_log (s : State) (f : Feeder) (x : Receiver) : (s.setReceiver f x).log = s.log := rfl
@[simp] theorem State.setReceiver_store (s : State) (f : Feeder) (x : Receiver) : (s.setReceiver f x).store = s.store := rfl
@[simp] theorem State.setReceiver_image (s : State) (f : Feeder) (x : Receiver) : (s.setReceiver f x).image = s.image := rfl
@[simp] theorem State.setReceiver_ports (s : State) (f : Feeder) (x : Receiver) : (s.setReceiver f x).ports = s.ports := rfl
@[simp] theorem State.setReceiver_restart (s : State) (f : Feeder) (x : Receiver) : (s.setReceiver f x).restart = s.restart := rfl
@[simp] theorem State.setReceiver_pending (s : State) (f : Feeder) (x : Receiver) : (s.setReceiver f x).pending = s.pending := rfl

@[simp] theorem State.setUnit_powered (s : State) (f : Feeder) (x : Protection) : (s.setUnit f x).powered = s.powered := rfl
@[simp] theorem State.setUnit_ms (s : State) (f : Feeder) (x : Protection) : (s.setUnit f x).ms = s.ms := rfl
@[simp] theorem State.setUnit_time (s : State) (f : Feeder) (x : Protection) : (s.setUnit f x).time = s.time := rfl
@[simp] theorem State.setUnit_timeSet (s : State) (f : Feeder) (x : Protection) : (s.setUnit f x).timeSet = s.timeSet := rfl
@[simp] theorem State.setUnit_key (s : State) (f : Feeder) (x : Protection) : (s.setUnit f x).key = s.key := rfl
@[simp] theorem State.setUnit_receivers (s : State) (f : Feeder) (x : Protection) : (s.setUnit f x).receivers = s.receivers := rfl
@[simp] theorem State.setUnit_protection (s : State) (f : Feeder) (x : Protection) : (s.setUnit f x).protection = feederSet s.protection f x := rfl
@[simp] theorem State.setUnit_breakers (s : State) (f : Feeder) (x : Protection) : (s.setUnit f x).breakers = s.breakers := rfl
@[simp] theorem State.setUnit_sequencers (s : State) (f : Feeder) (x : Protection) : (s.setUnit f x).sequencers = s.sequencers := rfl
@[simp] theorem State.setUnit_holds (s : State) (f : Feeder) (x : Protection) : (s.setUnit f x).holds = s.holds := rfl
@[simp] theorem State.setUnit_fire (s : State) (f : Feeder) (x : Protection) : (s.setUnit f x).fire = s.fire := rfl
@[simp] theorem State.setUnit_bus (s : State) (f : Feeder) (x : Protection) : (s.setUnit f x).bus = s.bus := rfl
@[simp] theorem State.setUnit_hunt (s : State) (f : Feeder) (x : Protection) : (s.setUnit f x).hunt = s.hunt := rfl
@[simp] theorem State.setUnit_log (s : State) (f : Feeder) (x : Protection) : (s.setUnit f x).log = s.log := rfl
@[simp] theorem State.setUnit_store (s : State) (f : Feeder) (x : Protection) : (s.setUnit f x).store = s.store := rfl
@[simp] theorem State.setUnit_image (s : State) (f : Feeder) (x : Protection) : (s.setUnit f x).image = s.image := rfl
@[simp] theorem State.setUnit_ports (s : State) (f : Feeder) (x : Protection) : (s.setUnit f x).ports = s.ports := rfl
@[simp] theorem State.setUnit_restart (s : State) (f : Feeder) (x : Protection) : (s.setUnit f x).restart = s.restart := rfl
@[simp] theorem State.setUnit_pending (s : State) (f : Feeder) (x : Protection) : (s.setUnit f x).pending = s.pending := rfl

@[simp] theorem State.setBreaker_powered (s : State) (f : Feeder) (x : Breaker) : (s.setBreaker f x).powered = s.powered := rfl
@[simp] theorem State.setBreaker_ms (s : State) (f : Feeder) (x : Breaker) : (s.setBreaker f x).ms = s.ms := rfl
@[simp] theorem State.setBreaker_time (s : State) (f : Feeder) (x : Breaker) : (s.setBreaker f x).time = s.time := rfl
@[simp] theorem State.setBreaker_timeSet (s : State) (f : Feeder) (x : Breaker) : (s.setBreaker f x).timeSet = s.timeSet := rfl
@[simp] theorem State.setBreaker_key (s : State) (f : Feeder) (x : Breaker) : (s.setBreaker f x).key = s.key := rfl
@[simp] theorem State.setBreaker_receivers (s : State) (f : Feeder) (x : Breaker) : (s.setBreaker f x).receivers = s.receivers := rfl
@[simp] theorem State.setBreaker_protection (s : State) (f : Feeder) (x : Breaker) : (s.setBreaker f x).protection = s.protection := rfl
@[simp] theorem State.setBreaker_breakers (s : State) (f : Feeder) (x : Breaker) : (s.setBreaker f x).breakers = feederSet s.breakers f x := rfl
@[simp] theorem State.setBreaker_sequencers (s : State) (f : Feeder) (x : Breaker) : (s.setBreaker f x).sequencers = s.sequencers := rfl
@[simp] theorem State.setBreaker_holds (s : State) (f : Feeder) (x : Breaker) : (s.setBreaker f x).holds = s.holds := rfl
@[simp] theorem State.setBreaker_fire (s : State) (f : Feeder) (x : Breaker) : (s.setBreaker f x).fire = s.fire := rfl
@[simp] theorem State.setBreaker_bus (s : State) (f : Feeder) (x : Breaker) : (s.setBreaker f x).bus = s.bus := rfl
@[simp] theorem State.setBreaker_hunt (s : State) (f : Feeder) (x : Breaker) : (s.setBreaker f x).hunt = s.hunt := rfl
@[simp] theorem State.setBreaker_log (s : State) (f : Feeder) (x : Breaker) : (s.setBreaker f x).log = s.log := rfl
@[simp] theorem State.setBreaker_store (s : State) (f : Feeder) (x : Breaker) : (s.setBreaker f x).store = s.store := rfl
@[simp] theorem State.setBreaker_image (s : State) (f : Feeder) (x : Breaker) : (s.setBreaker f x).image = s.image := rfl
@[simp] theorem State.setBreaker_ports (s : State) (f : Feeder) (x : Breaker) : (s.setBreaker f x).ports = s.ports := rfl
@[simp] theorem State.setBreaker_restart (s : State) (f : Feeder) (x : Breaker) : (s.setBreaker f x).restart = s.restart := rfl
@[simp] theorem State.setBreaker_pending (s : State) (f : Feeder) (x : Breaker) : (s.setBreaker f x).pending = s.pending := rfl

@[simp] theorem State.setSequencer_powered (s : State) (f : Feeder) (x : Sequencer) : (s.setSequencer f x).powered = s.powered := rfl
@[simp] theorem State.setSequencer_ms (s : State) (f : Feeder) (x : Sequencer) : (s.setSequencer f x).ms = s.ms := rfl
@[simp] theorem State.setSequencer_time (s : State) (f : Feeder) (x : Sequencer) : (s.setSequencer f x).time = s.time := rfl
@[simp] theorem State.setSequencer_timeSet (s : State) (f : Feeder) (x : Sequencer) : (s.setSequencer f x).timeSet = s.timeSet := rfl
@[simp] theorem State.setSequencer_key (s : State) (f : Feeder) (x : Sequencer) : (s.setSequencer f x).key = s.key := rfl
@[simp] theorem State.setSequencer_receivers (s : State) (f : Feeder) (x : Sequencer) : (s.setSequencer f x).receivers = s.receivers := rfl
@[simp] theorem State.setSequencer_protection (s : State) (f : Feeder) (x : Sequencer) : (s.setSequencer f x).protection = s.protection := rfl
@[simp] theorem State.setSequencer_breakers (s : State) (f : Feeder) (x : Sequencer) : (s.setSequencer f x).breakers = s.breakers := rfl
@[simp] theorem State.setSequencer_sequencers (s : State) (f : Feeder) (x : Sequencer) : (s.setSequencer f x).sequencers = feederSet s.sequencers f x := rfl
@[simp] theorem State.setSequencer_holds (s : State) (f : Feeder) (x : Sequencer) : (s.setSequencer f x).holds = s.holds := rfl
@[simp] theorem State.setSequencer_fire (s : State) (f : Feeder) (x : Sequencer) : (s.setSequencer f x).fire = s.fire := rfl
@[simp] theorem State.setSequencer_bus (s : State) (f : Feeder) (x : Sequencer) : (s.setSequencer f x).bus = s.bus := rfl
@[simp] theorem State.setSequencer_hunt (s : State) (f : Feeder) (x : Sequencer) : (s.setSequencer f x).hunt = s.hunt := rfl
@[simp] theorem State.setSequencer_log (s : State) (f : Feeder) (x : Sequencer) : (s.setSequencer f x).log = s.log := rfl
@[simp] theorem State.setSequencer_store (s : State) (f : Feeder) (x : Sequencer) : (s.setSequencer f x).store = s.store := rfl
@[simp] theorem State.setSequencer_image (s : State) (f : Feeder) (x : Sequencer) : (s.setSequencer f x).image = s.image := rfl
@[simp] theorem State.setSequencer_ports (s : State) (f : Feeder) (x : Sequencer) : (s.setSequencer f x).ports = s.ports := rfl
@[simp] theorem State.setSequencer_restart (s : State) (f : Feeder) (x : Sequencer) : (s.setSequencer f x).restart = s.restart := rfl
@[simp] theorem State.setSequencer_pending (s : State) (f : Feeder) (x : Sequencer) : (s.setSequencer f x).pending = s.pending := rfl

@[simp] theorem State.setHoldTable_powered (s : State) (f : Feeder) (x : HoldTable) : (s.setHoldTable f x).powered = s.powered := rfl
@[simp] theorem State.setHoldTable_ms (s : State) (f : Feeder) (x : HoldTable) : (s.setHoldTable f x).ms = s.ms := rfl
@[simp] theorem State.setHoldTable_time (s : State) (f : Feeder) (x : HoldTable) : (s.setHoldTable f x).time = s.time := rfl
@[simp] theorem State.setHoldTable_timeSet (s : State) (f : Feeder) (x : HoldTable) : (s.setHoldTable f x).timeSet = s.timeSet := rfl
@[simp] theorem State.setHoldTable_key (s : State) (f : Feeder) (x : HoldTable) : (s.setHoldTable f x).key = s.key := rfl
@[simp] theorem State.setHoldTable_receivers (s : State) (f : Feeder) (x : HoldTable) : (s.setHoldTable f x).receivers = s.receivers := rfl
@[simp] theorem State.setHoldTable_protection (s : State) (f : Feeder) (x : HoldTable) : (s.setHoldTable f x).protection = s.protection := rfl
@[simp] theorem State.setHoldTable_breakers (s : State) (f : Feeder) (x : HoldTable) : (s.setHoldTable f x).breakers = s.breakers := rfl
@[simp] theorem State.setHoldTable_sequencers (s : State) (f : Feeder) (x : HoldTable) : (s.setHoldTable f x).sequencers = s.sequencers := rfl
@[simp] theorem State.setHoldTable_holds (s : State) (f : Feeder) (x : HoldTable) : (s.setHoldTable f x).holds = feederSet s.holds f x := rfl
@[simp] theorem State.setHoldTable_fire (s : State) (f : Feeder) (x : HoldTable) : (s.setHoldTable f x).fire = s.fire := rfl
@[simp] theorem State.setHoldTable_bus (s : State) (f : Feeder) (x : HoldTable) : (s.setHoldTable f x).bus = s.bus := rfl
@[simp] theorem State.setHoldTable_hunt (s : State) (f : Feeder) (x : HoldTable) : (s.setHoldTable f x).hunt = s.hunt := rfl
@[simp] theorem State.setHoldTable_log (s : State) (f : Feeder) (x : HoldTable) : (s.setHoldTable f x).log = s.log := rfl
@[simp] theorem State.setHoldTable_store (s : State) (f : Feeder) (x : HoldTable) : (s.setHoldTable f x).store = s.store := rfl
@[simp] theorem State.setHoldTable_image (s : State) (f : Feeder) (x : HoldTable) : (s.setHoldTable f x).image = s.image := rfl
@[simp] theorem State.setHoldTable_ports (s : State) (f : Feeder) (x : HoldTable) : (s.setHoldTable f x).ports = s.ports := rfl
@[simp] theorem State.setHoldTable_restart (s : State) (f : Feeder) (x : HoldTable) : (s.setHoldTable f x).restart = s.restart := rfl
@[simp] theorem State.setHoldTable_pending (s : State) (f : Feeder) (x : HoldTable) : (s.setHoldTable f x).pending = s.pending := rfl

@[simp] theorem State.setPort_powered (s : State) (p : Port) (x : PortState) : (s.setPort p x).powered = s.powered := rfl
@[simp] theorem State.setPort_ms (s : State) (p : Port) (x : PortState) : (s.setPort p x).ms = s.ms := rfl
@[simp] theorem State.setPort_time (s : State) (p : Port) (x : PortState) : (s.setPort p x).time = s.time := rfl
@[simp] theorem State.setPort_timeSet (s : State) (p : Port) (x : PortState) : (s.setPort p x).timeSet = s.timeSet := rfl
@[simp] theorem State.setPort_key (s : State) (p : Port) (x : PortState) : (s.setPort p x).key = s.key := rfl
@[simp] theorem State.setPort_receivers (s : State) (p : Port) (x : PortState) : (s.setPort p x).receivers = s.receivers := rfl
@[simp] theorem State.setPort_protection (s : State) (p : Port) (x : PortState) : (s.setPort p x).protection = s.protection := rfl
@[simp] theorem State.setPort_breakers (s : State) (p : Port) (x : PortState) : (s.setPort p x).breakers = s.breakers := rfl
@[simp] theorem State.setPort_sequencers (s : State) (p : Port) (x : PortState) : (s.setPort p x).sequencers = s.sequencers := rfl
@[simp] theorem State.setPort_holds (s : State) (p : Port) (x : PortState) : (s.setPort p x).holds = s.holds := rfl
@[simp] theorem State.setPort_fire (s : State) (p : Port) (x : PortState) : (s.setPort p x).fire = s.fire := rfl
@[simp] theorem State.setPort_bus (s : State) (p : Port) (x : PortState) : (s.setPort p x).bus = s.bus := rfl
@[simp] theorem State.setPort_hunt (s : State) (p : Port) (x : PortState) : (s.setPort p x).hunt = s.hunt := rfl
@[simp] theorem State.setPort_log (s : State) (p : Port) (x : PortState) : (s.setPort p x).log = s.log := rfl
@[simp] theorem State.setPort_store (s : State) (p : Port) (x : PortState) : (s.setPort p x).store = s.store := rfl
@[simp] theorem State.setPort_image (s : State) (p : Port) (x : PortState) : (s.setPort p x).image = s.image := rfl
@[simp] theorem State.setPort_ports (s : State) (p : Port) (x : PortState) : (s.setPort p x).ports = portSet s.ports p x := rfl
@[simp] theorem State.setPort_restart (s : State) (p : Port) (x : PortState) : (s.setPort p x).restart = s.restart := rfl
@[simp] theorem State.setPort_pending (s : State) (p : Port) (x : PortState) : (s.setPort p x).pending = s.pending := rfl

@[simp] theorem State.setHunt_powered (s : State) (x : Hunt) : (s.setHunt x).powered = s.powered := rfl
@[simp] theorem State.setHunt_ms (s : State) (x : Hunt) : (s.setHunt x).ms = s.ms := rfl
@[simp] theorem State.setHunt_time (s : State) (x : Hunt) : (s.setHunt x).time = s.time := rfl
@[simp] theorem State.setHunt_timeSet (s : State) (x : Hunt) : (s.setHunt x).timeSet = s.timeSet := rfl
@[simp] theorem State.setHunt_key (s : State) (x : Hunt) : (s.setHunt x).key = s.key := rfl
@[simp] theorem State.setHunt_receivers (s : State) (x : Hunt) : (s.setHunt x).receivers = s.receivers := rfl
@[simp] theorem State.setHunt_protection (s : State) (x : Hunt) : (s.setHunt x).protection = s.protection := rfl
@[simp] theorem State.setHunt_breakers (s : State) (x : Hunt) : (s.setHunt x).breakers = s.breakers := rfl
@[simp] theorem State.setHunt_sequencers (s : State) (x : Hunt) : (s.setHunt x).sequencers = s.sequencers := rfl
@[simp] theorem State.setHunt_holds (s : State) (x : Hunt) : (s.setHunt x).holds = s.holds := rfl
@[simp] theorem State.setHunt_fire (s : State) (x : Hunt) : (s.setHunt x).fire = s.fire := rfl
@[simp] theorem State.setHunt_bus (s : State) (x : Hunt) : (s.setHunt x).bus = s.bus := rfl
@[simp] theorem State.setHunt_hunt (s : State) (x : Hunt) : (s.setHunt x).hunt = x := rfl
@[simp] theorem State.setHunt_log (s : State) (x : Hunt) : (s.setHunt x).log = s.log := rfl
@[simp] theorem State.setHunt_store (s : State) (x : Hunt) : (s.setHunt x).store = s.store := rfl
@[simp] theorem State.setHunt_image (s : State) (x : Hunt) : (s.setHunt x).image = s.image := rfl
@[simp] theorem State.setHunt_ports (s : State) (x : Hunt) : (s.setHunt x).ports = s.ports := rfl
@[simp] theorem State.setHunt_restart (s : State) (x : Hunt) : (s.setHunt x).restart = s.restart := rfl
@[simp] theorem State.setHunt_pending (s : State) (x : Hunt) : (s.setHunt x).pending = s.pending := rfl

@[simp] theorem State.setBus_powered (s : State) (x : Bus) : (s.setBus x).powered = s.powered := rfl
@[simp] theorem State.setBus_ms (s : State) (x : Bus) : (s.setBus x).ms = s.ms := rfl
@[simp] theorem State.setBus_time (s : State) (x : Bus) : (s.setBus x).time = s.time := rfl
@[simp] theorem State.setBus_timeSet (s : State) (x : Bus) : (s.setBus x).timeSet = s.timeSet := rfl
@[simp] theorem State.setBus_key (s : State) (x : Bus) : (s.setBus x).key = s.key := rfl
@[simp] theorem State.setBus_receivers (s : State) (x : Bus) : (s.setBus x).receivers = s.receivers := rfl
@[simp] theorem State.setBus_protection (s : State) (x : Bus) : (s.setBus x).protection = s.protection := rfl
@[simp] theorem State.setBus_breakers (s : State) (x : Bus) : (s.setBus x).breakers = s.breakers := rfl
@[simp] theorem State.setBus_sequencers (s : State) (x : Bus) : (s.setBus x).sequencers = s.sequencers := rfl
@[simp] theorem State.setBus_holds (s : State) (x : Bus) : (s.setBus x).holds = s.holds := rfl
@[simp] theorem State.setBus_fire (s : State) (x : Bus) : (s.setBus x).fire = s.fire := rfl
@[simp] theorem State.setBus_bus (s : State) (x : Bus) : (s.setBus x).bus = x := rfl
@[simp] theorem State.setBus_hunt (s : State) (x : Bus) : (s.setBus x).hunt = s.hunt := rfl
@[simp] theorem State.setBus_log (s : State) (x : Bus) : (s.setBus x).log = s.log := rfl
@[simp] theorem State.setBus_store (s : State) (x : Bus) : (s.setBus x).store = s.store := rfl
@[simp] theorem State.setBus_image (s : State) (x : Bus) : (s.setBus x).image = s.image := rfl
@[simp] theorem State.setBus_ports (s : State) (x : Bus) : (s.setBus x).ports = s.ports := rfl
@[simp] theorem State.setBus_restart (s : State) (x : Bus) : (s.setBus x).restart = s.restart := rfl
@[simp] theorem State.setBus_pending (s : State) (x : Bus) : (s.setBus x).pending = s.pending := rfl

@[simp] theorem State.setFire_powered (s : State) (x : FireController) : (s.setFire x).powered = s.powered := rfl
@[simp] theorem State.setFire_ms (s : State) (x : FireController) : (s.setFire x).ms = s.ms := rfl
@[simp] theorem State.setFire_time (s : State) (x : FireController) : (s.setFire x).time = s.time := rfl
@[simp] theorem State.setFire_timeSet (s : State) (x : FireController) : (s.setFire x).timeSet = s.timeSet := rfl
@[simp] theorem State.setFire_key (s : State) (x : FireController) : (s.setFire x).key = s.key := rfl
@[simp] theorem State.setFire_receivers (s : State) (x : FireController) : (s.setFire x).receivers = s.receivers := rfl
@[simp] theorem State.setFire_protection (s : State) (x : FireController) : (s.setFire x).protection = s.protection := rfl
@[simp] theorem State.setFire_breakers (s : State) (x : FireController) : (s.setFire x).breakers = s.breakers := rfl
@[simp] theorem State.setFire_sequencers (s : State) (x : FireController) : (s.setFire x).sequencers = s.sequencers := rfl
@[simp] theorem State.setFire_holds (s : State) (x : FireController) : (s.setFire x).holds = s.holds := rfl
@[simp] theorem State.setFire_fire (s : State) (x : FireController) : (s.setFire x).fire = x := rfl
@[simp] theorem State.setFire_bus (s : State) (x : FireController) : (s.setFire x).bus = s.bus := rfl
@[simp] theorem State.setFire_hunt (s : State) (x : FireController) : (s.setFire x).hunt = s.hunt := rfl
@[simp] theorem State.setFire_log (s : State) (x : FireController) : (s.setFire x).log = s.log := rfl
@[simp] theorem State.setFire_store (s : State) (x : FireController) : (s.setFire x).store = s.store := rfl
@[simp] theorem State.setFire_image (s : State) (x : FireController) : (s.setFire x).image = s.image := rfl
@[simp] theorem State.setFire_ports (s : State) (x : FireController) : (s.setFire x).ports = s.ports := rfl
@[simp] theorem State.setFire_restart (s : State) (x : FireController) : (s.setFire x).restart = s.restart := rfl
@[simp] theorem State.setFire_pending (s : State) (x : FireController) : (s.setFire x).pending = s.pending := rfl

@[simp] theorem State.setStore_powered (s : State) (x : Store) : (s.setStore x).powered = s.powered := rfl
@[simp] theorem State.setStore_ms (s : State) (x : Store) : (s.setStore x).ms = s.ms := rfl
@[simp] theorem State.setStore_time (s : State) (x : Store) : (s.setStore x).time = s.time := rfl
@[simp] theorem State.setStore_timeSet (s : State) (x : Store) : (s.setStore x).timeSet = s.timeSet := rfl
@[simp] theorem State.setStore_key (s : State) (x : Store) : (s.setStore x).key = s.key := rfl
@[simp] theorem State.setStore_receivers (s : State) (x : Store) : (s.setStore x).receivers = s.receivers := rfl
@[simp] theorem State.setStore_protection (s : State) (x : Store) : (s.setStore x).protection = s.protection := rfl
@[simp] theorem State.setStore_breakers (s : State) (x : Store) : (s.setStore x).breakers = s.breakers := rfl
@[simp] theorem State.setStore_sequencers (s : State) (x : Store) : (s.setStore x).sequencers = s.sequencers := rfl
@[simp] theorem State.setStore_holds (s : State) (x : Store) : (s.setStore x).holds = s.holds := rfl
@[simp] theorem State.setStore_fire (s : State) (x : Store) : (s.setStore x).fire = s.fire := rfl
@[simp] theorem State.setStore_bus (s : State) (x : Store) : (s.setStore x).bus = s.bus := rfl
@[simp] theorem State.setStore_hunt (s : State) (x : Store) : (s.setStore x).hunt = s.hunt := rfl
@[simp] theorem State.setStore_log (s : State) (x : Store) : (s.setStore x).log = s.log := rfl
@[simp] theorem State.setStore_store (s : State) (x : Store) : (s.setStore x).store = x := rfl
@[simp] theorem State.setStore_image (s : State) (x : Store) : (s.setStore x).image = s.image := rfl
@[simp] theorem State.setStore_ports (s : State) (x : Store) : (s.setStore x).ports = s.ports := rfl
@[simp] theorem State.setStore_restart (s : State) (x : Store) : (s.setStore x).restart = s.restart := rfl
@[simp] theorem State.setStore_pending (s : State) (x : Store) : (s.setStore x).pending = s.pending := rfl

@[simp] theorem State.setImage_powered (s : State) (x : Image) : (s.setImage x).powered = s.powered := rfl
@[simp] theorem State.setImage_ms (s : State) (x : Image) : (s.setImage x).ms = s.ms := rfl
@[simp] theorem State.setImage_time (s : State) (x : Image) : (s.setImage x).time = s.time := rfl
@[simp] theorem State.setImage_timeSet (s : State) (x : Image) : (s.setImage x).timeSet = s.timeSet := rfl
@[simp] theorem State.setImage_key (s : State) (x : Image) : (s.setImage x).key = s.key := rfl
@[simp] theorem State.setImage_receivers (s : State) (x : Image) : (s.setImage x).receivers = s.receivers := rfl
@[simp] theorem State.setImage_protection (s : State) (x : Image) : (s.setImage x).protection = s.protection := rfl
@[simp] theorem State.setImage_breakers (s : State) (x : Image) : (s.setImage x).breakers = s.breakers := rfl
@[simp] theorem State.setImage_sequencers (s : State) (x : Image) : (s.setImage x).sequencers = s.sequencers := rfl
@[simp] theorem State.setImage_holds (s : State) (x : Image) : (s.setImage x).holds = s.holds := rfl
@[simp] theorem State.setImage_fire (s : State) (x : Image) : (s.setImage x).fire = s.fire := rfl
@[simp] theorem State.setImage_bus (s : State) (x : Image) : (s.setImage x).bus = s.bus := rfl
@[simp] theorem State.setImage_hunt (s : State) (x : Image) : (s.setImage x).hunt = s.hunt := rfl
@[simp] theorem State.setImage_log (s : State) (x : Image) : (s.setImage x).log = s.log := rfl
@[simp] theorem State.setImage_store (s : State) (x : Image) : (s.setImage x).store = s.store := rfl
@[simp] theorem State.setImage_image (s : State) (x : Image) : (s.setImage x).image = x := rfl
@[simp] theorem State.setImage_ports (s : State) (x : Image) : (s.setImage x).ports = s.ports := rfl
@[simp] theorem State.setImage_restart (s : State) (x : Image) : (s.setImage x).restart = s.restart := rfl
@[simp] theorem State.setImage_pending (s : State) (x : Image) : (s.setImage x).pending = s.pending := rfl

@[simp] theorem State.setLog_powered (s : State) (x : Log) : (s.setLog x).powered = s.powered := rfl
@[simp] theorem State.setLog_ms (s : State) (x : Log) : (s.setLog x).ms = s.ms := rfl
@[simp] theorem State.setLog_time (s : State) (x : Log) : (s.setLog x).time = s.time := rfl
@[simp] theorem State.setLog_timeSet (s : State) (x : Log) : (s.setLog x).timeSet = s.timeSet := rfl
@[simp] theorem State.setLog_key (s : State) (x : Log) : (s.setLog x).key = s.key := rfl
@[simp] theorem State.setLog_receivers (s : State) (x : Log) : (s.setLog x).receivers = s.receivers := rfl
@[simp] theorem State.setLog_protection (s : State) (x : Log) : (s.setLog x).protection = s.protection := rfl
@[simp] theorem State.setLog_breakers (s : State) (x : Log) : (s.setLog x).breakers = s.breakers := rfl
@[simp] theorem State.setLog_sequencers (s : State) (x : Log) : (s.setLog x).sequencers = s.sequencers := rfl
@[simp] theorem State.setLog_holds (s : State) (x : Log) : (s.setLog x).holds = s.holds := rfl
@[simp] theorem State.setLog_fire (s : State) (x : Log) : (s.setLog x).fire = s.fire := rfl
@[simp] theorem State.setLog_bus (s : State) (x : Log) : (s.setLog x).bus = s.bus := rfl
@[simp] theorem State.setLog_hunt (s : State) (x : Log) : (s.setLog x).hunt = s.hunt := rfl
@[simp] theorem State.setLog_log (s : State) (x : Log) : (s.setLog x).log = x := rfl
@[simp] theorem State.setLog_store (s : State) (x : Log) : (s.setLog x).store = s.store := rfl
@[simp] theorem State.setLog_image (s : State) (x : Log) : (s.setLog x).image = s.image := rfl
@[simp] theorem State.setLog_ports (s : State) (x : Log) : (s.setLog x).ports = s.ports := rfl
@[simp] theorem State.setLog_restart (s : State) (x : Log) : (s.setLog x).restart = s.restart := rfl
@[simp] theorem State.setLog_pending (s : State) (x : Log) : (s.setLog x).pending = s.pending := rfl

@[simp] theorem State.withPending_powered (s : State) (x : List Instr) : (s.withPending x).powered = s.powered := rfl
@[simp] theorem State.withPending_ms (s : State) (x : List Instr) : (s.withPending x).ms = s.ms := rfl
@[simp] theorem State.withPending_time (s : State) (x : List Instr) : (s.withPending x).time = s.time := rfl
@[simp] theorem State.withPending_timeSet (s : State) (x : List Instr) : (s.withPending x).timeSet = s.timeSet := rfl
@[simp] theorem State.withPending_key (s : State) (x : List Instr) : (s.withPending x).key = s.key := rfl
@[simp] theorem State.withPending_receivers (s : State) (x : List Instr) : (s.withPending x).receivers = s.receivers := rfl
@[simp] theorem State.withPending_protection (s : State) (x : List Instr) : (s.withPending x).protection = s.protection := rfl
@[simp] theorem State.withPending_breakers (s : State) (x : List Instr) : (s.withPending x).breakers = s.breakers := rfl
@[simp] theorem State.withPending_sequencers (s : State) (x : List Instr) : (s.withPending x).sequencers = s.sequencers := rfl
@[simp] theorem State.withPending_holds (s : State) (x : List Instr) : (s.withPending x).holds = s.holds := rfl
@[simp] theorem State.withPending_fire (s : State) (x : List Instr) : (s.withPending x).fire = s.fire := rfl
@[simp] theorem State.withPending_bus (s : State) (x : List Instr) : (s.withPending x).bus = s.bus := rfl
@[simp] theorem State.withPending_hunt (s : State) (x : List Instr) : (s.withPending x).hunt = s.hunt := rfl
@[simp] theorem State.withPending_log (s : State) (x : List Instr) : (s.withPending x).log = s.log := rfl
@[simp] theorem State.withPending_store (s : State) (x : List Instr) : (s.withPending x).store = s.store := rfl
@[simp] theorem State.withPending_image (s : State) (x : List Instr) : (s.withPending x).image = s.image := rfl
@[simp] theorem State.withPending_ports (s : State) (x : List Instr) : (s.withPending x).ports = s.ports := rfl
@[simp] theorem State.withPending_restart (s : State) (x : List Instr) : (s.withPending x).restart = s.restart := rfl
@[simp] theorem State.withPending_pending (s : State) (x : List Instr) : (s.withPending x).pending = x := rfl

/-! ### Accessors -/

@[simp] theorem State.setReceiver_unit (s : State) (f : Feeder) (x : Receiver) (g : Feeder) : (s.setReceiver f x).unit g = s.unit g := rfl
@[simp] theorem State.setReceiver_breaker (s : State) (f : Feeder) (x : Receiver) (g : Feeder) : (s.setReceiver f x).breaker g = s.breaker g := rfl
@[simp] theorem State.setReceiver_sequencer (s : State) (f : Feeder) (x : Receiver) (g : Feeder) : (s.setReceiver f x).sequencer g = s.sequencer g := rfl
@[simp] theorem State.setReceiver_holdTable (s : State) (f : Feeder) (x : Receiver) (g : Feeder) : (s.setReceiver f x).holdTable g = s.holdTable g := rfl
@[simp] theorem State.setReceiver_effective (s : State) (f : Feeder) (x : Receiver) (g : Feeder) : (s.setReceiver f x).effective g = s.effective g := rfl
@[simp] theorem State.setReceiver_port (s : State) (f : Feeder) (x : Receiver) (q : Port) : (s.setReceiver f x).port q = s.port q := rfl
@[simp] theorem State.setReceiver_huntOn (s : State) (f : Feeder) (x : Receiver) (g : Feeder) : (s.setReceiver f x).huntOn g = s.huntOn g := rfl
@[simp] theorem State.setReceiver_unitRecord (s : State) (f : Feeder) (x : Receiver) (n : Nat) : (s.setReceiver f x).unitRecord n = s.unitRecord n := rfl
@[simp] theorem State.setReceiver_computeEffective (s : State) (f : Feeder) (x : Receiver) (g : Feeder) : (s.setReceiver f x).computeEffective g = s.computeEffective g := rfl
@[simp] theorem State.setReceiver_workingGroup (s : State) (f : Feeder) (x : Receiver) (g : Feeder) (l : Letter) : (s.setReceiver f x).workingGroup g l = s.workingGroup g l := rfl
@[simp] theorem State.setReceiver_huntBlock (s : State) (f : Feeder) (x : Receiver) (n : Nat) : (s.setReceiver f x).huntBlock n = s.huntBlock n := rfl
@[simp] theorem State.setReceiver_curve (s : State) (f : Feeder) (x : Receiver) (n : Nat) : (s.setReceiver f x).curve n = s.curve n := rfl
@[simp] theorem State.setReceiver_stamp (s : State) (f : Feeder) (x : Receiver) : (s.setReceiver f x).stamp = s.stamp := rfl

@[simp] theorem State.setUnit_receiver (s : State) (f : Feeder) (x : Protection) (g : Feeder) : (s.setUnit f x).receiver g = s.receiver g := rfl
@[simp] theorem State.setUnit_breaker (s : State) (f : Feeder) (x : Protection) (g : Feeder) : (s.setUnit f x).breaker g = s.breaker g := rfl
@[simp] theorem State.setUnit_sequencer (s : State) (f : Feeder) (x : Protection) (g : Feeder) : (s.setUnit f x).sequencer g = s.sequencer g := rfl
@[simp] theorem State.setUnit_holdTable (s : State) (f : Feeder) (x : Protection) (g : Feeder) : (s.setUnit f x).holdTable g = s.holdTable g := rfl
@[simp] theorem State.setUnit_effective (s : State) (f : Feeder) (x : Protection) (g : Feeder) : (s.setUnit f x).effective g = s.effective g := rfl
@[simp] theorem State.setUnit_port (s : State) (f : Feeder) (x : Protection) (q : Port) : (s.setUnit f x).port q = s.port q := rfl
@[simp] theorem State.setUnit_huntOn (s : State) (f : Feeder) (x : Protection) (g : Feeder) : (s.setUnit f x).huntOn g = s.huntOn g := rfl
@[simp] theorem State.setUnit_unitRecord (s : State) (f : Feeder) (x : Protection) (n : Nat) : (s.setUnit f x).unitRecord n = s.unitRecord n := rfl
@[simp] theorem State.setUnit_computeEffective (s : State) (f : Feeder) (x : Protection) (g : Feeder) : (s.setUnit f x).computeEffective g = s.computeEffective g := rfl
@[simp] theorem State.setUnit_workingGroup (s : State) (f : Feeder) (x : Protection) (g : Feeder) (l : Letter) : (s.setUnit f x).workingGroup g l = s.workingGroup g l := rfl
@[simp] theorem State.setUnit_huntBlock (s : State) (f : Feeder) (x : Protection) (n : Nat) : (s.setUnit f x).huntBlock n = s.huntBlock n := rfl
@[simp] theorem State.setUnit_curve (s : State) (f : Feeder) (x : Protection) (n : Nat) : (s.setUnit f x).curve n = s.curve n := rfl
@[simp] theorem State.setUnit_stamp (s : State) (f : Feeder) (x : Protection) : (s.setUnit f x).stamp = s.stamp := rfl

@[simp] theorem State.setBreaker_receiver (s : State) (f : Feeder) (x : Breaker) (g : Feeder) : (s.setBreaker f x).receiver g = s.receiver g := rfl
@[simp] theorem State.setBreaker_unit (s : State) (f : Feeder) (x : Breaker) (g : Feeder) : (s.setBreaker f x).unit g = s.unit g := rfl
@[simp] theorem State.setBreaker_sequencer (s : State) (f : Feeder) (x : Breaker) (g : Feeder) : (s.setBreaker f x).sequencer g = s.sequencer g := rfl
@[simp] theorem State.setBreaker_holdTable (s : State) (f : Feeder) (x : Breaker) (g : Feeder) : (s.setBreaker f x).holdTable g = s.holdTable g := rfl
@[simp] theorem State.setBreaker_effective (s : State) (f : Feeder) (x : Breaker) (g : Feeder) : (s.setBreaker f x).effective g = s.effective g := rfl
@[simp] theorem State.setBreaker_port (s : State) (f : Feeder) (x : Breaker) (q : Port) : (s.setBreaker f x).port q = s.port q := rfl
@[simp] theorem State.setBreaker_huntOn (s : State) (f : Feeder) (x : Breaker) (g : Feeder) : (s.setBreaker f x).huntOn g = s.huntOn g := rfl
@[simp] theorem State.setBreaker_unitRecord (s : State) (f : Feeder) (x : Breaker) (n : Nat) : (s.setBreaker f x).unitRecord n = s.unitRecord n := rfl
@[simp] theorem State.setBreaker_computeEffective (s : State) (f : Feeder) (x : Breaker) (g : Feeder) : (s.setBreaker f x).computeEffective g = s.computeEffective g := rfl
@[simp] theorem State.setBreaker_workingGroup (s : State) (f : Feeder) (x : Breaker) (g : Feeder) (l : Letter) : (s.setBreaker f x).workingGroup g l = s.workingGroup g l := rfl
@[simp] theorem State.setBreaker_huntBlock (s : State) (f : Feeder) (x : Breaker) (n : Nat) : (s.setBreaker f x).huntBlock n = s.huntBlock n := rfl
@[simp] theorem State.setBreaker_curve (s : State) (f : Feeder) (x : Breaker) (n : Nat) : (s.setBreaker f x).curve n = s.curve n := rfl
@[simp] theorem State.setBreaker_stamp (s : State) (f : Feeder) (x : Breaker) : (s.setBreaker f x).stamp = s.stamp := rfl

@[simp] theorem State.setSequencer_receiver (s : State) (f : Feeder) (x : Sequencer) (g : Feeder) : (s.setSequencer f x).receiver g = s.receiver g := rfl
@[simp] theorem State.setSequencer_unit (s : State) (f : Feeder) (x : Sequencer) (g : Feeder) : (s.setSequencer f x).unit g = s.unit g := rfl
@[simp] theorem State.setSequencer_breaker (s : State) (f : Feeder) (x : Sequencer) (g : Feeder) : (s.setSequencer f x).breaker g = s.breaker g := rfl
@[simp] theorem State.setSequencer_holdTable (s : State) (f : Feeder) (x : Sequencer) (g : Feeder) : (s.setSequencer f x).holdTable g = s.holdTable g := rfl
@[simp] theorem State.setSequencer_effective (s : State) (f : Feeder) (x : Sequencer) (g : Feeder) : (s.setSequencer f x).effective g = s.effective g := rfl
@[simp] theorem State.setSequencer_port (s : State) (f : Feeder) (x : Sequencer) (q : Port) : (s.setSequencer f x).port q = s.port q := rfl
@[simp] theorem State.setSequencer_huntOn (s : State) (f : Feeder) (x : Sequencer) (g : Feeder) : (s.setSequencer f x).huntOn g = s.huntOn g := rfl
@[simp] theorem State.setSequencer_unitRecord (s : State) (f : Feeder) (x : Sequencer) (n : Nat) : (s.setSequencer f x).unitRecord n = s.unitRecord n := rfl
@[simp] theorem State.setSequencer_computeEffective (s : State) (f : Feeder) (x : Sequencer) (g : Feeder) : (s.setSequencer f x).computeEffective g = s.computeEffective g := rfl
@[simp] theorem State.setSequencer_workingGroup (s : State) (f : Feeder) (x : Sequencer) (g : Feeder) (l : Letter) : (s.setSequencer f x).workingGroup g l = s.workingGroup g l := rfl
@[simp] theorem State.setSequencer_huntBlock (s : State) (f : Feeder) (x : Sequencer) (n : Nat) : (s.setSequencer f x).huntBlock n = s.huntBlock n := rfl
@[simp] theorem State.setSequencer_curve (s : State) (f : Feeder) (x : Sequencer) (n : Nat) : (s.setSequencer f x).curve n = s.curve n := rfl
@[simp] theorem State.setSequencer_stamp (s : State) (f : Feeder) (x : Sequencer) : (s.setSequencer f x).stamp = s.stamp := rfl

@[simp] theorem State.setHoldTable_receiver (s : State) (f : Feeder) (x : HoldTable) (g : Feeder) : (s.setHoldTable f x).receiver g = s.receiver g := rfl
@[simp] theorem State.setHoldTable_unit (s : State) (f : Feeder) (x : HoldTable) (g : Feeder) : (s.setHoldTable f x).unit g = s.unit g := rfl
@[simp] theorem State.setHoldTable_breaker (s : State) (f : Feeder) (x : HoldTable) (g : Feeder) : (s.setHoldTable f x).breaker g = s.breaker g := rfl
@[simp] theorem State.setHoldTable_sequencer (s : State) (f : Feeder) (x : HoldTable) (g : Feeder) : (s.setHoldTable f x).sequencer g = s.sequencer g := rfl
@[simp] theorem State.setHoldTable_effective (s : State) (f : Feeder) (x : HoldTable) (g : Feeder) : (s.setHoldTable f x).effective g = s.effective g := rfl
@[simp] theorem State.setHoldTable_port (s : State) (f : Feeder) (x : HoldTable) (q : Port) : (s.setHoldTable f x).port q = s.port q := rfl
@[simp] theorem State.setHoldTable_huntOn (s : State) (f : Feeder) (x : HoldTable) (g : Feeder) : (s.setHoldTable f x).huntOn g = s.huntOn g := rfl
@[simp] theorem State.setHoldTable_unitRecord (s : State) (f : Feeder) (x : HoldTable) (n : Nat) : (s.setHoldTable f x).unitRecord n = s.unitRecord n := rfl
@[simp] theorem State.setHoldTable_computeEffective (s : State) (f : Feeder) (x : HoldTable) (g : Feeder) : (s.setHoldTable f x).computeEffective g = s.computeEffective g := rfl
@[simp] theorem State.setHoldTable_workingGroup (s : State) (f : Feeder) (x : HoldTable) (g : Feeder) (l : Letter) : (s.setHoldTable f x).workingGroup g l = s.workingGroup g l := rfl
@[simp] theorem State.setHoldTable_huntBlock (s : State) (f : Feeder) (x : HoldTable) (n : Nat) : (s.setHoldTable f x).huntBlock n = s.huntBlock n := rfl
@[simp] theorem State.setHoldTable_curve (s : State) (f : Feeder) (x : HoldTable) (n : Nat) : (s.setHoldTable f x).curve n = s.curve n := rfl
@[simp] theorem State.setHoldTable_stamp (s : State) (f : Feeder) (x : HoldTable) : (s.setHoldTable f x).stamp = s.stamp := rfl

@[simp] theorem State.setPort_receiver (s : State) (p : Port) (x : PortState) (g : Feeder) : (s.setPort p x).receiver g = s.receiver g := rfl
@[simp] theorem State.setPort_unit (s : State) (p : Port) (x : PortState) (g : Feeder) : (s.setPort p x).unit g = s.unit g := rfl
@[simp] theorem State.setPort_breaker (s : State) (p : Port) (x : PortState) (g : Feeder) : (s.setPort p x).breaker g = s.breaker g := rfl
@[simp] theorem State.setPort_sequencer (s : State) (p : Port) (x : PortState) (g : Feeder) : (s.setPort p x).sequencer g = s.sequencer g := rfl
@[simp] theorem State.setPort_holdTable (s : State) (p : Port) (x : PortState) (g : Feeder) : (s.setPort p x).holdTable g = s.holdTable g := rfl
@[simp] theorem State.setPort_effective (s : State) (p : Port) (x : PortState) (g : Feeder) : (s.setPort p x).effective g = s.effective g := rfl
@[simp] theorem State.setPort_huntOn (s : State) (p : Port) (x : PortState) (g : Feeder) : (s.setPort p x).huntOn g = s.huntOn g := rfl
@[simp] theorem State.setPort_unitRecord (s : State) (p : Port) (x : PortState) (n : Nat) : (s.setPort p x).unitRecord n = s.unitRecord n := rfl
@[simp] theorem State.setPort_computeEffective (s : State) (p : Port) (x : PortState) (g : Feeder) : (s.setPort p x).computeEffective g = s.computeEffective g := rfl
@[simp] theorem State.setPort_workingGroup (s : State) (p : Port) (x : PortState) (g : Feeder) (l : Letter) : (s.setPort p x).workingGroup g l = s.workingGroup g l := rfl
@[simp] theorem State.setPort_huntBlock (s : State) (p : Port) (x : PortState) (n : Nat) : (s.setPort p x).huntBlock n = s.huntBlock n := rfl
@[simp] theorem State.setPort_curve (s : State) (p : Port) (x : PortState) (n : Nat) : (s.setPort p x).curve n = s.curve n := rfl
@[simp] theorem State.setPort_stamp (s : State) (p : Port) (x : PortState) : (s.setPort p x).stamp = s.stamp := rfl

@[simp] theorem State.setHunt_receiver (s : State) (x : Hunt) (g : Feeder) : (s.setHunt x).receiver g = s.receiver g := rfl
@[simp] theorem State.setHunt_unit (s : State) (x : Hunt) (g : Feeder) : (s.setHunt x).unit g = s.unit g := rfl
@[simp] theorem State.setHunt_breaker (s : State) (x : Hunt) (g : Feeder) : (s.setHunt x).breaker g = s.breaker g := rfl
@[simp] theorem State.setHunt_sequencer (s : State) (x : Hunt) (g : Feeder) : (s.setHunt x).sequencer g = s.sequencer g := rfl
@[simp] theorem State.setHunt_holdTable (s : State) (x : Hunt) (g : Feeder) : (s.setHunt x).holdTable g = s.holdTable g := rfl
@[simp] theorem State.setHunt_effective (s : State) (x : Hunt) (g : Feeder) : (s.setHunt x).effective g = s.effective g := rfl
@[simp] theorem State.setHunt_port (s : State) (x : Hunt) (q : Port) : (s.setHunt x).port q = s.port q := rfl
@[simp] theorem State.setHunt_unitRecord (s : State) (x : Hunt) (n : Nat) : (s.setHunt x).unitRecord n = s.unitRecord n := rfl
@[simp] theorem State.setHunt_computeEffective (s : State) (x : Hunt) (g : Feeder) : (s.setHunt x).computeEffective g = s.computeEffective g := rfl
@[simp] theorem State.setHunt_workingGroup (s : State) (x : Hunt) (g : Feeder) (l : Letter) : (s.setHunt x).workingGroup g l = s.workingGroup g l := rfl
@[simp] theorem State.setHunt_curve (s : State) (x : Hunt) (n : Nat) : (s.setHunt x).curve n = s.curve n := rfl
@[simp] theorem State.setHunt_stamp (s : State) (x : Hunt) : (s.setHunt x).stamp = s.stamp := rfl

@[simp] theorem State.setBus_receiver (s : State) (x : Bus) (g : Feeder) : (s.setBus x).receiver g = s.receiver g := rfl
@[simp] theorem State.setBus_unit (s : State) (x : Bus) (g : Feeder) : (s.setBus x).unit g = s.unit g := rfl
@[simp] theorem State.setBus_breaker (s : State) (x : Bus) (g : Feeder) : (s.setBus x).breaker g = s.breaker g := rfl
@[simp] theorem State.setBus_sequencer (s : State) (x : Bus) (g : Feeder) : (s.setBus x).sequencer g = s.sequencer g := rfl
@[simp] theorem State.setBus_holdTable (s : State) (x : Bus) (g : Feeder) : (s.setBus x).holdTable g = s.holdTable g := rfl
@[simp] theorem State.setBus_effective (s : State) (x : Bus) (g : Feeder) : (s.setBus x).effective g = s.effective g := rfl
@[simp] theorem State.setBus_port (s : State) (x : Bus) (q : Port) : (s.setBus x).port q = s.port q := rfl
@[simp] theorem State.setBus_huntOn (s : State) (x : Bus) (g : Feeder) : (s.setBus x).huntOn g = s.huntOn g := rfl
@[simp] theorem State.setBus_computeEffective (s : State) (x : Bus) (g : Feeder) : (s.setBus x).computeEffective g = s.computeEffective g := rfl
@[simp] theorem State.setBus_workingGroup (s : State) (x : Bus) (g : Feeder) (l : Letter) : (s.setBus x).workingGroup g l = s.workingGroup g l := rfl
@[simp] theorem State.setBus_huntBlock (s : State) (x : Bus) (n : Nat) : (s.setBus x).huntBlock n = s.huntBlock n := rfl
@[simp] theorem State.setBus_curve (s : State) (x : Bus) (n : Nat) : (s.setBus x).curve n = s.curve n := rfl
@[simp] theorem State.setBus_stamp (s : State) (x : Bus) : (s.setBus x).stamp = s.stamp := rfl

@[simp] theorem State.setFire_receiver (s : State) (x : FireController) (g : Feeder) : (s.setFire x).receiver g = s.receiver g := rfl
@[simp] theorem State.setFire_unit (s : State) (x : FireController) (g : Feeder) : (s.setFire x).unit g = s.unit g := rfl
@[simp] theorem State.setFire_breaker (s : State) (x : FireController) (g : Feeder) : (s.setFire x).breaker g = s.breaker g := rfl
@[simp] theorem State.setFire_sequencer (s : State) (x : FireController) (g : Feeder) : (s.setFire x).sequencer g = s.sequencer g := rfl
@[simp] theorem State.setFire_holdTable (s : State) (x : FireController) (g : Feeder) : (s.setFire x).holdTable g = s.holdTable g := rfl
@[simp] theorem State.setFire_port (s : State) (x : FireController) (q : Port) : (s.setFire x).port q = s.port q := rfl
@[simp] theorem State.setFire_huntOn (s : State) (x : FireController) (g : Feeder) : (s.setFire x).huntOn g = s.huntOn g := rfl
@[simp] theorem State.setFire_unitRecord (s : State) (x : FireController) (n : Nat) : (s.setFire x).unitRecord n = s.unitRecord n := rfl
@[simp] theorem State.setFire_huntBlock (s : State) (x : FireController) (n : Nat) : (s.setFire x).huntBlock n = s.huntBlock n := rfl
@[simp] theorem State.setFire_stamp (s : State) (x : FireController) : (s.setFire x).stamp = s.stamp := rfl

@[simp] theorem State.setStore_receiver (s : State) (x : Store) (g : Feeder) : (s.setStore x).receiver g = s.receiver g := rfl
@[simp] theorem State.setStore_unit (s : State) (x : Store) (g : Feeder) : (s.setStore x).unit g = s.unit g := rfl
@[simp] theorem State.setStore_breaker (s : State) (x : Store) (g : Feeder) : (s.setStore x).breaker g = s.breaker g := rfl
@[simp] theorem State.setStore_sequencer (s : State) (x : Store) (g : Feeder) : (s.setStore x).sequencer g = s.sequencer g := rfl
@[simp] theorem State.setStore_holdTable (s : State) (x : Store) (g : Feeder) : (s.setStore x).holdTable g = s.holdTable g := rfl
@[simp] theorem State.setStore_effective (s : State) (x : Store) (g : Feeder) : (s.setStore x).effective g = s.effective g := rfl
@[simp] theorem State.setStore_port (s : State) (x : Store) (q : Port) : (s.setStore x).port q = s.port q := rfl
@[simp] theorem State.setStore_huntOn (s : State) (x : Store) (g : Feeder) : (s.setStore x).huntOn g = s.huntOn g := rfl
@[simp] theorem State.setStore_unitRecord (s : State) (x : Store) (n : Nat) : (s.setStore x).unitRecord n = s.unitRecord n := rfl
@[simp] theorem State.setStore_computeEffective (s : State) (x : Store) (g : Feeder) : (s.setStore x).computeEffective g = s.computeEffective g := rfl
@[simp] theorem State.setStore_workingGroup (s : State) (x : Store) (g : Feeder) (l : Letter) : (s.setStore x).workingGroup g l = s.workingGroup g l := rfl
@[simp] theorem State.setStore_huntBlock (s : State) (x : Store) (n : Nat) : (s.setStore x).huntBlock n = s.huntBlock n := rfl
@[simp] theorem State.setStore_curve (s : State) (x : Store) (n : Nat) : (s.setStore x).curve n = s.curve n := rfl
@[simp] theorem State.setStore_stamp (s : State) (x : Store) : (s.setStore x).stamp = s.stamp := rfl

@[simp] theorem State.setImage_receiver (s : State) (x : Image) (g : Feeder) : (s.setImage x).receiver g = s.receiver g := rfl
@[simp] theorem State.setImage_unit (s : State) (x : Image) (g : Feeder) : (s.setImage x).unit g = s.unit g := rfl
@[simp] theorem State.setImage_breaker (s : State) (x : Image) (g : Feeder) : (s.setImage x).breaker g = s.breaker g := rfl
@[simp] theorem State.setImage_sequencer (s : State) (x : Image) (g : Feeder) : (s.setImage x).sequencer g = s.sequencer g := rfl
@[simp] theorem State.setImage_holdTable (s : State) (x : Image) (g : Feeder) : (s.setImage x).holdTable g = s.holdTable g := rfl
@[simp] theorem State.setImage_effective (s : State) (x : Image) (g : Feeder) : (s.setImage x).effective g = s.effective g := rfl
@[simp] theorem State.setImage_port (s : State) (x : Image) (q : Port) : (s.setImage x).port q = s.port q := rfl
@[simp] theorem State.setImage_huntOn (s : State) (x : Image) (g : Feeder) : (s.setImage x).huntOn g = s.huntOn g := rfl
@[simp] theorem State.setImage_unitRecord (s : State) (x : Image) (n : Nat) : (s.setImage x).unitRecord n = s.unitRecord n := rfl
@[simp] theorem State.setImage_computeEffective (s : State) (x : Image) (g : Feeder) : (s.setImage x).computeEffective g = s.computeEffective g := rfl
@[simp] theorem State.setImage_workingGroup (s : State) (x : Image) (g : Feeder) (l : Letter) : (s.setImage x).workingGroup g l = s.workingGroup g l := rfl
@[simp] theorem State.setImage_huntBlock (s : State) (x : Image) (n : Nat) : (s.setImage x).huntBlock n = s.huntBlock n := rfl
@[simp] theorem State.setImage_curve (s : State) (x : Image) (n : Nat) : (s.setImage x).curve n = s.curve n := rfl
@[simp] theorem State.setImage_stamp (s : State) (x : Image) : (s.setImage x).stamp = s.stamp := rfl

@[simp] theorem State.setLog_receiver (s : State) (x : Log) (g : Feeder) : (s.setLog x).receiver g = s.receiver g := rfl
@[simp] theorem State.setLog_unit (s : State) (x : Log) (g : Feeder) : (s.setLog x).unit g = s.unit g := rfl
@[simp] theorem State.setLog_breaker (s : State) (x : Log) (g : Feeder) : (s.setLog x).breaker g = s.breaker g := rfl
@[simp] theorem State.setLog_sequencer (s : State) (x : Log) (g : Feeder) : (s.setLog x).sequencer g = s.sequencer g := rfl
@[simp] theorem State.setLog_holdTable (s : State) (x : Log) (g : Feeder) : (s.setLog x).holdTable g = s.holdTable g := rfl
@[simp] theorem State.setLog_effective (s : State) (x : Log) (g : Feeder) : (s.setLog x).effective g = s.effective g := rfl
@[simp] theorem State.setLog_port (s : State) (x : Log) (q : Port) : (s.setLog x).port q = s.port q := rfl
@[simp] theorem State.setLog_huntOn (s : State) (x : Log) (g : Feeder) : (s.setLog x).huntOn g = s.huntOn g := rfl
@[simp] theorem State.setLog_unitRecord (s : State) (x : Log) (n : Nat) : (s.setLog x).unitRecord n = s.unitRecord n := rfl
@[simp] theorem State.setLog_computeEffective (s : State) (x : Log) (g : Feeder) : (s.setLog x).computeEffective g = s.computeEffective g := rfl
@[simp] theorem State.setLog_workingGroup (s : State) (x : Log) (g : Feeder) (l : Letter) : (s.setLog x).workingGroup g l = s.workingGroup g l := rfl
@[simp] theorem State.setLog_huntBlock (s : State) (x : Log) (n : Nat) : (s.setLog x).huntBlock n = s.huntBlock n := rfl
@[simp] theorem State.setLog_curve (s : State) (x : Log) (n : Nat) : (s.setLog x).curve n = s.curve n := rfl
@[simp] theorem State.setLog_stamp (s : State) (x : Log) : (s.setLog x).stamp = s.stamp := rfl

@[simp] theorem State.withPending_receiver (s : State) (x : List Instr) (g : Feeder) : (s.withPending x).receiver g = s.receiver g := rfl
@[simp] theorem State.withPending_unit (s : State) (x : List Instr) (g : Feeder) : (s.withPending x).unit g = s.unit g := rfl
@[simp] theorem State.withPending_breaker (s : State) (x : List Instr) (g : Feeder) : (s.withPending x).breaker g = s.breaker g := rfl
@[simp] theorem State.withPending_sequencer (s : State) (x : List Instr) (g : Feeder) : (s.withPending x).sequencer g = s.sequencer g := rfl
@[simp] theorem State.withPending_holdTable (s : State) (x : List Instr) (g : Feeder) : (s.withPending x).holdTable g = s.holdTable g := rfl
@[simp] theorem State.withPending_effective (s : State) (x : List Instr) (g : Feeder) : (s.withPending x).effective g = s.effective g := rfl
@[simp] theorem State.withPending_port (s : State) (x : List Instr) (q : Port) : (s.withPending x).port q = s.port q := rfl
@[simp] theorem State.withPending_huntOn (s : State) (x : List Instr) (g : Feeder) : (s.withPending x).huntOn g = s.huntOn g := rfl
@[simp] theorem State.withPending_unitRecord (s : State) (x : List Instr) (n : Nat) : (s.withPending x).unitRecord n = s.unitRecord n := rfl
@[simp] theorem State.withPending_computeEffective (s : State) (x : List Instr) (g : Feeder) : (s.withPending x).computeEffective g = s.computeEffective g := rfl
@[simp] theorem State.withPending_workingGroup (s : State) (x : List Instr) (g : Feeder) (l : Letter) : (s.withPending x).workingGroup g l = s.workingGroup g l := rfl
@[simp] theorem State.withPending_huntBlock (s : State) (x : List Instr) (n : Nat) : (s.withPending x).huntBlock n = s.huntBlock n := rfl
@[simp] theorem State.withPending_curve (s : State) (x : List Instr) (n : Nat) : (s.withPending x).curve n = s.curve n := rfl
@[simp] theorem State.withPending_stamp (s : State) (x : List Instr) : (s.withPending x).stamp = s.stamp := rfl

@[simp] theorem State.setReceiver_receiver_self (s : State) (f : Feeder) (x : Receiver) : (s.setReceiver f x).receiver f = x := feederGet_set_self _ _ _
theorem State.setReceiver_receiver_ne (s : State) {f g : Feeder} (h : g ≠ f) (x : Receiver) : (s.setReceiver f x).receiver g = s.receiver g :=
  feederGet_set_of_ne _ h _
theorem State.setReceiver_receiver (s : State) (f : Feeder) (x : Receiver) (g : Feeder) : (s.setReceiver f x).receiver g = if g = f then x else s.receiver g :=
  feederGet_set _ _ _ _
@[simp] theorem State.setUnit_unit_self (s : State) (f : Feeder) (x : Protection) : (s.setUnit f x).unit f = x := feederGet_set_self _ _ _
theorem State.setUnit_unit_ne (s : State) {f g : Feeder} (h : g ≠ f) (x : Protection) : (s.setUnit f x).unit g = s.unit g :=
  feederGet_set_of_ne _ h _
theorem State.setUnit_unit (s : State) (f : Feeder) (x : Protection) (g : Feeder) : (s.setUnit f x).unit g = if g = f then x else s.unit g :=
  feederGet_set _ _ _ _
@[simp] theorem State.setBreaker_breaker_self (s : State) (f : Feeder) (x : Breaker) : (s.setBreaker f x).breaker f = x := feederGet_set_self _ _ _
theorem State.setBreaker_breaker_ne (s : State) {f g : Feeder} (h : g ≠ f) (x : Breaker) : (s.setBreaker f x).breaker g = s.breaker g :=
  feederGet_set_of_ne _ h _
theorem State.setBreaker_breaker (s : State) (f : Feeder) (x : Breaker) (g : Feeder) : (s.setBreaker f x).breaker g = if g = f then x else s.breaker g :=
  feederGet_set _ _ _ _
@[simp] theorem State.setSequencer_sequencer_self (s : State) (f : Feeder) (x : Sequencer) : (s.setSequencer f x).sequencer f = x := feederGet_set_self _ _ _
theorem State.setSequencer_sequencer_ne (s : State) {f g : Feeder} (h : g ≠ f) (x : Sequencer) : (s.setSequencer f x).sequencer g = s.sequencer g :=
  feederGet_set_of_ne _ h _
theorem State.setSequencer_sequencer (s : State) (f : Feeder) (x : Sequencer) (g : Feeder) : (s.setSequencer f x).sequencer g = if g = f then x else s.sequencer g :=
  feederGet_set _ _ _ _
@[simp] theorem State.setHoldTable_holdTable_self (s : State) (f : Feeder) (x : HoldTable) : (s.setHoldTable f x).holdTable f = x := feederGet_set_self _ _ _
theorem State.setHoldTable_holdTable_ne (s : State) {f g : Feeder} (h : g ≠ f) (x : HoldTable) : (s.setHoldTable f x).holdTable g = s.holdTable g :=
  feederGet_set_of_ne _ h _
theorem State.setHoldTable_holdTable (s : State) (f : Feeder) (x : HoldTable) (g : Feeder) : (s.setHoldTable f x).holdTable g = if g = f then x else s.holdTable g :=
  feederGet_set _ _ _ _
@[simp] theorem State.setPort_port_self (s : State) (p : Port) (x : PortState) : (s.setPort p x).port p = x := portGet_set_self _ _ _
theorem State.setPort_port_ne (s : State) {p q : Port} (h : q ≠ p) (x : PortState) : (s.setPort p x).port q = s.port q :=
  portGet_set_of_ne _ h _
theorem State.setPort_port (s : State) (p : Port) (x : PortState) (q : Port) : (s.setPort p x).port q = if q = p then x else s.port q :=
  portGet_set _ _ _ _

@[simp] theorem State.setPort_setPort (s : State) (p : Port) (x y : PortState) : (s.setPort p x).setPort p y = s.setPort p y := by
  simp [State.setPort]

@[simp] theorem State.setPort_port_eq (s : State) (p : Port) : s.setPort p (s.port p) = s := by
  cases p <;> rfl

end Sys2Proof.Machine
end

