-- ==== Sys2Proof/Laws/Ops.lean ====
section
/-! SUPPORT. What the shared operations of Machine/Ops.lean and Machine/Flags.lean can do: the append to the log, the
attention flags, the answer to a request. -/

namespace Sys2Proof.Machine

/-! ### The append (R172, R173) -/

/-- The log after an append: the oldest record dropped when 128 stood, the new record last. -/
def Log.appended (l : Log) (t : Stamp) (feeder : Option Feeder) (source : RecordSource) (d : Details) : Log :=
  { records := (if l.records.length < logCapacity then l.records else l.records.tail) ++
      [{ seq := l.next, stamp := t, feeder := feeder, source := source, details := d }]
    next := l.next + 1 }

/-- A port after an append: its pointer moves when it names the dropped record (R173). -/
def PortState.appended (l : Log) (q : PortState) : PortState :=
  if l.records.length < logCapacity then q
  else
    match l.records with
    | [] => q
    | r :: rest => q.dropped r.seq (Log.oldest { l with records := rest })

/-- All that room made can do. -/
theorem State.makeRoom_spec (s : State) :
    s.makeRoom =
      { s with
        log := { s.log with records := if s.log.records.length < logCapacity then s.log.records else s.log.records.tail }
        ports := portMap (PortState.appended s.log) s.ports } := by
  unfold State.makeRoom
  split
  · rename_i h
    cases s; rename_i p _ _; cases p; simp_all [portMap, PortState.appended]
  · rename_i h
    unfold State.dropOldest
    split
    · rename_i hr; simp [hr, logCapacity] at h
    · rename_i r rest hr
      cases s; rename_i lg _ _ p _ _
      simp_all [portMap, PortState.appended]

/-- All that an append can do: the log takes the record, and a drop moves the ports' pointers; nothing else changes. -/
theorem State.append_spec (s : State) (feeder : Option Feeder) (source : RecordSource) (d : Details) :
    s.append feeder source d =
      { s with
        log := s.log.appended s.stamp feeder source d
        ports := portMap (PortState.appended s.log) s.ports } := by
  simp [State.append, State.makeRoom_spec, Log.appended, State.stamp]

@[simp] theorem State.makeRoom_powered (s : State) : (s.makeRoom).powered = s.powered := by rw [State.makeRoom_spec]
@[simp] theorem State.makeRoom_ms (s : State) : (s.makeRoom).ms = s.ms := by rw [State.makeRoom_spec]
@[simp] theorem State.makeRoom_time (s : State) : (s.makeRoom).time = s.time := by rw [State.makeRoom_spec]
@[simp] theorem State.makeRoom_timeSet (s : State) : (s.makeRoom).timeSet = s.timeSet := by rw [State.makeRoom_spec]
@[simp] theorem State.makeRoom_key (s : State) : (s.makeRoom).key = s.key := by rw [State.makeRoom_spec]
@[simp] theorem State.makeRoom_receivers (s : State) : (s.makeRoom).receivers = s.receivers := by rw [State.makeRoom_spec]
@[simp] theorem State.makeRoom_protection (s : State) : (s.makeRoom).protection = s.protection := by rw [State.makeRoom_spec]
@[simp] theorem State.makeRoom_breakers (s : State) : (s.makeRoom).breakers = s.breakers := by rw [State.makeRoom_spec]
@[simp] theorem State.makeRoom_sequencers (s : State) : (s.makeRoom).sequencers = s.sequencers := by rw [State.makeRoom_spec]
@[simp] theorem State.makeRoom_holds (s : State) : (s.makeRoom).holds = s.holds := by rw [State.makeRoom_spec]
@[simp] theorem State.makeRoom_fire (s : State) : (s.makeRoom).fire = s.fire := by rw [State.makeRoom_spec]
@[simp] theorem State.makeRoom_bus (s : State) : (s.makeRoom).bus = s.bus := by rw [State.makeRoom_spec]
@[simp] theorem State.makeRoom_hunt (s : State) : (s.makeRoom).hunt = s.hunt := by rw [State.makeRoom_spec]
@[simp] theorem State.makeRoom_store (s : State) : (s.makeRoom).store = s.store := by rw [State.makeRoom_spec]
@[simp] theorem State.makeRoom_image (s : State) : (s.makeRoom).image = s.image := by rw [State.makeRoom_spec]
@[simp] theorem State.makeRoom_restart (s : State) : (s.makeRoom).restart = s.restart := by rw [State.makeRoom_spec]
@[simp] theorem State.makeRoom_pending (s : State) : (s.makeRoom).pending = s.pending := by rw [State.makeRoom_spec]
@[simp] theorem State.makeRoom_receiver (s : State) (g : Feeder) : (s.makeRoom).receiver g = s.receiver g := by simp [State.receiver]
@[simp] theorem State.makeRoom_unit (s : State) (g : Feeder) : (s.makeRoom).unit g = s.unit g := by simp [State.unit]
@[simp] theorem State.makeRoom_breaker (s : State) (g : Feeder) : (s.makeRoom).breaker g = s.breaker g := by simp [State.breaker]
@[simp] theorem State.makeRoom_sequencer (s : State) (g : Feeder) : (s.makeRoom).sequencer g = s.sequencer g := by simp [State.sequencer]
@[simp] theorem State.makeRoom_holdTable (s : State) (g : Feeder) : (s.makeRoom).holdTable g = s.holdTable g := by simp [State.holdTable]
@[simp] theorem State.makeRoom_effective (s : State) (g : Feeder) : (s.makeRoom).effective g = s.effective g := by simp [State.effective]
@[simp] theorem State.makeRoom_huntOn (s : State) (g : Feeder) : (s.makeRoom).huntOn g = s.huntOn g := by simp [State.huntOn]
@[simp] theorem State.makeRoom_stamp (s : State) : (s.makeRoom).stamp = s.stamp := by simp [State.stamp]

@[simp] theorem State.append_powered (s : State) (f : Option Feeder) (b : RecordSource) (d : Details) : (s.append f b d).powered = s.powered := by rw [State.append_spec]
@[simp] theorem State.append_ms (s : State) (f : Option Feeder) (b : RecordSource) (d : Details) : (s.append f b d).ms = s.ms := by rw [State.append_spec]
@[simp] theorem State.append_time (s : State) (f : Option Feeder) (b : RecordSource) (d : Details) : (s.append f b d).time = s.time := by rw [State.append_spec]
@[simp] theorem State.append_timeSet (s : State) (f : Option Feeder) (b : RecordSource) (d : Details) : (s.append f b d).timeSet = s.timeSet := by rw [State.append_spec]
@[simp] theorem State.append_key (s : State) (f : Option Feeder) (b : RecordSource) (d : Details) : (s.append f b d).key = s.key := by rw [State.append_spec]
@[simp] theorem State.append_receivers (s : State) (f : Option Feeder) (b : RecordSource) (d : Details) : (s.append f b d).receivers = s.receivers := by rw [State.append_spec]
@[simp] theorem State.append_protection (s : State) (f : Option Feeder) (b : RecordSource) (d : Details) : (s.append f b d).protection = s.protection := by rw [State.append_spec]
@[simp] theorem State.append_breakers (s : State) (f : Option Feeder) (b : RecordSource) (d : Details) : (s.append f b d).breakers = s.breakers := by rw [State.append_spec]
@[simp] theorem State.append_sequencers (s : State) (f : Option Feeder) (b : RecordSource) (d : Details) : (s.append f b d).sequencers = s.sequencers := by rw [State.append_spec]
@[simp] theorem State.append_holds (s : State) (f : Option Feeder) (b : RecordSource) (d : Details) : (s.append f b d).holds = s.holds := by rw [State.append_spec]
@[simp] theorem State.append_fire (s : State) (f : Option Feeder) (b : RecordSource) (d : Details) : (s.append f b d).fire = s.fire := by rw [State.append_spec]
@[simp] theorem State.append_bus (s : State) (f : Option Feeder) (b : RecordSource) (d : Details) : (s.append f b d).bus = s.bus := by rw [State.append_spec]
@[simp] theorem State.append_hunt (s : State) (f : Option Feeder) (b : RecordSource) (d : Details) : (s.append f b d).hunt = s.hunt := by rw [State.append_spec]
@[simp] theorem State.append_store (s : State) (f : Option Feeder) (b : RecordSource) (d : Details) : (s.append f b d).store = s.store := by rw [State.append_spec]
@[simp] theorem State.append_image (s : State) (f : Option Feeder) (b : RecordSource) (d : Details) : (s.append f b d).image = s.image := by rw [State.append_spec]
@[simp] theorem State.append_restart (s : State) (f : Option Feeder) (b : RecordSource) (d : Details) : (s.append f b d).restart = s.restart := by rw [State.append_spec]
@[simp] theorem State.append_pending (s : State) (f : Option Feeder) (b : RecordSource) (d : Details) : (s.append f b d).pending = s.pending := by rw [State.append_spec]
@[simp] theorem State.append_receiver (s : State) (f : Option Feeder) (b : RecordSource) (d : Details) (g : Feeder) : (s.append f b d).receiver g = s.receiver g := by simp [State.receiver]
@[simp] theorem State.append_unit (s : State) (f : Option Feeder) (b : RecordSource) (d : Details) (g : Feeder) : (s.append f b d).unit g = s.unit g := by simp [State.unit]
@[simp] theorem State.append_breaker (s : State) (f : Option Feeder) (b : RecordSource) (d : Details) (g : Feeder) : (s.append f b d).breaker g = s.breaker g := by simp [State.breaker]
@[simp] theorem State.append_sequencer (s : State) (f : Option Feeder) (b : RecordSource) (d : Details) (g : Feeder) : (s.append f b d).sequencer g = s.sequencer g := by simp [State.sequencer]
@[simp] theorem State.append_holdTable (s : State) (f : Option Feeder) (b : RecordSource) (d : Details) (g : Feeder) : (s.append f b d).holdTable g = s.holdTable g := by simp [State.holdTable]
@[simp] theorem State.append_effective (s : State) (f : Option Feeder) (b : RecordSource) (d : Details) (g : Feeder) : (s.append f b d).effective g = s.effective g := by simp [State.effective]
@[simp] theorem State.append_huntOn (s : State) (f : Option Feeder) (b : RecordSource) (d : Details) (g : Feeder) : (s.append f b d).huntOn g = s.huntOn g := by simp [State.huntOn]
@[simp] theorem State.append_stamp (s : State) (f : Option Feeder) (b : RecordSource) (d : Details) : (s.append f b d).stamp = s.stamp := by simp [State.stamp]

@[simp] theorem State.append_log (s : State) (f : Option Feeder) (b : RecordSource) (d : Details) :
    (s.append f b d).log = s.log.appended s.stamp f b d := by rw [State.append_spec]

@[simp] theorem State.append_port (s : State) (f : Option Feeder) (b : RecordSource) (d : Details) (p : Port) :
    (s.append f b d).port p = (s.port p).appended s.log := by
  rw [State.append_spec]; simp [State.port]

theorem PortState.appended_eq (l : Log) (q : PortState) :
    q.appended l = { q with
      pointer := (q.appended l).pointer, overrun := (q.appended l).overrun, lost := (q.appended l).lost } := by
  unfold PortState.appended PortState.dropped; split
  · rfl
  · split
    · rfl
    · split <;> rfl

@[simp] theorem PortState.appended_slot (l : Log) (q : PortState) : (q.appended l).slot = q.slot := by
  rw [PortState.appended_eq]
@[simp] theorem PortState.appended_busyNote (l : Log) (q : PortState) : (q.appended l).busyNote = q.busyNote := by
  rw [PortState.appended_eq]
@[simp] theorem PortState.appended_orphan (l : Log) (q : PortState) : (q.appended l).orphan = q.orphan := by
  rw [PortState.appended_eq]
@[simp] theorem PortState.appended_counter (l : Log) (q : PortState) : (q.appended l).counter = q.counter := by
  rw [PortState.appended_eq]
@[simp] theorem PortState.appended_flags (l : Log) (q : PortState) : (q.appended l).flags = q.flags := by
  rw [PortState.appended_eq]
@[simp] theorem PortState.appended_mask (l : Log) (q : PortState) : (q.appended l).mask = q.mask := by
  rw [PortState.appended_eq]
@[simp] theorem PortState.appended_inReset (l : Log) (q : PortState) : (q.appended l).inReset = q.inReset := by
  rw [PortState.appended_eq]
@[simp] theorem PortState.appended_clockedOut (l : Log) (q : PortState) : (q.appended l).clockedOut = q.clockedOut := by
  rw [PortState.appended_eq]

@[simp] theorem State.record_powered (s : State) (f : Feeder) (b : Block) (d : Details) : (s.record f b d).powered = s.powered := by simp [State.record]
@[simp] theorem State.record_ms (s : State) (f : Feeder) (b : Block) (d : Details) : (s.record f b d).ms = s.ms := by simp [State.record]
@[simp] theorem State.record_time (s : State) (f : Feeder) (b : Block) (d : Details) : (s.record f b d).time = s.time := by simp [State.record]
@[simp] theorem State.record_timeSet (s : State) (f : Feeder) (b : Block) (d : Details) : (s.record f b d).timeSet = s.timeSet := by simp [State.record]
@[simp] theorem State.record_key (s : State) (f : Feeder) (b : Block) (d : Details) : (s.record f b d).key = s.key := by simp [State.record]
@[simp] theorem State.record_receivers (s : State) (f : Feeder) (b : Block) (d : Details) : (s.record f b d).receivers = s.receivers := by simp [State.record]
@[simp] theorem State.record_protection (s : State) (f : Feeder) (b : Block) (d : Details) : (s.record f b d).protection = s.protection := by simp [State.record]
@[simp] theorem State.record_breakers (s : State) (f : Feeder) (b : Block) (d : Details) : (s.record f b d).breakers = s.breakers := by simp [State.record]
@[simp] theorem State.record_sequencers (s : State) (f : Feeder) (b : Block) (d : Details) : (s.record f b d).sequencers = s.sequencers := by simp [State.record]
@[simp] theorem State.record_holds (s : State) (f : Feeder) (b : Block) (d : Details) : (s.record f b d).holds = s.holds := by simp [State.record]
@[simp] theorem State.record_fire (s : State) (f : Feeder) (b : Block) (d : Details) : (s.record f b d).fire = s.fire := by simp [State.record]
@[simp] theorem State.record_bus (s : State) (f : Feeder) (b : Block) (d : Details) : (s.record f b d).bus = s.bus := by simp [State.record]
@[simp] theorem State.record_hunt (s : State) (f : Feeder) (b : Block) (d : Details) : (s.record f b d).hunt = s.hunt := by simp [State.record]
@[simp] theorem State.record_store (s : State) (f : Feeder) (b : Block) (d : Details) : (s.record f b d).store = s.store := by simp [State.record]
@[simp] theorem State.record_image (s : State) (f : Feeder) (b : Block) (d : Details) : (s.record f b d).image = s.image := by simp [State.record]
@[simp] theorem State.record_restart (s : State) (f : Feeder) (b : Block) (d : Details) : (s.record f b d).restart = s.restart := by simp [State.record]
@[simp] theorem State.record_pending (s : State) (f : Feeder) (b : Block) (d : Details) : (s.record f b d).pending = s.pending := by simp [State.record]
@[simp] theorem State.record_receiver (s : State) (f : Feeder) (b : Block) (d : Details) (g : Feeder) : (s.record f b d).receiver g = s.receiver g := by simp [State.receiver]
@[simp] theorem State.record_unit (s : State) (f : Feeder) (b : Block) (d : Details) (g : Feeder) : (s.record f b d).unit g = s.unit g := by simp [State.unit]
@[simp] theorem State.record_breaker (s : State) (f : Feeder) (b : Block) (d : Details) (g : Feeder) : (s.record f b d).breaker g = s.breaker g := by simp [State.breaker]
@[simp] theorem State.record_sequencer (s : State) (f : Feeder) (b : Block) (d : Details) (g : Feeder) : (s.record f b d).sequencer g = s.sequencer g := by simp [State.sequencer]
@[simp] theorem State.record_holdTable (s : State) (f : Feeder) (b : Block) (d : Details) (g : Feeder) : (s.record f b d).holdTable g = s.holdTable g := by simp [State.holdTable]
@[simp] theorem State.record_effective (s : State) (f : Feeder) (b : Block) (d : Details) (g : Feeder) : (s.record f b d).effective g = s.effective g := by simp [State.effective]
@[simp] theorem State.record_huntOn (s : State) (f : Feeder) (b : Block) (d : Details) (g : Feeder) : (s.record f b d).huntOn g = s.huntOn g := by simp [State.huntOn]
@[simp] theorem State.record_stamp (s : State) (f : Feeder) (b : Block) (d : Details) : (s.record f b d).stamp = s.stamp := by simp [State.stamp]

@[simp] theorem State.record_log (s : State) (f : Feeder) (b : Block) (d : Details) :
    (s.record f b d).log = s.log.appended s.stamp (some f) (.block b) d := by simp [State.record]

@[simp] theorem State.record_port (s : State) (f : Feeder) (b : Block) (d : Details) (p : Port) :
    (s.record f b d).port p = (s.port p).appended s.log := by simp [State.record]

/-! ### Attention flags (R191, R193) -/

@[simp] theorem State.setFlag_powered (fl : AttentionFlag) (s : State) : (s.setFlag fl).powered = s.powered := rfl
@[simp] theorem State.setFlag_ms (fl : AttentionFlag) (s : State) : (s.setFlag fl).ms = s.ms := rfl
@[simp] theorem State.setFlag_time (fl : AttentionFlag) (s : State) : (s.setFlag fl).time = s.time := rfl
@[simp] theorem State.setFlag_timeSet (fl : AttentionFlag) (s : State) : (s.setFlag fl).timeSet = s.timeSet := rfl
@[simp] theorem State.setFlag_key (fl : AttentionFlag) (s : State) : (s.setFlag fl).key = s.key := rfl
@[simp] theorem State.setFlag_receivers (fl : AttentionFlag) (s : State) : (s.setFlag fl).receivers = s.receivers := rfl
@[simp] theorem State.setFlag_protection (fl : AttentionFlag) (s : State) : (s.setFlag fl).protection = s.protection := rfl
@[simp] theorem State.setFlag_breakers (fl : AttentionFlag) (s : State) : (s.setFlag fl).breakers = s.breakers := rfl
@[simp] theorem State.setFlag_sequencers (fl : AttentionFlag) (s : State) : (s.setFlag fl).sequencers = s.sequencers := rfl
@[simp] theorem State.setFlag_holds (fl : AttentionFlag) (s : State) : (s.setFlag fl).holds = s.holds := rfl
@[simp] theorem State.setFlag_fire (fl : AttentionFlag) (s : State) : (s.setFlag fl).fire = s.fire := rfl
@[simp] theorem State.setFlag_bus (fl : AttentionFlag) (s : State) : (s.setFlag fl).bus = s.bus := rfl
@[simp] theorem State.setFlag_hunt (fl : AttentionFlag) (s : State) : (s.setFlag fl).hunt = s.hunt := rfl
@[simp] theorem State.setFlag_log (fl : AttentionFlag) (s : State) : (s.setFlag fl).log = s.log := rfl
@[simp] theorem State.setFlag_store (fl : AttentionFlag) (s : State) : (s.setFlag fl).store = s.store := rfl
@[simp] theorem State.setFlag_image (fl : AttentionFlag) (s : State) : (s.setFlag fl).image = s.image := rfl
@[simp] theorem State.setFlag_restart (fl : AttentionFlag) (s : State) : (s.setFlag fl).restart = s.restart := rfl
@[simp] theorem State.setFlag_pending (fl : AttentionFlag) (s : State) : (s.setFlag fl).pending = s.pending := rfl
@[simp] theorem State.setFlag_receiver (fl : AttentionFlag) (s : State) (g : Feeder) : (s.setFlag fl).receiver g = s.receiver g := by simp [State.receiver]
@[simp] theorem State.setFlag_unit (fl : AttentionFlag) (s : State) (g : Feeder) : (s.setFlag fl).unit g = s.unit g := by simp [State.unit]
@[simp] theorem State.setFlag_breaker (fl : AttentionFlag) (s : State) (g : Feeder) : (s.setFlag fl).breaker g = s.breaker g := by simp [State.breaker]
@[simp] theorem State.setFlag_sequencer (fl : AttentionFlag) (s : State) (g : Feeder) : (s.setFlag fl).sequencer g = s.sequencer g := by simp [State.sequencer]
@[simp] theorem State.setFlag_holdTable (fl : AttentionFlag) (s : State) (g : Feeder) : (s.setFlag fl).holdTable g = s.holdTable g := by simp [State.holdTable]
@[simp] theorem State.setFlag_effective (fl : AttentionFlag) (s : State) (g : Feeder) : (s.setFlag fl).effective g = s.effective g := by simp [State.effective]
@[simp] theorem State.setFlag_huntOn (fl : AttentionFlag) (s : State) (g : Feeder) : (s.setFlag fl).huntOn g = s.huntOn g := by simp [State.huntOn]
@[simp] theorem State.setFlag_stamp (fl : AttentionFlag) (s : State) : (s.setFlag fl).stamp = s.stamp := by simp [State.stamp]

@[simp] theorem State.setFlag_port (fl : AttentionFlag) (s : State) (p : Port) : (s.setFlag fl).port p = (s.port p).setFlag fl := by
  cases p <;> rfl

/-- All that the setting of a flag can do to a port. -/
theorem PortState.setFlag_eq (fl : AttentionFlag) (q : PortState) :
    q.setFlag fl = { q with flags := (q.setFlag fl).flags } := by
  unfold PortState.setFlag; split <;> rfl

theorem PortState.setFlag_has (fl : AttentionFlag) (q : PortState) : q.inReset = true ∨ (q.setFlag fl).hasFlag fl = true := by
  unfold PortState.setFlag
  split
  · exact .inl ‹_›
  · right
    simp only [PortState.hasFlag, bne_iff_ne, ne_eq]
    generalize q.flags = x
    cases fl <;> simp only [AttentionFlag.bit] <;> revert x <;> decide

@[simp] theorem PortState.setFlag_slot (fl : AttentionFlag) (q : PortState) : (q.setFlag fl).slot = q.slot := by
  rw [PortState.setFlag_eq]
@[simp] theorem PortState.setFlag_busyNote (fl : AttentionFlag) (q : PortState) : (q.setFlag fl).busyNote = q.busyNote := by
  rw [PortState.setFlag_eq]
@[simp] theorem PortState.setFlag_orphan (fl : AttentionFlag) (q : PortState) : (q.setFlag fl).orphan = q.orphan := by
  rw [PortState.setFlag_eq]
@[simp] theorem PortState.setFlag_counter (fl : AttentionFlag) (q : PortState) : (q.setFlag fl).counter = q.counter := by
  rw [PortState.setFlag_eq]
@[simp] theorem PortState.setFlag_mask (fl : AttentionFlag) (q : PortState) : (q.setFlag fl).mask = q.mask := by
  rw [PortState.setFlag_eq]
@[simp] theorem PortState.setFlag_inReset (fl : AttentionFlag) (q : PortState) : (q.setFlag fl).inReset = q.inReset := by
  rw [PortState.setFlag_eq]
@[simp] theorem PortState.setFlag_pointer (fl : AttentionFlag) (q : PortState) : (q.setFlag fl).pointer = q.pointer := by
  rw [PortState.setFlag_eq]
@[simp] theorem PortState.setFlag_overrun (fl : AttentionFlag) (q : PortState) : (q.setFlag fl).overrun = q.overrun := by
  rw [PortState.setFlag_eq]
@[simp] theorem PortState.setFlag_lost (fl : AttentionFlag) (q : PortState) : (q.setFlag fl).lost = q.lost := by
  rw [PortState.setFlag_eq]
@[simp] theorem PortState.setFlag_clockedOut (fl : AttentionFlag) (q : PortState) : (q.setFlag fl).clockedOut = q.clockedOut := by
  rw [PortState.setFlag_eq]

/-! ### Answers (R184, R193) -/

@[simp] theorem State.respond_powered (s : State) (p : Port) (st : Status) (d : List Byte) : (s.respond p st d).powered = s.powered := rfl
@[simp] theorem State.respond_ms (s : State) (p : Port) (st : Status) (d : List Byte) : (s.respond p st d).ms = s.ms := rfl
@[simp] theorem State.respond_time (s : State) (p : Port) (st : Status) (d : List Byte) : (s.respond p st d).time = s.time := rfl
@[simp] theorem State.respond_timeSet (s : State) (p : Port) (st : Status) (d : List Byte) : (s.respond p st d).timeSet = s.timeSet := rfl
@[simp] theorem State.respond_key (s : State) (p : Port) (st : Status) (d : List Byte) : (s.respond p st d).key = s.key := rfl
@[simp] theorem State.respond_receivers (s : State) (p : Port) (st : Status) (d : List Byte) : (s.respond p st d).receivers = s.receivers := rfl
@[simp] theorem State.respond_protection (s : State) (p : Port) (st : Status) (d : List Byte) : (s.respond p st d).protection = s.protection := rfl
@[simp] theorem State.respond_breakers (s : State) (p : Port) (st : Status) (d : List Byte) : (s.respond p st d).breakers = s.breakers := rfl
@[simp] theorem State.respond_sequencers (s : State) (p : Port) (st : Status) (d : List Byte) : (s.respond p st d).sequencers = s.sequencers := rfl
@[simp] theorem State.respond_holds (s : State) (p : Port) (st : Status) (d : List Byte) : (s.respond p st d).holds = s.holds := rfl
@[simp] theorem State.respond_fire (s : State) (p : Port) (st : Status) (d : List Byte) : (s.respond p st d).fire = s.fire := rfl
@[simp] theorem State.respond_bus (s : State) (p : Port) (st : Status) (d : List Byte) : (s.respond p st d).bus = s.bus := rfl
@[simp] theorem State.respond_hunt (s : State) (p : Port) (st : Status) (d : List Byte) : (s.respond p st d).hunt = s.hunt := rfl
@[simp] theorem State.respond_log (s : State) (p : Port) (st : Status) (d : List Byte) : (s.respond p st d).log = s.log := rfl
@[simp] theorem State.respond_store (s : State) (p : Port) (st : Status) (d : List Byte) : (s.respond p st d).store = s.store := rfl
@[simp] theorem State.respond_image (s : State) (p : Port) (st : Status) (d : List Byte) : (s.respond p st d).image = s.image := rfl
@[simp] theorem State.respond_restart (s : State) (p : Port) (st : Status) (d : List Byte) : (s.respond p st d).restart = s.restart := rfl
@[simp] theorem State.respond_pending (s : State) (p : Port) (st : Status) (d : List Byte) : (s.respond p st d).pending = s.pending := rfl
@[simp] theorem State.respond_receiver (s : State) (p : Port) (st : Status) (d : List Byte) (g : Feeder) : (s.respond p st d).receiver g = s.receiver g := by rfl
@[simp] theorem State.respond_unit (s : State) (p : Port) (st : Status) (d : List Byte) (g : Feeder) : (s.respond p st d).unit g = s.unit g := by rfl
@[simp] theorem State.respond_breaker (s : State) (p : Port) (st : Status) (d : List Byte) (g : Feeder) : (s.respond p st d).breaker g = s.breaker g := by rfl
@[simp] theorem State.respond_sequencer (s : State) (p : Port) (st : Status) (d : List Byte) (g : Feeder) : (s.respond p st d).sequencer g = s.sequencer g := by rfl
@[simp] theorem State.respond_holdTable (s : State) (p : Port) (st : Status) (d : List Byte) (g : Feeder) : (s.respond p st d).holdTable g = s.holdTable g := by rfl
@[simp] theorem State.respond_effective (s : State) (p : Port) (st : Status) (d : List Byte) (g : Feeder) : (s.respond p st d).effective g = s.effective g := by rfl
@[simp] theorem State.respond_huntOn (s : State) (p : Port) (st : Status) (d : List Byte) (g : Feeder) : (s.respond p st d).huntOn g = s.huntOn g := by rfl
@[simp] theorem State.respond_stamp (s : State) (p : Port) (st : Status) (d : List Byte) : (s.respond p st d).stamp = s.stamp := by simp [State.stamp]

@[simp] theorem State.reply_powered (s : State) (p : Port) (st : Status) : (s.reply p st).powered = s.powered := rfl
@[simp] theorem State.reply_ms (s : State) (p : Port) (st : Status) : (s.reply p st).ms = s.ms := rfl
@[simp] theorem State.reply_time (s : State) (p : Port) (st : Status) : (s.reply p st).time = s.time := rfl
@[simp] theorem State.reply_timeSet (s : State) (p : Port) (st : Status) : (s.reply p st).timeSet = s.timeSet := rfl
@[simp] theorem State.reply_key (s : State) (p : Port) (st : Status) : (s.reply p st).key = s.key := rfl
@[simp] theorem State.reply_receivers (s : State) (p : Port) (st : Status) : (s.reply p st).receivers = s.receivers := rfl
@[simp] theorem State.reply_protection (s : State) (p : Port) (st : Status) : (s.reply p st).protection = s.protection := rfl
@[simp] theorem State.reply_breakers (s : State) (p : Port) (st : Status) : (s.reply p st).breakers = s.breakers := rfl
@[simp] theorem State.reply_sequencers (s : State) (p : Port) (st : Status) : (s.reply p st).sequencers = s.sequencers := rfl
@[simp] theorem State.reply_holds (s : State) (p : Port) (st : Status) : (s.reply p st).holds = s.holds := rfl
@[simp] theorem State.reply_fire (s : State) (p : Port) (st : Status) : (s.reply p st).fire = s.fire := rfl
@[simp] theorem State.reply_bus (s : State) (p : Port) (st : Status) : (s.reply p st).bus = s.bus := rfl
@[simp] theorem State.reply_hunt (s : State) (p : Port) (st : Status) : (s.reply p st).hunt = s.hunt := rfl
@[simp] theorem State.reply_log (s : State) (p : Port) (st : Status) : (s.reply p st).log = s.log := rfl
@[simp] theorem State.reply_store (s : State) (p : Port) (st : Status) : (s.reply p st).store = s.store := rfl
@[simp] theorem State.reply_image (s : State) (p : Port) (st : Status) : (s.reply p st).image = s.image := rfl
@[simp] theorem State.reply_restart (s : State) (p : Port) (st : Status) : (s.reply p st).restart = s.restart := rfl
@[simp] theorem State.reply_pending (s : State) (p : Port) (st : Status) : (s.reply p st).pending = s.pending := rfl
@[simp] theorem State.reply_receiver (s : State) (p : Port) (st : Status) (g : Feeder) : (s.reply p st).receiver g = s.receiver g := by rfl
@[simp] theorem State.reply_unit (s : State) (p : Port) (st : Status) (g : Feeder) : (s.reply p st).unit g = s.unit g := by rfl
@[simp] theorem State.reply_breaker (s : State) (p : Port) (st : Status) (g : Feeder) : (s.reply p st).breaker g = s.breaker g := by rfl
@[simp] theorem State.reply_sequencer (s : State) (p : Port) (st : Status) (g : Feeder) : (s.reply p st).sequencer g = s.sequencer g := by rfl
@[simp] theorem State.reply_holdTable (s : State) (p : Port) (st : Status) (g : Feeder) : (s.reply p st).holdTable g = s.holdTable g := by rfl
@[simp] theorem State.reply_effective (s : State) (p : Port) (st : Status) (g : Feeder) : (s.reply p st).effective g = s.effective g := by rfl
@[simp] theorem State.reply_huntOn (s : State) (p : Port) (st : Status) (g : Feeder) : (s.reply p st).huntOn g = s.huntOn g := by rfl
@[simp] theorem State.reply_stamp (s : State) (p : Port) (st : Status) : (s.reply p st).stamp = s.stamp := by simp [State.stamp]

@[simp] theorem State.respond_port_self (s : State) (p : Port) (st : Status) (d : List Byte) :
    (s.respond p st d).port p = (s.port p).answer st d := by simp [State.respond]

theorem State.respond_port_ne (s : State) {p q : Port} (h : q ≠ p) (st : Status) (d : List Byte) :
    (s.respond p st d).port q = s.port q := by simp [State.respond, State.setPort_port_ne _ h]

@[simp] theorem State.reply_port_self (s : State) (p : Port) (st : Status) :
    (s.reply p st).port p = (s.port p).answer st [] := by simp [State.reply]

theorem State.reply_port_ne (s : State) {p q : Port} (h : q ≠ p) (st : Status) :
    (s.reply p st).port q = s.port q := by simp [State.reply, State.respond_port_ne _ h]

/-- An answer to a request in flight makes it READY. -/
theorem PortState.answer_inFlight (q : PortState) (st : Status) (d : List Byte) (code : Byte)
    (ho : q.orphan = false) (hs : q.slot = .inFlight code) :
    q.answer st d =
      { q with
        slot := .ready { status := st, code := code, counter := q.counter, data := d }
        busyNote := none } := by
  simp [PortState.answer, ho, hs]

/-- An answer at a port without an orphan request whose slot is not IN_FLIGHT changes nothing. -/
theorem PortState.answer_other (q : PortState) (st : Status) (d : List Byte)
    (ho : q.orphan = false) (hs : q.slot.isInFlight = false) : q.answer st d = q := by
  unfold PortState.answer
  split
  · simp_all
  · split
    · rename_i h; rw [h] at hs; cases hs
    · rfl

/-- All that an answer can change of a port. -/
theorem PortState.answer_eq (q : PortState) (st : Status) (d : List Byte) :
    q.answer st d = { q with
      slot := (q.answer st d).slot, busyNote := (q.answer st d).busyNote, orphan := (q.answer st d).orphan } := by
  unfold PortState.answer; split
  · rfl
  · split <;> rfl

@[simp] theorem PortState.answer_counter (q : PortState) (st : Status) (d : List Byte) : (q.answer st d).counter = q.counter := by
  rw [PortState.answer_eq]
@[simp] theorem PortState.answer_flags (q : PortState) (st : Status) (d : List Byte) : (q.answer st d).flags = q.flags := by
  rw [PortState.answer_eq]
@[simp] theorem PortState.answer_mask (q : PortState) (st : Status) (d : List Byte) : (q.answer st d).mask = q.mask := by
  rw [PortState.answer_eq]
@[simp] theorem PortState.answer_inReset (q : PortState) (st : Status) (d : List Byte) : (q.answer st d).inReset = q.inReset := by
  rw [PortState.answer_eq]
@[simp] theorem PortState.answer_pointer (q : PortState) (st : Status) (d : List Byte) : (q.answer st d).pointer = q.pointer := by
  rw [PortState.answer_eq]
@[simp] theorem PortState.answer_overrun (q : PortState) (st : Status) (d : List Byte) : (q.answer st d).overrun = q.overrun := by
  rw [PortState.answer_eq]
@[simp] theorem PortState.answer_lost (q : PortState) (st : Status) (d : List Byte) : (q.answer st d).lost = q.lost := by
  rw [PortState.answer_eq]
@[simp] theorem PortState.answer_clockedOut (q : PortState) (st : Status) (d : List Byte) : (q.answer st d).clockedOut = q.clockedOut := by
  rw [PortState.answer_eq]

/-! ### Events -/

/-- An event of a powered part answers its effect. -/
theorem event_powered (s : State) (g : State → State) (h : s.powered = true) : event s g = .next (g s) := by
  simp [event, h]

/-- An event of a part without supply changes nothing. -/
theorem event_unpowered (s : State) (g : State → State) (h : s.powered = false) : event s g = .next s := by
  simp [event, h]

/-! ### What a port's request causes (R172) -/

@[simp] theorem Log.ascribe_next (l : Log) (p : Port) (n : Word) : (l.ascribe p n).next = l.next := rfl

@[simp] theorem Log.ascribe_length (l : Log) (p : Port) (n : Word) :
    (l.ascribe p n).records.length = l.records.length := by simp [Log.ascribe]

/-- Ascribing leaves the sequence numbers. -/
theorem Log.ascribe_seqs (l : Log) (p : Port) (n : Word) :
    (l.ascribe p n).records.map LogRecord.seq = l.records.map LogRecord.seq := by
  have e : LogRecord.seq ∘ LogRecord.causedBy p = LogRecord.seq := rfl
  rw [Log.ascribe, List.map_append, List.map_map, e, ← List.map_append, List.take_append_drop]

/-- Nothing appended, nothing ascribed. -/
theorem Log.ascribe_same {l : Log} {n : Word} (h : l.next = n) (p : Port) : l.ascribe p n = l := by
  subst h; simp [Log.ascribe]

/-- Of a record appended the source alone is ascribed. -/
theorem Log.ascribe_appended (l : Log) (p : Port) (t : Stamp) (f : Option Feeder) (src : RecordSource) (d : Details) :
    (l.appended t f src d).ascribe p l.next = l.appended t f (src.causedBy p) d := by
  simp [Log.ascribe, Log.appended, LogRecord.causedBy]

/-- Every record held still stands after ascribing, as it was or with the port for its source. -/
theorem Log.mem_ascribe {l : Log} {p : Port} {n : Word} {r : LogRecord} (h : r ∈ l.records) :
    r ∈ (l.ascribe p n).records ∨ r.causedBy p ∈ (l.ascribe p n).records := by
  rw [← List.take_append_drop (l.records.length - (l.next - n).toNat) l.records, List.mem_append] at h
  exact h.imp (List.mem_append_left _) fun h => List.mem_append_right _ (List.mem_map_of_mem h)

/-- All that a request can add to what happens because of it: sources in the log. -/
theorem State.causedBy_spec (s : State) (p : Port) (g : State → State) :
    s.causedBy p g = { g s with log := (g s).log.ascribe p s.log.next } := rfl

/-- Where nothing is appended nothing is ascribed. -/
theorem State.causedBy_same {s : State} {g : State → State} (h : (g s).log.next = s.log.next) (p : Port) :
    s.causedBy p g = g s := by rw [State.causedBy_spec, Log.ascribe_same h]

@[simp] theorem State.causedBy_powered (s : State) (p : Port) (g : State → State) : (s.causedBy p g).powered = (g s).powered := rfl
@[simp] theorem State.causedBy_ms (s : State) (p : Port) (g : State → State) : (s.causedBy p g).ms = (g s).ms := rfl
@[simp] theorem State.causedBy_time (s : State) (p : Port) (g : State → State) : (s.causedBy p g).time = (g s).time := rfl
@[simp] theorem State.causedBy_timeSet (s : State) (p : Port) (g : State → State) : (s.causedBy p g).timeSet = (g s).timeSet := rfl
@[simp] theorem State.causedBy_key (s : State) (p : Port) (g : State → State) : (s.causedBy p g).key = (g s).key := rfl
@[simp] theorem State.causedBy_receivers (s : State) (p : Port) (g : State → State) : (s.causedBy p g).receivers = (g s).receivers := rfl
@[simp] theorem State.causedBy_protection (s : State) (p : Port) (g : State → State) : (s.causedBy p g).protection = (g s).protection := rfl
@[simp] theorem State.causedBy_breakers (s : State) (p : Port) (g : State → State) : (s.causedBy p g).breakers = (g s).breakers := rfl
@[simp] theorem State.causedBy_sequencers (s : State) (p : Port) (g : State → State) : (s.causedBy p g).sequencers = (g s).sequencers := rfl
@[simp] theorem State.causedBy_holds (s : State) (p : Port) (g : State → State) : (s.causedBy p g).holds = (g s).holds := rfl
@[simp] theorem State.causedBy_fire (s : State) (p : Port) (g : State → State) : (s.causedBy p g).fire = (g s).fire := rfl
@[simp] theorem State.causedBy_bus (s : State) (p : Port) (g : State → State) : (s.causedBy p g).bus = (g s).bus := rfl
@[simp] theorem State.causedBy_hunt (s : State) (p : Port) (g : State → State) : (s.causedBy p g).hunt = (g s).hunt := rfl
@[simp] theorem State.causedBy_store (s : State) (p : Port) (g : State → State) : (s.causedBy p g).store = (g s).store := rfl
@[simp] theorem State.causedBy_image (s : State) (p : Port) (g : State → State) : (s.causedBy p g).image = (g s).image := rfl
@[simp] theorem State.causedBy_ports (s : State) (p : Port) (g : State → State) : (s.causedBy p g).ports = (g s).ports := rfl
@[simp] theorem State.causedBy_restart (s : State) (p : Port) (g : State → State) : (s.causedBy p g).restart = (g s).restart := rfl
@[simp] theorem State.causedBy_pending (s : State) (p : Port) (g : State → State) : (s.causedBy p g).pending = (g s).pending := rfl
@[simp] theorem State.causedBy_receiver (s : State) (p : Port) (g : State → State) (x : Feeder) : (s.causedBy p g).receiver x = (g s).receiver x := rfl
@[simp] theorem State.causedBy_unit (s : State) (p : Port) (g : State → State) (x : Feeder) : (s.causedBy p g).unit x = (g s).unit x := rfl
@[simp] theorem State.causedBy_breaker (s : State) (p : Port) (g : State → State) (x : Feeder) : (s.causedBy p g).breaker x = (g s).breaker x := rfl
@[simp] theorem State.causedBy_sequencer (s : State) (p : Port) (g : State → State) (x : Feeder) : (s.causedBy p g).sequencer x = (g s).sequencer x := rfl
@[simp] theorem State.causedBy_holdTable (s : State) (p : Port) (g : State → State) (x : Feeder) : (s.causedBy p g).holdTable x = (g s).holdTable x := rfl
@[simp] theorem State.causedBy_effective (s : State) (p : Port) (g : State → State) (x : Feeder) : (s.causedBy p g).effective x = (g s).effective x := rfl
@[simp] theorem State.causedBy_huntOn (s : State) (p : Port) (g : State → State) (x : Feeder) : (s.causedBy p g).huntOn x = (g s).huntOn x := rfl
@[simp] theorem State.causedBy_port (s : State) (p : Port) (g : State → State) (x : Port) : (s.causedBy p g).port x = (g s).port x := rfl
@[simp] theorem State.causedBy_unitRecord (s : State) (p : Port) (g : State → State) (x : Nat) : (s.causedBy p g).unitRecord x = (g s).unitRecord x := rfl
@[simp] theorem State.causedBy_huntBlock (s : State) (p : Port) (g : State → State) (x : Nat) : (s.causedBy p g).huntBlock x = (g s).huntBlock x := rfl
@[simp] theorem State.causedBy_curve (s : State) (p : Port) (g : State → State) (x : Nat) : (s.causedBy p g).curve x = (g s).curve x := rfl
@[simp] theorem State.causedBy_pendingMark (s : State) (p : Port) (g : State → State) (x : RetentionOwner) : (s.causedBy p g).pendingMark x = (g s).pendingMark x := rfl
@[simp] theorem State.causedBy_log (s : State) (p : Port) (g : State → State) : (s.causedBy p g).log = (g s).log.ascribe p s.log.next := rfl

end Sys2Proof.Machine
end

