-- ==== Sys2Proof/Laws/Requests.lean ====
section
/-! SUPPORT. What a request frame meets at a port, once for every request row: a free port hands it to its owner, the ranks
refuse it, a busy port turns it away (R184 to R188, R193). -/

namespace Sys2Proof.Machine

/-- The port with a READ-class request in flight. -/
def State.readInFlight (s : State) (p : Port) (code : Byte) (fr : Frame) : State :=
  s.setPort p { s.port p with slot := .inFlight code, clockedOut := List.replicate (frameSize fr) 0#8 }

@[simp] theorem State.readInFlight_powered (s : State) (p : Port) (code : Byte) (fr : Frame) : (s.readInFlight p code fr).powered = s.powered := rfl
@[simp] theorem State.readInFlight_ms (s : State) (p : Port) (code : Byte) (fr : Frame) : (s.readInFlight p code fr).ms = s.ms := rfl
@[simp] theorem State.readInFlight_time (s : State) (p : Port) (code : Byte) (fr : Frame) : (s.readInFlight p code fr).time = s.time := rfl
@[simp] theorem State.readInFlight_timeSet (s : State) (p : Port) (code : Byte) (fr : Frame) : (s.readInFlight p code fr).timeSet = s.timeSet := rfl
@[simp] theorem State.readInFlight_key (s : State) (p : Port) (code : Byte) (fr : Frame) : (s.readInFlight p code fr).key = s.key := rfl
@[simp] theorem State.readInFlight_receivers (s : State) (p : Port) (code : Byte) (fr : Frame) : (s.readInFlight p code fr).receivers = s.receivers := rfl
@[simp] theorem State.readInFlight_protection (s : State) (p : Port) (code : Byte) (fr : Frame) : (s.readInFlight p code fr).protection = s.protection := rfl
@[simp] theorem State.readInFlight_breakers (s : State) (p : Port) (code : Byte) (fr : Frame) : (s.readInFlight p code fr).breakers = s.breakers := rfl
@[simp] theorem State.readInFlight_sequencers (s : State) (p : Port) (code : Byte) (fr : Frame) : (s.readInFlight p code fr).sequencers = s.sequencers := rfl
@[simp] theorem State.readInFlight_holds (s : State) (p : Port) (code : Byte) (fr : Frame) : (s.readInFlight p code fr).holds = s.holds := rfl
@[simp] theorem State.readInFlight_fire (s : State) (p : Port) (code : Byte) (fr : Frame) : (s.readInFlight p code fr).fire = s.fire := rfl
@[simp] theorem State.readInFlight_bus (s : State) (p : Port) (code : Byte) (fr : Frame) : (s.readInFlight p code fr).bus = s.bus := rfl
@[simp] theorem State.readInFlight_hunt (s : State) (p : Port) (code : Byte) (fr : Frame) : (s.readInFlight p code fr).hunt = s.hunt := rfl
@[simp] theorem State.readInFlight_log (s : State) (p : Port) (code : Byte) (fr : Frame) : (s.readInFlight p code fr).log = s.log := rfl
@[simp] theorem State.readInFlight_store (s : State) (p : Port) (code : Byte) (fr : Frame) : (s.readInFlight p code fr).store = s.store := rfl
@[simp] theorem State.readInFlight_image (s : State) (p : Port) (code : Byte) (fr : Frame) : (s.readInFlight p code fr).image = s.image := rfl
@[simp] theorem State.readInFlight_restart (s : State) (p : Port) (code : Byte) (fr : Frame) : (s.readInFlight p code fr).restart = s.restart := rfl
@[simp] theorem State.readInFlight_pending (s : State) (p : Port) (code : Byte) (fr : Frame) : (s.readInFlight p code fr).pending = s.pending := rfl
@[simp] theorem State.readInFlight_receiver (s : State) (p : Port) (code : Byte) (fr : Frame) (x : Feeder) : (s.readInFlight p code fr).receiver x = s.receiver x := rfl
@[simp] theorem State.readInFlight_unit (s : State) (p : Port) (code : Byte) (fr : Frame) (x : Feeder) : (s.readInFlight p code fr).unit x = s.unit x := rfl
@[simp] theorem State.readInFlight_breaker (s : State) (p : Port) (code : Byte) (fr : Frame) (x : Feeder) : (s.readInFlight p code fr).breaker x = s.breaker x := rfl
@[simp] theorem State.readInFlight_sequencer (s : State) (p : Port) (code : Byte) (fr : Frame) (x : Feeder) : (s.readInFlight p code fr).sequencer x = s.sequencer x := rfl
@[simp] theorem State.readInFlight_holdTable (s : State) (p : Port) (code : Byte) (fr : Frame) (x : Feeder) : (s.readInFlight p code fr).holdTable x = s.holdTable x := rfl
@[simp] theorem State.readInFlight_effective (s : State) (p : Port) (code : Byte) (fr : Frame) (x : Feeder) : (s.readInFlight p code fr).effective x = s.effective x := rfl
@[simp] theorem State.readInFlight_huntOn (s : State) (p : Port) (code : Byte) (fr : Frame) (x : Feeder) : (s.readInFlight p code fr).huntOn x = s.huntOn x := rfl
@[simp] theorem State.readInFlight_unitRecord (s : State) (p : Port) (code : Byte) (fr : Frame) (x : Nat) : (s.readInFlight p code fr).unitRecord x = s.unitRecord x := rfl
@[simp] theorem State.readInFlight_huntBlock (s : State) (p : Port) (code : Byte) (fr : Frame) (x : Nat) : (s.readInFlight p code fr).huntBlock x = s.huntBlock x := rfl
@[simp] theorem State.readInFlight_curve (s : State) (p : Port) (code : Byte) (fr : Frame) (x : Nat) : (s.readInFlight p code fr).curve x = s.curve x := rfl
@[simp] theorem State.readInFlight_pendingMark (s : State) (p : Port) (code : Byte) (fr : Frame) (x : RetentionOwner) : (s.readInFlight p code fr).pendingMark x = s.pendingMark x := rfl
@[simp] theorem State.readInFlight_otherAddresses (s : State) (p : Port) (code : Byte) (fr : Frame) (x : Feeder) : (s.readInFlight p code fr).otherAddresses x = s.otherAddresses x := rfl
@[simp] theorem State.readInFlight_underHunt (s : State) (p : Port) (code : Byte) (fr : Frame) (x : Nat) : (s.readInFlight p code fr).underHunt x = s.underHunt x := rfl
@[simp] theorem State.readInFlight_stamp (s : State) (p : Port) (code : Byte) (fr : Frame) : (s.readInFlight p code fr).stamp = s.stamp := rfl

@[simp] theorem State.controlInFlight_powered (s : State) (p : Port) (code : Byte) (fr : Frame) : (s.controlInFlight p code fr).powered = s.powered := rfl
@[simp] theorem State.controlInFlight_ms (s : State) (p : Port) (code : Byte) (fr : Frame) : (s.controlInFlight p code fr).ms = s.ms := rfl
@[simp] theorem State.controlInFlight_time (s : State) (p : Port) (code : Byte) (fr : Frame) : (s.controlInFlight p code fr).time = s.time := rfl
@[simp] theorem State.controlInFlight_timeSet (s : State) (p : Port) (code : Byte) (fr : Frame) : (s.controlInFlight p code fr).timeSet = s.timeSet := rfl
@[simp] theorem State.controlInFlight_key (s : State) (p : Port) (code : Byte) (fr : Frame) : (s.controlInFlight p code fr).key = s.key := rfl
@[simp] theorem State.controlInFlight_receivers (s : State) (p : Port) (code : Byte) (fr : Frame) : (s.controlInFlight p code fr).receivers = s.receivers := rfl
@[simp] theorem State.controlInFlight_protection (s : State) (p : Port) (code : Byte) (fr : Frame) : (s.controlInFlight p code fr).protection = s.protection := rfl
@[simp] theorem State.controlInFlight_breakers (s : State) (p : Port) (code : Byte) (fr : Frame) : (s.controlInFlight p code fr).breakers = s.breakers := rfl
@[simp] theorem State.controlInFlight_sequencers (s : State) (p : Port) (code : Byte) (fr : Frame) : (s.controlInFlight p code fr).sequencers = s.sequencers := rfl
@[simp] theorem State.controlInFlight_holds (s : State) (p : Port) (code : Byte) (fr : Frame) : (s.controlInFlight p code fr).holds = s.holds := rfl
@[simp] theorem State.controlInFlight_fire (s : State) (p : Port) (code : Byte) (fr : Frame) : (s.controlInFlight p code fr).fire = s.fire := rfl
@[simp] theorem State.controlInFlight_bus (s : State) (p : Port) (code : Byte) (fr : Frame) : (s.controlInFlight p code fr).bus = s.bus := rfl
@[simp] theorem State.controlInFlight_hunt (s : State) (p : Port) (code : Byte) (fr : Frame) : (s.controlInFlight p code fr).hunt = s.hunt := rfl
@[simp] theorem State.controlInFlight_log (s : State) (p : Port) (code : Byte) (fr : Frame) : (s.controlInFlight p code fr).log = s.log := rfl
@[simp] theorem State.controlInFlight_store (s : State) (p : Port) (code : Byte) (fr : Frame) : (s.controlInFlight p code fr).store = s.store := rfl
@[simp] theorem State.controlInFlight_image (s : State) (p : Port) (code : Byte) (fr : Frame) : (s.controlInFlight p code fr).image = s.image := rfl
@[simp] theorem State.controlInFlight_restart (s : State) (p : Port) (code : Byte) (fr : Frame) : (s.controlInFlight p code fr).restart = s.restart := rfl
@[simp] theorem State.controlInFlight_pending (s : State) (p : Port) (code : Byte) (fr : Frame) : (s.controlInFlight p code fr).pending = s.pending := rfl
@[simp] theorem State.controlInFlight_receiver (s : State) (p : Port) (code : Byte) (fr : Frame) (x : Feeder) : (s.controlInFlight p code fr).receiver x = s.receiver x := rfl
@[simp] theorem State.controlInFlight_unit (s : State) (p : Port) (code : Byte) (fr : Frame) (x : Feeder) : (s.controlInFlight p code fr).unit x = s.unit x := rfl
@[simp] theorem State.controlInFlight_breaker (s : State) (p : Port) (code : Byte) (fr : Frame) (x : Feeder) : (s.controlInFlight p code fr).breaker x = s.breaker x := rfl
@[simp] theorem State.controlInFlight_sequencer (s : State) (p : Port) (code : Byte) (fr : Frame) (x : Feeder) : (s.controlInFlight p code fr).sequencer x = s.sequencer x := rfl
@[simp] theorem State.controlInFlight_holdTable (s : State) (p : Port) (code : Byte) (fr : Frame) (x : Feeder) : (s.controlInFlight p code fr).holdTable x = s.holdTable x := rfl
@[simp] theorem State.controlInFlight_effective (s : State) (p : Port) (code : Byte) (fr : Frame) (x : Feeder) : (s.controlInFlight p code fr).effective x = s.effective x := rfl
@[simp] theorem State.controlInFlight_huntOn (s : State) (p : Port) (code : Byte) (fr : Frame) (x : Feeder) : (s.controlInFlight p code fr).huntOn x = s.huntOn x := rfl
@[simp] theorem State.controlInFlight_unitRecord (s : State) (p : Port) (code : Byte) (fr : Frame) (x : Nat) : (s.controlInFlight p code fr).unitRecord x = s.unitRecord x := rfl
@[simp] theorem State.controlInFlight_huntBlock (s : State) (p : Port) (code : Byte) (fr : Frame) (x : Nat) : (s.controlInFlight p code fr).huntBlock x = s.huntBlock x := rfl
@[simp] theorem State.controlInFlight_curve (s : State) (p : Port) (code : Byte) (fr : Frame) (x : Nat) : (s.controlInFlight p code fr).curve x = s.curve x := rfl
@[simp] theorem State.controlInFlight_pendingMark (s : State) (p : Port) (code : Byte) (fr : Frame) (x : RetentionOwner) : (s.controlInFlight p code fr).pendingMark x = s.pendingMark x := rfl
@[simp] theorem State.controlInFlight_otherAddresses (s : State) (p : Port) (code : Byte) (fr : Frame) (x : Feeder) : (s.controlInFlight p code fr).otherAddresses x = s.otherAddresses x := rfl
@[simp] theorem State.controlInFlight_underHunt (s : State) (p : Port) (code : Byte) (fr : Frame) (x : Nat) : (s.controlInFlight p code fr).underHunt x = s.underHunt x := rfl
@[simp] theorem State.controlInFlight_stamp (s : State) (p : Port) (code : Byte) (fr : Frame) : (s.controlInFlight p code fr).stamp = s.stamp := rfl

/-- The port after a control request was taken. -/
@[simp] theorem State.controlInFlight_port (s : State) (p : Port) (code : Byte) (fr : Frame) :
    (s.controlInFlight p code fr).port p =
      { s.port p with
        slot := .inFlight code, counter := (s.port p).counter + 1
        clockedOut := List.replicate (frameSize fr) 0#8 } := by simp [State.controlInFlight]

theorem State.controlInFlight_port_ne (s : State) {p q : Port} (h : q ≠ p) (code : Byte) (fr : Frame) :
    (s.controlInFlight p code fr).port q = s.port q := by simp [State.controlInFlight, State.setPort_port_ne _ h]

/-- A frame at a free port goes to its checks. -/
theorem State.takeFrame_free {s : State} {p : Port} (h : s.portFree p) (n : Nat) (code : Byte) (m : Bool)
    (check : State → State) :
    s.takeFrame p n code m check =
      check (s.setPort p { s.port p with slot := .inFlight code, clockedOut := List.replicate n 0#8 }) := by
  obtain ⟨_, hr, ho, hs⟩ := h
  simp [State.takeFrame, hr, ho, hs, State.clockNotReady, State.clockOut, State.setSlot]

/-- A READ-class request that passes its ranks reaches its owner. -/
theorem State.readRequest_taken {s : State} {p : Port} {code : Byte} {fr : Frame} (h : s.readTaken p code fr)
    (owner : State → State) :
    s.readRequest p code true fr owner = owner (s.readInFlight p code fr) := by
  obtain ⟨hf, hp⟩ := h
  simp [State.readRequest, State.takeFrame_free hf, hp, State.readInFlight]

/-- A control-class request that passes its ranks reaches its owner with the counter raised, and what its owner does is
caused by it. -/
theorem State.controlRequest_taken {s : State} {p : Port} {code : Byte} {fr : Frame} (h : s.controlTaken p code fr)
    {granted : Bool} (hg : granted = true) (owner : State → State) :
    s.controlRequest p code granted fr owner = (s.controlInFlight p code fr).causedBy p owner := by
  obtain ⟨⟨hf, hp⟩, hc⟩ := h
  simp [State.controlRequest, State.takeFrame_free hf, hp, hg, hc, State.countControl, State.controlInFlight]

/-- The owner's answer to a READ-class request. -/
theorem State.readInFlight_respond {s : State} {p : Port} {code : Byte} {fr : Frame} (h : s.portFree p) (st : Status)
    (d : List Byte) : (s.readInFlight p code fr).respond p st d = s.readAnswered p code fr st d := by
  obtain ⟨_, hr, ho, hs⟩ := h
  simp [State.respond, State.readInFlight, State.readAnswered, PortState.answer, ho]

/-- The owner's answer to a control-class request. -/
theorem State.controlInFlight_respond {s : State} {p : Port} {code : Byte} {fr : Frame} (h : s.portFree p)
    (st : Status) (d : List Byte) :
    (s.controlInFlight p code fr).respond p st d = s.controlAnswered p code fr st d := by
  obtain ⟨_, hr, ho, hs⟩ := h
  simp [State.respond, State.controlInFlight, State.controlAnswered, PortState.answer, ho]

theorem State.controlInFlight_reply {s : State} {p : Port} {code : Byte} {fr : Frame} (h : s.portFree p)
    (st : Status) : (s.controlInFlight p code fr).reply p st = s.controlAnswered p code fr st [] :=
  State.controlInFlight_respond h st []

/-- A READ-class request at a free port by its ranks. -/
theorem State.readRequest_free {s : State} {p : Port} (h : s.portFree p) (code : Byte) (granted : Bool) (fr : Frame)
    (owner : State → State) :
    s.readRequest p code granted fr owner =
      if framePasses code fr = false then s.readAnswered p 0 fr .frame []
      else if granted = false then s.readAnswered p code fr .authority []
      else owner (s.readInFlight p code fr) := by
  have e := fun c => State.readInFlight_respond (fr := fr) (code := c) h
  obtain ⟨_, hr, ho, hs⟩ := id h
  rw [State.readRequest, State.takeFrame_free h]
  cases hp : framePasses code fr
  · simp [State.refuseUnnamed, State.setSlot, State.reply, State.respond, State.readAnswered, PortState.answer, ho]
  · cases granted
    · simpa [State.reply, State.readInFlight] using e code .authority []
    · simp [State.readInFlight]

/-- A control-class request at a free port by its ranks. -/
theorem State.controlRequest_free {s : State} {p : Port} (h : s.portFree p) (code : Byte) (granted : Bool) (fr : Frame)
    (owner : State → State) :
    s.controlRequest p code granted fr owner =
      if framePasses code fr = false then s.readAnswered p 0 fr .frame []
      else if granted = false then s.readAnswered p code fr .authority []
      else if fr.counter ≠ (s.port p).counter then s.readAnswered p code fr .sequence []
      else (s.controlInFlight p code fr).causedBy p owner := by
  have e := fun c => State.readInFlight_respond (fr := fr) (code := c) h
  obtain ⟨_, hr, ho, hs⟩ := id h
  rw [State.controlRequest, State.takeFrame_free h]
  cases hp : framePasses code fr
  · simp [State.refuseUnnamed, State.setSlot, State.reply, State.respond, State.readAnswered, PortState.answer, ho]
  · cases granted
    · simpa [State.reply, State.readInFlight] using e code .authority []
    · by_cases hc : fr.counter = (s.port p).counter
      · simp [hc, State.countControl, State.controlInFlight]
      · simpa [hc, State.reply, State.readInFlight] using e code .sequence []

/-! ### Raw frames (R187, R197) -/

/-- A code that names no request is unknown. -/
theorem State.frameByCode_unknown (s : State) (p : Port) (code : Byte) (fr : Frame)
    (h : code = 0 ∨ 0x2D < code.toNat) : s.frameByCode p code fr = s.unknownFrame p code fr := by
  rcases h with rfl | h
  · rfl
  · obtain ⟨n, hn⟩ : ∃ n, code.toNat = n + 46 := ⟨code.toNat - 46, by omega⟩
    unfold State.frameByCode
    rw [hn]
    rfl

/-- Two bytes spell their word. -/
theorem be16_spelled (w : Word) :
    BitVec.ofNat 16 (be16 (BitVec.ofNat 8 (w.toNat / 256)) (BitVec.ofNat 8 w.toNat)) = w := by
  apply BitVec.eq_of_toNat_eq
  have := w.isLt
  simp only [be16, BitVec.toNat_ofNat]
  omega

/-- The bytes of a frame after its code spell the frame. -/
theorem frameOfBytes_spelled (fr : Frame) :
    frameOfBytes (u16 fr.counter.toNat ++ fr.length :: fr.payload ++ u16 fr.check.toNat) = some fr := by
  obtain ⟨c, l, pl, ck⟩ := fr
  have e1 := be16_spelled c
  have e2 := be16_spelled ck
  simp at e1 e2
  simp [frameOfBytes, u16, e1, e2]

/-- Some feeder among the four. -/
theorem allFeeders_any (g : Feeder → Bool) : allFeeders.any g = true ↔ ∃ f, g f = true := by
  simp [allFeeders]
  constructor
  · rintro (h | h | h | h) <;> exact ⟨_, h⟩
  · rintro ⟨f, h⟩; cases f <;> simp [h]

end Sys2Proof.Machine
end

