-- ==== Sys2Proof/Laws/Hunt.lean ====
section
/-! SUPPORT. The hunt engine where no hunt stands on a feeder: nothing it is told there does anything; which updates leave
its standing alone; attention flags and records that stay. -/

namespace Sys2Proof.Machine

/-! ### Standing -/

@[simp] theorem State.setReceiver_huntIs (s : State) (f : Feeder) (x : Receiver) (g : Feeder) (st : HuntState) : (s.setReceiver f x).huntIs g st = s.huntIs g st := rfl
@[simp] theorem State.setReceiver_huntAlive (s : State) (f : Feeder) (x : Receiver) (g : Feeder) : (s.setReceiver f x).huntAlive g = s.huntAlive g := rfl
@[simp] theorem State.setUnit_huntIs (s : State) (f : Feeder) (x : Protection) (g : Feeder) (st : HuntState) : (s.setUnit f x).huntIs g st = s.huntIs g st := rfl
@[simp] theorem State.setUnit_huntAlive (s : State) (f : Feeder) (x : Protection) (g : Feeder) : (s.setUnit f x).huntAlive g = s.huntAlive g := rfl
@[simp] theorem State.setBreaker_huntIs (s : State) (f : Feeder) (x : Breaker) (g : Feeder) (st : HuntState) : (s.setBreaker f x).huntIs g st = s.huntIs g st := rfl
@[simp] theorem State.setBreaker_huntAlive (s : State) (f : Feeder) (x : Breaker) (g : Feeder) : (s.setBreaker f x).huntAlive g = s.huntAlive g := rfl
@[simp] theorem State.setSequencer_huntIs (s : State) (f : Feeder) (x : Sequencer) (g : Feeder) (st : HuntState) : (s.setSequencer f x).huntIs g st = s.huntIs g st := rfl
@[simp] theorem State.setSequencer_huntAlive (s : State) (f : Feeder) (x : Sequencer) (g : Feeder) : (s.setSequencer f x).huntAlive g = s.huntAlive g := rfl
@[simp] theorem State.setHoldTable_huntIs (s : State) (f : Feeder) (x : HoldTable) (g : Feeder) (st : HuntState) : (s.setHoldTable f x).huntIs g st = s.huntIs g st := rfl
@[simp] theorem State.setHoldTable_huntAlive (s : State) (f : Feeder) (x : HoldTable) (g : Feeder) : (s.setHoldTable f x).huntAlive g = s.huntAlive g := rfl
@[simp] theorem State.setPort_huntIs (s : State) (p : Port) (x : PortState) (g : Feeder) (st : HuntState) : (s.setPort p x).huntIs g st = s.huntIs g st := rfl
@[simp] theorem State.setPort_huntAlive (s : State) (p : Port) (x : PortState) (g : Feeder) : (s.setPort p x).huntAlive g = s.huntAlive g := rfl
@[simp] theorem State.setBus_huntIs (s : State) (x : Bus) (g : Feeder) (st : HuntState) : (s.setBus x).huntIs g st = s.huntIs g st := rfl
@[simp] theorem State.setBus_huntAlive (s : State) (x : Bus) (g : Feeder) : (s.setBus x).huntAlive g = s.huntAlive g := rfl
@[simp] theorem State.setFire_huntIs (s : State) (x : FireController) (g : Feeder) (st : HuntState) : (s.setFire x).huntIs g st = s.huntIs g st := rfl
@[simp] theorem State.setFire_huntAlive (s : State) (x : FireController) (g : Feeder) : (s.setFire x).huntAlive g = s.huntAlive g := rfl
@[simp] theorem State.setStore_huntIs (s : State) (x : Store) (g : Feeder) (st : HuntState) : (s.setStore x).huntIs g st = s.huntIs g st := rfl
@[simp] theorem State.setStore_huntAlive (s : State) (x : Store) (g : Feeder) : (s.setStore x).huntAlive g = s.huntAlive g := rfl
@[simp] theorem State.setImage_huntIs (s : State) (x : Image) (g : Feeder) (st : HuntState) : (s.setImage x).huntIs g st = s.huntIs g st := rfl
@[simp] theorem State.setImage_huntAlive (s : State) (x : Image) (g : Feeder) : (s.setImage x).huntAlive g = s.huntAlive g := rfl
@[simp] theorem State.setLog_huntIs (s : State) (x : Log) (g : Feeder) (st : HuntState) : (s.setLog x).huntIs g st = s.huntIs g st := rfl
@[simp] theorem State.setLog_huntAlive (s : State) (x : Log) (g : Feeder) : (s.setLog x).huntAlive g = s.huntAlive g := rfl
@[simp] theorem State.append_huntIs (s : State) (f : Option Feeder) (b : RecordSource) (d : Details) (g : Feeder) (st : HuntState) : (s.append f b d).huntIs g st = s.huntIs g st := by simp [State.huntIs]
@[simp] theorem State.record_huntIs (s : State) (f : Feeder) (b : Block) (d : Details) (g : Feeder) (st : HuntState) : (s.record f b d).huntIs g st = s.huntIs g st := by simp [State.huntIs]
@[simp] theorem State.setFlag_huntIs (s : State) (fl : AttentionFlag) (g : Feeder) (st : HuntState) : (s.setFlag fl).huntIs g st = s.huntIs g st := rfl
@[simp] theorem State.respond_huntIs (s : State) (p : Port) (x : Status) (d : List Byte) (g : Feeder) (st : HuntState) : (s.respond p x d).huntIs g st = s.huntIs g st := rfl
@[simp] theorem State.reply_huntIs (s : State) (p : Port) (x : Status) (g : Feeder) (st : HuntState) : (s.reply p x).huntIs g st = s.huntIs g st := rfl
@[simp] theorem State.controlInFlight_huntIs (s : State) (p : Port) (c : Byte) (fr : Frame) (g : Feeder) (st : HuntState) : (s.controlInFlight p c fr).huntIs g st = s.huntIs g st := rfl
@[simp] theorem State.append_huntAlive (s : State) (f : Option Feeder) (b : RecordSource) (d : Details) (g : Feeder) : (s.append f b d).huntAlive g = s.huntAlive g := by simp [State.huntAlive]
@[simp] theorem State.record_huntAlive (s : State) (f : Feeder) (b : Block) (d : Details) (g : Feeder) : (s.record f b d).huntAlive g = s.huntAlive g := by simp [State.huntAlive]
@[simp] theorem State.setFlag_huntAlive (s : State) (fl : AttentionFlag) (g : Feeder) : (s.setFlag fl).huntAlive g = s.huntAlive g := rfl
@[simp] theorem State.reply_huntAlive (s : State) (p : Port) (x : Status) (g : Feeder) : (s.reply p x).huntAlive g = s.huntAlive g := rfl

/-- A hunt stands on a feeder exactly when the engine is RUNNING, PAUSED or STOPPING there (R152). -/
theorem State.huntOn_iff (s : State) (f : Feeder) :
    s.huntOn f = (s.huntIs f .running || s.huntIs f .paused || s.huntIs f .stopping) := by
  simp only [State.huntOn, State.huntIs]
  cases s.hunt.feeder == some f <;> simp

/-- Where no hunt stands the engine is in none of its three states. -/
theorem State.huntIs_off {s : State} {f : Feeder} (h : s.huntOn f = false) :
    s.huntIs f .running = false ∧ s.huntIs f .paused = false ∧ s.huntIs f .stopping = false := by
  rw [State.huntOn_iff] at h
  simpa [and_assoc] using h

theorem State.huntAlive_off {s : State} {f : Feeder} (h : s.huntOn f = false) : s.huntAlive f = false := by
  simp [State.huntAlive, State.huntIs_off h]

/-! ### What the engine is told where no hunt stands -/

theorem State.huntTripReport_off {s : State} {f : Feeder} (h : s.huntOn f = false) : s.huntTripReport f = s := by
  simp [State.huntTripReport, State.huntTripTaken, State.huntIs_off h]

theorem State.huntTripTaken_off {s : State} {f : Feeder} (h : s.huntOn f = false) : s.huntTripTaken f = s := by
  simp [State.huntTripTaken, State.huntIs_off h]

theorem State.huntUnexpected_off {s : State} {f : Feeder} (h : s.huntOn f = false) (b : Bool) : s.huntUnexpected f b = s := by
  simp [State.huntUnexpected, State.huntTripTaken, State.huntIs_off h, State.huntAlive_off h]

theorem State.huntUnitMove_off {s : State} {f : Feeder} (h : s.huntOn f = false) (i : Nat) : s.huntUnitMove f i = s := by
  simp [State.huntUnitMove, State.huntIs_off h, State.huntAlive_off h]

theorem State.huntMeasurementLost_off {s : State} {f : Feeder} (h : s.huntOn f = false) : s.huntMeasurementLost f = s := by
  simp [State.huntMeasurementLost, State.huntIs_off h, State.huntAlive_off h]

theorem State.huntBreakerFail_off {s : State} {f : Feeder} (h : s.huntOn f = false) : s.huntBreakerFail f = s := by
  simp [State.huntBreakerFail, State.huntIs_off h, State.huntAlive_off h]

theorem State.huntTripAnswer_off {s : State} {f : Feeder} (h : s.huntOn f = false) : s.huntTripAnswer f = s := by
  simp [State.huntTripAnswer, State.huntIs_off h]

theorem State.huntCloseAnswer_off {s : State} {f : Feeder} (h : s.huntOn f = false) (b : Bool) : s.huntCloseAnswer f b = s := by
  simp [State.huntCloseAnswer, State.huntIs_off h]

theorem State.huntCloseCut_off {s : State} {f : Feeder} (h : s.huntOn f = false) : s.huntCloseCut f = s := by
  simp [State.huntCloseCut, State.huntIs_off h]

theorem State.huntWindowReport_off {s : State} {f : Feeder} (h : s.huntOn f = false) (w : WindowReport) : s.huntWindowReport f w = s := by
  simp [State.huntWindowReport, State.huntIs_off h]

theorem State.huntRecheck_off {s : State} {f : Feeder} (h : s.huntOn f = false) : s.huntRecheck f = s := by
  simp [State.huntRecheck, State.huntIs_off h]

/-- A close is tested again only for a hunt PAUSED on the feeder (R156). -/
theorem State.huntRecheck_idle {s : State} {f : Feeder} (h : s.huntIs f .paused = false) : s.huntRecheck f = s := by
  simp [State.huntRecheck, h]

/-! ### Flags that stay set -/

/-- A flag that a block sets stands in every port whose reset line is released. -/
theorem State.flagSet_setFlag (s : State) (fl : AttentionFlag) : (s.setFlag fl).flagSet fl := by
  intro p
  rw [State.setFlag_port]
  rcases PortState.setFlag_has fl (s.port p) with h | h
  · left; rw [PortState.setFlag_inReset]; exact h
  · right; exact h

end Sys2Proof.Machine
end

