-- ==== Sys2Proof/Laws/Changes.lean ====
section
/-! SUPPORT. What each shared operation may change: its parts of the state, and the feeder it acts on. State.Within
says both at once; its lemmas add one operation each, so that the frame of a command follows by simp from them. -/

namespace Sys2Proof.Machine

/-! ### Composition -/

theorem State.agree_refl (s : State) (x : Part) : s.agree s x := by cases x <;> simp [State.agree]

theorem State.agree_trans {s t u : State} {x : Part} (h : s.agree t x) (k : t.agree u x) : s.agree u x := by
  cases x <;> simp_all [State.agree]

theorem State.changesOnly_refl (s : State) (l : List Part) : s.changesOnly l s := fun x _ => s.agree_refl x

theorem State.changesOnly_trans {s t u : State} {l : List Part} (h : s.changesOnly l t) (k : t.changesOnly l u) :
    s.changesOnly l u := fun x hx => State.agree_trans (h x hx) (k x hx)

theorem State.changesOnly_mono {s t : State} {l m : List Part} (h : s.changesOnly l t) (hm : ∀ x ∈ l, x ∈ m) :
    s.changesOnly m t := fun x hx => h x (fun hl => hx (hm x hl))

theorem State.feederOnly_refl (s : State) (f : Feeder) : s.feederOnly f s := fun _ _ => ⟨rfl, rfl, rfl, rfl, rfl⟩

theorem State.feederOnly_trans {s t u : State} {f : Feeder} (h : s.feederOnly f t) (k : t.feederOnly f u) :
    s.feederOnly f u := by
  intro g hg
  obtain ⟨a, b, c, d, e⟩ := h g hg
  obtain ⟨a', b', c', d', e'⟩ := k g hg
  exact ⟨a'.trans a, b'.trans b, c'.trans c, d'.trans d, e'.trans e⟩

/-- Without a change of the five blocks of the feeders, every feeder's blocks stand. -/
theorem State.feederOnly_of_changesOnly {s t : State} {l : List Part} (h : s.changesOnly l t) (f : Feeder)
    (hl : ∀ x ∈ [Part.receivers, .protection, .breakers, .sequencers, .holds], x ∉ l) : s.feederOnly f t := by
  intro g _
  have a := h .receivers (hl _ (by simp))
  have b := h .protection (hl _ (by simp))
  have c := h .breakers (hl _ (by simp))
  have d := h .sequencers (hl _ (by simp))
  have e := h .holds (hl _ (by simp))
  simp only [State.agree] at a b c d e
  simp [State.receiver, State.unit, State.breaker, State.sequencer, State.holdTable, a, b, c, d, e]

/-- From s to t nothing changed outside some parts and, where a feeder is given, outside its blocks. -/
def State.Within (s : State) (l : List Part) (f : Option Feeder) (t : State) : Prop :=
  s.changesOnly l t ∧ ∀ g, f = some g → s.feederOnly g t

theorem State.Within.refl (s : State) (l : List Part) (f : Option Feeder) : s.Within l f s :=
  ⟨s.changesOnly_refl l, fun g _ => s.feederOnly_refl g⟩

theorem State.Within.trans {s t u : State} {l : List Part} {f : Option Feeder} (h : s.Within l f t)
    (k : t.Within l f u) : s.Within l f u :=
  ⟨State.changesOnly_trans h.1 k.1, fun g e => State.feederOnly_trans (h.2 g e) (k.2 g e)⟩

theorem State.Within.parts {s t : State} {l : List Part} {f : Option Feeder} (h : s.Within l f t) :
    s.changesOnly l t := h.1

theorem State.Within.feeder {s t : State} {l : List Part} {f : Feeder} (h : s.Within l (some f) t) :
    s.feederOnly f t := h.2 f rfl

/-- A change of parts that are no feeder's blocks. -/
theorem State.Within.of_changesOnly {s t : State} {l m : List Part} (f : Option Feeder) (h : s.changesOnly m t)
    (hm : ∀ x ∈ m, x ∈ l) (hb : ∀ x ∈ [Part.receivers, .protection, .breakers, .sequencers, .holds], x ∉ m) :
    s.Within l f t :=
  ⟨State.changesOnly_mono h hm, fun g _ => State.feederOnly_of_changesOnly h g hb⟩

variable {s t : State} {l : List Part} {f : Option Feeder} {g : Feeder}

/-! ### Updates -/

theorem State.Within.setReceiver (h : s.Within l f t) (hp : Part.receivers ∈ l) (hf : ∀ x, f = some x → x = g)
    (x : Receiver) : s.Within l f (t.setReceiver g x) := by
  refine h.trans ⟨fun y hy => ?_, fun k hk i hi => ?_⟩
  · cases y <;> simp_all [State.agree]
  · have hi' : i ≠ g := fun e => hi (e.trans (hf k hk).symm)
    simp [State.setReceiver_receiver_ne _ hi']

theorem State.Within.setUnit (h : s.Within l f t) (hp : Part.protection ∈ l) (hf : ∀ x, f = some x → x = g)
    (x : Protection) : s.Within l f (t.setUnit g x) := by
  refine h.trans ⟨fun y hy => ?_, fun k hk i hi => ?_⟩
  · cases y <;> simp_all [State.agree]
  · have hi' : i ≠ g := fun e => hi (e.trans (hf k hk).symm)
    simp [State.setUnit_unit_ne _ hi']

theorem State.Within.setBreaker (h : s.Within l f t) (hp : Part.breakers ∈ l) (hf : ∀ x, f = some x → x = g)
    (x : Breaker) : s.Within l f (t.setBreaker g x) := by
  refine h.trans ⟨fun y hy => ?_, fun k hk i hi => ?_⟩
  · cases y <;> simp_all [State.agree]
  · have hi' : i ≠ g := fun e => hi (e.trans (hf k hk).symm)
    simp [State.setBreaker_breaker_ne _ hi']

theorem State.Within.setSequencer (h : s.Within l f t) (hp : Part.sequencers ∈ l) (hf : ∀ x, f = some x → x = g)
    (x : Sequencer) : s.Within l f (t.setSequencer g x) := by
  refine h.trans ⟨fun y hy => ?_, fun k hk i hi => ?_⟩
  · cases y <;> simp_all [State.agree]
  · have hi' : i ≠ g := fun e => hi (e.trans (hf k hk).symm)
    simp [State.setSequencer_sequencer_ne _ hi']

theorem State.Within.setHoldTable (h : s.Within l f t) (hp : Part.holds ∈ l) (hf : ∀ x, f = some x → x = g)
    (x : HoldTable) : s.Within l f (t.setHoldTable g x) := by
  refine h.trans ⟨fun y hy => ?_, fun k hk i hi => ?_⟩
  · cases y <;> simp_all [State.agree]
  · have hi' : i ≠ g := fun e => hi (e.trans (hf k hk).symm)
    simp [State.setHoldTable_holdTable_ne _ hi']

theorem State.Within.setBus (h : s.Within l f t) (hp : Part.bus ∈ l) (x : Bus) : s.Within l f (t.setBus x) :=
  h.trans (State.Within.of_changesOnly f (m := [.bus]) (fun y hy => by cases y <;> simp [State.agree] at hy ⊢)
    (by simpa using hp) (by simp))

theorem State.Within.setHunt (h : s.Within l f t) (hp : Part.hunt ∈ l) (x : Hunt) : s.Within l f (t.setHunt x) :=
  h.trans (State.Within.of_changesOnly f (m := [.hunt]) (fun y hy => by cases y <;> simp [State.agree] at hy ⊢)
    (by simpa using hp) (by simp))

theorem State.Within.setFire (h : s.Within l f t) (hp : Part.fire ∈ l) (x : FireController) : s.Within l f (t.setFire x) :=
  h.trans (State.Within.of_changesOnly f (m := [.fire]) (fun y hy => by cases y <;> simp [State.agree] at hy ⊢)
    (by simpa using hp) (by simp))

theorem State.Within.setStore (h : s.Within l f t) (hp : Part.store ∈ l) (x : Store) : s.Within l f (t.setStore x) :=
  h.trans (State.Within.of_changesOnly f (m := [.store]) (fun y hy => by cases y <;> simp [State.agree] at hy ⊢)
    (by simpa using hp) (by simp))

theorem State.Within.setImage (h : s.Within l f t) (hp : Part.image ∈ l) (x : Image) : s.Within l f (t.setImage x) :=
  h.trans (State.Within.of_changesOnly f (m := [.image]) (fun y hy => by cases y <;> simp [State.agree] at hy ⊢)
    (by simpa using hp) (by simp))

theorem State.Within.setPort (h : s.Within l f t) (hp : Part.ports ∈ l) (p : Port) (x : PortState) :
    s.Within l f (t.setPort p x) :=
  h.trans (State.Within.of_changesOnly f (m := [.ports]) (fun y hy => by cases y <;> simp [State.agree] at hy ⊢)
    (by simpa using hp) (by simp))

theorem State.Within.append (h : s.Within l f t) (hl : Part.log ∈ l) (hp : Part.ports ∈ l) (x : Option Feeder)
    (b : RecordSource) (d : Details) : s.Within l f (t.append x b d) :=
  h.trans (State.Within.of_changesOnly f (m := [.log, .ports]) (fun y hy => by cases y <;> simp [State.agree] at hy ⊢)
    (by simp [hl, hp]) (by simp))

theorem State.Within.record (h : s.Within l f t) (hl : Part.log ∈ l) (hp : Part.ports ∈ l) (x : Feeder) (b : Block)
    (d : Details) : s.Within l f (t.record x b d) :=
  h.trans (State.Within.of_changesOnly f (m := [.log, .ports]) (fun y hy => by cases y <;> simp [State.agree] at hy ⊢)
    (by simp [hl, hp]) (by simp))

/-- What happens because of a request changes what it does, and sources in the log. -/
theorem State.Within.causedBy (hl : Part.log ∈ l) (p : Port) (op : State → State) (h : s.Within l f (op t)) :
    s.Within l f (t.causedBy p op) := by
  refine ⟨fun y hy => ?_, fun k hk i hi => h.2 k hk i hi⟩
  have := h.1 y hy
  cases y <;> simp_all [State.agree]

theorem State.Within.setFlag (h : s.Within l f t) (hp : Part.ports ∈ l) (fl : AttentionFlag) :
    s.Within l f (t.setFlag fl) :=
  h.trans (State.Within.of_changesOnly f (m := [.ports]) (fun y hy => by cases y <;> simp [State.agree] at hy ⊢)
    (by simpa using hp) (by simp))

theorem State.Within.respond (h : s.Within l f t) (hp : Part.ports ∈ l) (p : Port) (st : Status) (d : List Byte) :
    s.Within l f (t.respond p st d) :=
  h.trans (State.Within.of_changesOnly f (m := [.ports]) (fun y hy => by cases y <;> simp [State.agree] at hy ⊢)
    (by simpa using hp) (by simp))

theorem State.Within.reply (h : s.Within l f t) (hp : Part.ports ∈ l) (p : Port) (st : Status) :
    s.Within l f (t.reply p st) := h.respond hp p st []

end Sys2Proof.Machine
end

