-- ==== Sys2Proof/Laws/Blocks.lean ====
section
/-! SUPPORT. What the operations of the blocks may change, one lemma each: a state within some parts, and within a feeder's
blocks, of another stays so under the operation. -/

namespace Sys2Proof.Machine

variable {s t : State} {l : List Part} {f : Option Feeder} {g : Feeder}

/-! ### Breaker interface (R53 to R62) -/

theorem State.Within.tripRequest (h : s.Within l f t) (hb : .breakers ∈ l) (hf : ∀ x, f = some x → x = g)
    (r : TripRequest) : s.Within l f (t.tripRequest g r).1 := by
  unfold State.tripRequest
  dsimp only
  repeat' split
  all_goals first | exact h.setBreaker hb hf _ | exact h

theorem State.Within.closeRequest (h : s.Within l f t) (hb : .breakers ∈ l) (hf : ∀ x, f = some x → x = g)
    (p : ClosePurpose) (r : Requester) : s.Within l f (t.closeRequest g p r).1 := by
  unfold State.closeRequest
  dsimp only
  repeat' split
  all_goals first | exact h.setBreaker hb hf _ | exact h

theorem State.Within.tripConfirmedRecord (h : s.Within l f t) (hb : .breakers ∈ l) (hl : .log ∈ l) (hp : .ports ∈ l)
    (hf : ∀ x, f = some x → x = g) (op : TripOp) : s.Within l f (t.tripConfirmedRecord g op) :=
  (((h.setBreaker hb hf _).append hl hp _ _ _).setFlag hp _).setBreaker hb hf _

theorem State.Within.breakerFailRecord (h : s.Within l f t) (hb : .breakers ∈ l) (hl : .log ∈ l) (hp : .ports ∈ l)
    (hf : ∀ x, f = some x → x = g) (op : TripOp) : s.Within l f (t.breakerFailRecord g op) :=
  ((h.setBreaker hb hf _).append hl hp _ _ _).setFlag hp _

theorem State.Within.lateOpenRecord (h : s.Within l f t) (hb : .breakers ∈ l) (hl : .log ∈ l) (hp : .ports ∈ l)
    (hf : ∀ x, f = some x → x = g) (x : FailedTrip) : s.Within l f (t.lateOpenRecord g x) :=
  ((h.setBreaker hb hf _).append hl hp _ _ _).setFlag hp _

theorem State.Within.closeConfirmedRecord (h : s.Within l f t) (hb : .breakers ∈ l) (hl : .log ∈ l) (hp : .ports ∈ l)
    (hf : ∀ x, f = some x → x = g) (op : CloseOp) : s.Within l f (t.closeConfirmedRecord g op) :=
  ((h.setBreaker hb hf _).append hl hp _ _ _).setFlag hp _

theorem State.Within.closeFailRecord (h : s.Within l f t) (hb : .breakers ∈ l) (hl : .log ∈ l) (hp : .ports ∈ l)
    (hf : ∀ x, f = some x → x = g) (op : CloseOp) : s.Within l f (t.closeFailRecord g op) :=
  ((h.setBreaker hb hf _).append hl hp _ _ _).setFlag hp _

theorem State.Within.unexpectedRecord (h : s.Within l f t) (hl : .log ∈ l) (hp : .ports ∈ l) (k : Feeder) (b : Bool)
    (x y : Decoded) : s.Within l f (t.unexpectedRecord k b x y) :=
  (h.record hl hp _ _ _).setFlag hp _

theorem State.Within.positionFault (h : s.Within l f t) (hb : .breakers ∈ l) (hl : .log ∈ l) (hp : .ports ∈ l)
    (hf : ∀ x, f = some x → x = g) : s.Within l f (t.positionFault g) :=
  ((h.setBreaker hb hf _).record hl hp _ _ _).setFlag hp _

theorem State.Within.clearPositionFault (h : s.Within l f t) (hb : .breakers ∈ l) (hl : .log ∈ l) (hp : .ports ∈ l)
    (hf : ∀ x, f = some x → x = g) : s.Within l f (t.clearPositionFault g) := by
  unfold State.clearPositionFault
  dsimp only
  split
  · exact (h.setBreaker hb hf _).record hl hp _ _ _
  · exact h

/-! ### Reclose sequencer (R69 to R85) -/

theorem State.Within.lockout (h : s.Within l f t) (hq : .sequencers ∈ l) (hl : .log ∈ l) (hp : .ports ∈ l)
    (hf : ∀ x, f = some x → x = g) (r : LockoutReason) (c : Option CloseRefusal) : s.Within l f (t.lockout g r c) :=
  ((h.setSequencer hq hf _).record hl hp _ _ _).setFlag hp _

theorem State.Within.sequencerPlacement (h : s.Within l f t) (hq : .sequencers ∈ l) (hl : .log ∈ l) (hp : .ports ∈ l)
    (hf : ∀ x, f = some x → x = g) : s.Within l f (t.sequencerPlacement g) := by
  unfold State.sequencerPlacement
  split
  · exact h.lockout hq hl hp hf _ _
  · exact h

theorem State.Within.park (h : s.Within l f t) (hu : .protection ∈ l) (hq : .sequencers ∈ l)
    (hf : ∀ x, f = some x → x = g) : s.Within l f (t.park g) :=
  (h.setSequencer hq hf _).setUnit hu hf _

theorem State.Within.unpark (h : s.Within l f t) (hu : .protection ∈ l) (hq : .sequencers ∈ l)
    (hf : ∀ x, f = some x → x = g) : s.Within l f (t.unpark g) :=
  (h.setSequencer hq hf _).setUnit hu hf _

theorem State.Within.decideReclose (h : s.Within l f t) (hq : .sequencers ∈ l) (hl : .log ∈ l) (hp : .ports ∈ l)
    (hf : ∀ x, f = some x → x = g) : s.Within l f (t.decideReclose g) := by
  unfold State.decideReclose
  dsimp only
  repeat' split
  all_goals first | exact (h.setSequencer hq hf _).lockout hq hl hp hf _ _ | exact h.setSequencer hq hf _

theorem State.Within.protectionReport (h : s.Within l f t) (hq : .sequencers ∈ l) (hf : ∀ x, f = some x → x = g)
    (c : Cause) : s.Within l f (t.protectionReport g c) := by
  unfold State.protectionReport
  dsimp only
  repeat' split
  all_goals first | exact h.setSequencer hq hf _ | exact h

theorem State.Within.seqBreakerFail (h : s.Within l f t) (hq : .sequencers ∈ l) (hf : ∀ x, f = some x → x = g) :
    s.Within l f (t.seqBreakerFail g) := by
  unfold State.seqBreakerFail
  dsimp only
  split
  · exact h
  · exact h.setSequencer hq hf _

theorem State.Within.seqGrant (h : s.Within l f t) (hq : .sequencers ∈ l) (hf : ∀ x, f = some x → x = g) :
    s.Within l f (t.seqGrant g) := by
  unfold State.seqGrant
  dsimp only
  split
  · exact h.setSequencer hq hf _
  · exact h

theorem State.Within.seqLateOpen (h : s.Within l f t) (hq : .sequencers ∈ l) (hl : .log ∈ l) (hp : .ports ∈ l)
    (hf : ∀ x, f = some x → x = g) : s.Within l f (t.seqLateOpen g) := by
  unfold State.seqLateOpen
  dsimp only
  split
  · exact h.lockout hq hl hp hf _ _
  · exact h

theorem State.Within.seqCloseConfirmed (h : s.Within l f t) (hq : .sequencers ∈ l) (hf : ∀ x, f = some x → x = g)
    (p : ClosePurpose) : s.Within l f (t.seqCloseConfirmed g p) := by
  unfold State.seqCloseConfirmed
  dsimp only
  repeat' split
  all_goals first | exact h.setSequencer hq hf _ | exact h

theorem State.Within.seqCloseFail (h : s.Within l f t) (hq : .sequencers ∈ l) (hl : .log ∈ l) (hp : .ports ∈ l)
    (hf : ∀ x, f = some x → x = g) (p : ClosePurpose) : s.Within l f (t.seqCloseFail g p) := by
  unfold State.seqCloseFail
  dsimp only
  repeat' split
  all_goals first | exact h.lockout hq hl hp hf _ _ | exact h

theorem State.Within.seqRefused (h : s.Within l f t) (hq : .sequencers ∈ l) (hl : .log ∈ l) (hp : .ports ∈ l)
    (hf : ∀ x, f = some x → x = g) (r : CloseRefusal) : s.Within l f (t.seqRefused g r) := by
  unfold State.seqRefused
  dsimp only
  repeat' split
  all_goals first | exact h.lockout hq hl hp hf _ _ | exact h.setSequencer hq hf _ | exact h

theorem State.Within.seqCut (h : s.Within l f t) (hq : .sequencers ∈ l) (hf : ∀ x, f = some x → x = g)
    (p : ClosePurpose) : s.Within l f (t.seqCut g p) := by
  unfold State.seqCut
  dsimp only
  repeat' split
  all_goals first | exact h.setSequencer hq hf _ | exact h

theorem State.Within.seqUnexpected (h : s.Within l f t) (hq : .sequencers ∈ l) (hf : ∀ x, f = some x → x = g)
    (b : Bool) : s.Within l f (t.seqUnexpected g b) := by
  unfold State.seqUnexpected
  dsimp only
  repeat' split
  all_goals first | exact h.setSequencer hq hf _ | exact h

theorem State.Within.tellCut (h : s.Within l f t) (hq : .sequencers ∈ l) (hp : .ports ∈ l)
    (hf : ∀ x, f = some x → x = g) (op : CloseOp) : s.Within l f (t.tellCut g op) := by
  unfold State.tellCut
  dsimp only
  split
  · exact (h.reply hp _ _).seqCut hq hf _
  · exact h.seqCut hq hf _

/-! ### Setting store (R104, R126, R146, R178) -/

/-- The part that holds an owner's pending mark. -/
def RetentionOwner.part : RetentionOwner → Part
  | .holds _ => .holds
  | .fireRequests => .fire
  | .isolation => .bus

/-- The feeder whose blocks hold an owner's pending mark, if it is one of them, is the one given. -/
def RetentionOwner.fits (o : RetentionOwner) (f : Option Feeder) : Prop :=
  match o with
  | .holds g => ∀ x, f = some x → x = g
  | .fireRequests => True
  | .isolation => True

theorem State.Within.setPendingMark (h : s.Within l f t) (o : RetentionOwner) (ho : o.part ∈ l) (hf : o.fits f)
    (m : Bool) : s.Within l f (t.setPendingMark o m) := by
  cases o with
  | holds k => exact h.setHoldTable ho hf _
  | fireRequests => exact h.setFire ho _
  | isolation => exact h.setBus ho _

/-- With the store's law the head has begun or may not begin, and nothing begins but an entry that joins an empty queue. -/
theorem State.Within.storeEnqueue_port (h : s.Within l f t) (hs : .store ∈ l) (law : t.StoreLaw) (p : Port)
    (w : PortWrite) : s.Within l f (t.storeEnqueue (.port p w)) := by
  have hk := h.setStore hs
    { t.store with queue := t.store.queue ++ [{ job := .port p w, begun := false }] }
  unfold State.storeEnqueue State.beginHead
  rcases hq : t.store.queue with _ | ⟨e, rest⟩
  · rw [hq] at hk
    simp only [State.setStore_store, List.nil_append]
    split
    · exact hk
    · exact hk.setStore hs _
  · rw [hq] at hk
    simp only [State.StoreLaw, hq] at law
    simp only [State.setStore_store, List.cons_append]
    rw [if_pos]
    · exact hk
    · simpa [State.storeMayBegin] using law

theorem State.Within.requestRetention (h : s.Within l f t) (o : RetentionOwner) (hs : .store ∈ l) (ho : o.part ∈ l)
    (hf : o.fits f) (law : t.StoreLaw) : s.Within l f (t.requestRetention o) := by
  unfold State.requestRetention
  split
  · exact h
  split
  · exact h
  have hm : (t.setPendingMark o true).store = t.store := by cases o <;> rfl
  have hr : (t.setPendingMark o true).restart = t.restart := by cases o <;> rfl
  have hk := (h.setPendingMark o ho hf true).setStore hs
    { (t.setPendingMark o true).store with
      queue := (t.setPendingMark o true).store.queue ++ [{ job := .internal o none, begun := false }] }
  unfold State.storeEnqueue State.beginHead
  rcases hq : t.store.queue with _ | ⟨e, rest⟩
  · rw [hm, hq] at hk
    simp only [State.setStore_store, hm, hq, List.nil_append]
    split
    · exact hk
    · exact (hk.setStore hs _).setPendingMark o ho hf false
  · rw [hm, hq] at hk
    simp only [State.StoreLaw, hq] at law
    simp only [State.setStore_store, hm, hq, List.cons_append]
    rw [if_pos]
    · exact hk
    · simpa [State.storeMayBegin, hr] using law

/-- The store's law rests on its queue and on a standing RESTART alone. -/
theorem State.storeLaw_congr (hs : t.store = s.store) (hr : t.restart = s.restart) : t.StoreLaw ↔ s.StoreLaw := by
  simp only [State.StoreLaw, State.storeMayBegin, hs, hr]

/-- An entry that joins the queue keeps the store's law (R178). -/
theorem State.storeEnqueue_law (law : t.StoreLaw) (j : StoreJob) : (t.storeEnqueue j).StoreLaw := by
  unfold State.storeEnqueue State.beginHead
  rcases hq : t.store.queue with _ | ⟨e, rest⟩
  · simp only [State.setStore_store, List.nil_append]
    split
    · rename_i hb
      simpa [State.StoreLaw, State.storeMayBegin] using hb
    · cases j with
      | port => simp [State.StoreLaw]
      | internal o x => cases o <;> simp [State.StoreLaw, State.setPendingMark]
  · simp only [State.StoreLaw, hq] at law
    simp only [State.setStore_store, List.cons_append]
    rw [if_pos]
    · simpa [State.StoreLaw, State.storeMayBegin] using law
    · simpa [State.storeMayBegin] using law

theorem State.requestRetention_law (law : t.StoreLaw) (o : RetentionOwner) : (t.requestRetention o).StoreLaw := by
  unfold State.requestRetention
  split
  · exact law
  split
  · exact law
  refine State.storeEnqueue_law ((State.storeLaw_congr (s := t) ?_ ?_).2 law) _ <;> cases o <;> rfl

theorem State.placed_law (law : t.StoreLaw) (e : Hold) (r : Bool) (p : Option Port) (a : Option Feeder) :
    (t.placed g e r p a).StoreLaw := by
  have hk : (if e.owner = .hunt then
      ((t.append (some g) (sourceOf p .holdTable)
        (.holdPlaced e r p (t.holdTable g).list.length a)).setFlag .holds).park g
      else ((t.append (some g) (sourceOf p .holdTable)
        (.holdPlaced e r p (t.holdTable g).list.length a)).setFlag .holds).sequencerPlacement g).StoreLaw := by
    split
    · exact (State.storeLaw_congr (s := t) (by simp [State.park, State.moveSequencer, State.setFreeze])
        (by simp [State.park, State.moveSequencer, State.setFreeze])).2 law
    · unfold State.sequencerPlacement
      split <;>
        exact (State.storeLaw_congr (s := t) (by simp [State.lockout]) (by simp [State.lockout])).2 law
  unfold State.placed
  dsimp only
  split
  · exact State.requestRetention_law hk _
  · exact hk

theorem State.placeHold_law (law : t.StoreLaw) (e : Hold) (p : Option Port) (a : Option Feeder) :
    (t.placeHold g e p a).StoreLaw := by
  have hk : (t.setHoldTable g { t.holdTable g with list := (t.holdTable g).list ++ [e] }).StoreLaw := law
  exact State.placed_law hk e false p a

/-! ### Hold table (R92 to R101) -/

/-- A placement other than HUNT. -/
theorem State.Within.placed (h : s.Within l f t) (hh : .holds ∈ l) (hq : .sequencers ∈ l) (hl : .log ∈ l)
    (hs : .store ∈ l) (hp : .ports ∈ l) (hf : ∀ x, f = some x → x = g) (law : t.StoreLaw) (e : Hold)
    (ne : e.owner ≠ .hunt) (r : Bool) (p : Option Port) (a : Option Feeder) : s.Within l f (t.placed g e r p a) := by
  have hk := ((h.append hl hp (some g) (sourceOf p .holdTable)
    (.holdPlaced e r p (t.holdTable g).list.length a)).setFlag hp .holds).sequencerPlacement hq hl hp hf
  unfold State.placed
  simp only [if_neg ne]
  split
  · refine hk.requestRetention _ hs hh hf ?_
    unfold State.sequencerPlacement
    split <;> simpa [State.StoreLaw, State.lockout, State.storeMayBegin] using law
  · exact hk

theorem State.Within.placeHold (h : s.Within l f t) (hh : .holds ∈ l) (hq : .sequencers ∈ l) (hl : .log ∈ l)
    (hs : .store ∈ l) (hp : .ports ∈ l) (hf : ∀ x, f = some x → x = g) (law : t.StoreLaw) (e : Hold)
    (ne : e.owner ≠ .hunt) (p : Option Port) (a : Option Feeder) : s.Within l f (t.placeHold g e p a) :=
  (h.setHoldTable hh hf _).placed hh hq hl hs hp hf law e ne _ _ _

theorem State.Within.refreshHold (h : s.Within l f t) (hh : .holds ∈ l) (hq : .sequencers ∈ l) (hl : .log ∈ l)
    (hs : .store ∈ l) (hp : .ports ∈ l) (hf : ∀ x, f = some x → x = g) (law : t.StoreLaw) (old new : Hold)
    (ne : new.owner ≠ .hunt) (p : Port) : s.Within l f (t.refreshHold g old new p) :=
  (h.setHoldTable hh hf _).placed hh hq hl hs hp hf law new ne _ _ _

/-- A removal other than HUNT. -/
theorem State.Within.takeOffHold (h : s.Within l f t) (hh : .holds ∈ l) (hl : .log ∈ l) (hp : .ports ∈ l)
    (hf : ∀ x, f = some x → x = g) (e : Hold) (ne : e.owner ≠ .hunt) (c : RemovalCause) (p : Option Port) :
    s.Within l f (t.takeOffHold g e c p) := by
  unfold State.takeOffHold
  simp only [if_neg ne]
  exact ((h.setHoldTable hh hf _).append hl hp _ _ _).setFlag hp _

/-- The PATROL placement on one list (R101). -/
theorem State.Within.placePatrolOn (h : s.Within l none t) (hh : .holds ∈ l) (hq : .sequencers ∈ l) (hl : .log ∈ l)
    (hs : .store ∈ l) (hp : .ports ∈ l) (law : t.StoreLaw) (a k : Feeder) :
    s.Within l none (t.placePatrolOn a k) ∧ (t.placePatrolOn a k).StoreLaw := by
  unfold State.placePatrolOn State.placeAutomatic
  split
  · exact ⟨h, law⟩
  · exact ⟨h.placeHold hh hq hl hs hp (by simp) law _ (by simp [State.automaticHold]) _ _, State.placeHold_law law _ _ _⟩

/-- The PATROL placement on a feeder and its corridor (R101). -/
theorem State.Within.placePatrol (h : s.Within l none t) (hh : .holds ∈ l) (hq : .sequencers ∈ l) (hl : .log ∈ l)
    (hs : .store ∈ l) (hp : .ports ∈ l) (law : t.StoreLaw) (a : Feeder) :
    s.Within l none (t.placePatrol a) ∧ (t.placePatrol a).StoreLaw := by
  unfold State.placePatrol
  dsimp only
  have hk := h.placePatrolOn hh hq hl hs hp law a a
  generalize t.placePatrolOn a a = u at hk
  generalize (allFeeders.filter _) = fs
  induction fs generalizing u with
  | nil => exact hk
  | cons k rest ih => exact ih _ (hk.1.placePatrolOn hh hq hl hs hp hk.2 a k)

/-- What a confirmed trip does to the sequencer, the hold lists and the store (R71). -/
theorem State.Within.confirmTrip (h : s.Within l none t) (hh : .holds ∈ l) (hq : .sequencers ∈ l) (hl : .log ∈ l)
    (hs : .store ∈ l) (hp : .ports ∈ l) (law : t.StoreLaw) (a : Feeder) : s.Within l none (t.confirmTrip a) := by
  have hk : s.Within l none (t.patrolIfDue a) := by
    unfold State.patrolIfDue
    split
    · exact (h.placePatrol hh hq hl hs hp law a).1
    · exact h
  unfold State.confirmTrip
  dsimp only
  split
  · exact hk.setSequencer hq (by simp) _
  · exact hk.decideReclose hq hl hp (by simp)

/-- The HUNT removal (R100). -/
theorem State.Within.removeHunt (h : s.Within l f t) (hu : .protection ∈ l) (hq : .sequencers ∈ l) (hh : .holds ∈ l)
    (hl : .log ∈ l) (hp : .ports ∈ l) (hf : ∀ x, f = some x → x = g) : s.Within l f (t.removeHunt g) := by
  unfold State.removeHunt
  split
  · have hk := fun e => ((h.setHoldTable hh hf { t.holdTable g with list := (t.holdTable g).list.erase e }).append hl hp
      (some g) (sourceOf none .holdTable) (.holdRemoved e .huntEnd none)).setFlag hp .holds
    unfold State.takeOffHold
    dsimp only
    split
    · exact (hk _).unpark hu hq hf
    · exact hk _
  · exact h

/-! ### Line bus (R131 to R146) -/

theorem State.Within.enterBus (h : s.Within l f t) (hb : .bus ∈ l) (st : BusState) (c : List Byte) :
    s.Within l f (t.enterBus st c) := h.setBus hb _

theorem State.Within.startPreamble (h : s.Within l f t) (hb : .bus ∈ l) : s.Within l f t.startPreamble := by
  unfold State.startPreamble
  split
  · exact h
  · exact (h.setBus hb _).enterBus hb _ _

theorem State.Within.busEnqueue (h : s.Within l f t) (hb : .bus ∈ l) (e : BusEntry) :
    s.Within l f (t.busEnqueue e) := by
  unfold State.busEnqueue
  dsimp only
  split
  · exact (h.setBus hb _).startPreamble hb
  · exact h.setBus hb _

theorem State.Within.updateUnit (h : s.Within l f t) (hb : .bus ∈ l) (a : Nat) (k : UnitRecord → UnitRecord) :
    s.Within l f (t.updateUnit a k) := h.setBus hb _

theorem State.Within.unitHeard (h : s.Within l f t) (hb : .bus ∈ l) (hp : .ports ∈ l) (a : Nat) (w : UnitWord) :
    s.Within l f (t.unitHeard a w) := by
  unfold State.unitHeard
  dsimp only
  split
  · exact (h.updateUnit hb _ _).setFlag hp _
  · exact h.updateUnit hb _ _

theorem State.Within.takeReport (h : s.Within l f t) (hb : .bus ∈ l) (hp : .ports ∈ l) (r : ReportTaken) :
    s.Within l f (t.takeReport r).1 := by
  unfold State.takeReport
  dsimp only
  split
  · exact (h.unitHeard hb hp _ _).setFlag hp _
  · exact h.unitHeard hb hp _ _

theorem State.Within.setIsolated (h : s.Within l f t) (hb : .bus ∈ l) (hs : .store ∈ l) (hp : .ports ∈ l)
    (law : t.StoreLaw) (a : Nat) (v : Bool) : s.Within l f (t.setIsolated a v) := by
  unfold State.setIsolated
  split
  · exact h
  · exact ((h.updateUnit hb _ _).setFlag hp _).requestRetention .isolation hs hb trivial law

theorem State.Within.markSilent (h : s.Within l f t) (hb : .bus ∈ l) (hl : .log ∈ l) (hp : .ports ∈ l) (e : BusEntry) :
    s.Within l f (t.markSilent e) := by
  unfold State.markSilent
  dsimp only
  split
  · exact h
  · exact (h.updateUnit hb _ _).append hl hp _ _ _

theorem State.Within.busHandOn (h : s.Within l f t) (hb : .bus ∈ l) (hl : .log ∈ l) (hp : .ports ∈ l) (e : BusEntry)
    (c : CompletionCode) : s.Within l f (t.busHandOn e c) := by
  have hm : s.Within l f (if c = .noReply then t.markSilent e else t) := by
    split
    · exact h.markSilent hb hl hp e
    · exact h
  unfold State.busHandOn
  dsimp only
  repeat' split
  all_goals
    first
      | exact (hm.updateUnit hb _ _).setFlag hp _
      | exact hm.updateUnit hb _ _
      | exact hm.setFlag hp _
      | exact hm
      | simp_all [State.Within.updateUnit, State.Within.setFlag]

theorem State.Within.endAttempt (h : s.Within l f t) (hb : .bus ∈ l) (hl : .log ∈ l) (hp : .ports ∈ l)
    (c : CompletionCode) : s.Within l f (t.endAttempt c).1 := by
  have hg := h.enterBus hb .gap []
  unfold State.endAttempt
  dsimp only
  split
  · exact hg
  · split
    · exact hg.setBus hb _
    · exact (hg.setBus hb _).busHandOn hb hl hp _ _

theorem State.Within.offerHunt (h : s.Within l f t) (hb : .bus ∈ l) (k : Feeder) (i : Nat) (c : UnitCommandKind) :
    s.Within l f (t.offerHunt k i c).1 := by
  unfold State.offerHunt
  repeat' split
  all_goals first | exact h.busEnqueue hb _ | exact h

theorem State.Within.withdrawHunt (h : s.Within l f t) (hb : .bus ∈ l) : s.Within l f t.withdrawHunt.1 := by
  unfold State.withdrawHunt
  dsimp only
  repeat' split
  all_goals first | exact (h.setBus hb _).enterBus hb _ _ | exact h.setBus hb _

/-! ### Hunt engine (R162, R169, R170) -/

theorem State.Within.cancelWindow (h : s.Within l f t) (hu : .protection ∈ l) (hf : ∀ x, f = some x → x = g) :
    s.Within l f (t.cancelWindow g) := h.setUnit hu hf _

theorem State.Within.huntRelease (h : s.Within l f t) (hu : .protection ∈ l) (hb : .bus ∈ l) (hn : .hunt ∈ l)
    (hf : ∀ x, f = some x → x = g) : s.Within l f (t.huntRelease g) := by
  have hw := h.withdrawHunt hb
  unfold State.huntRelease
  dsimp only
  split
  · exact (hw.setHunt hn _).cancelWindow hu hf
  · exact hw.cancelWindow hu hf

/-- All that the end of a hunt may change. -/
theorem State.Within.huntFinish (h : s.Within l f t) (hu : .protection ∈ l) (hq : .sequencers ∈ l) (hh : .holds ∈ l)
    (hb : .bus ∈ l) (hn : .hunt ∈ l) (hl : .log ∈ l) (hp : .ports ∈ l) (hf : ∀ x, f = some x → x = g)
    (r : EndReason) (d : EndDetail) : s.Within l f (t.huntFinish g r d) :=
  (((h.huntRelease hu hb hn hf).removeHunt hu hq hh hl hp hf).setHunt hn _).record hl hp _ _ _ |>.setFlag hp _

theorem State.Within.traceBlock (h : s.Within l f t) (hn : .hunt ∈ l) (hl : .log ∈ l) (hp : .ports ∈ l) (k : Feeder)
    (o : BlockOutcome) (b : Bool) : s.Within l f (t.traceBlock k o b) := by
  unfold State.traceBlock
  dsimp only
  split
  · exact ((h.setHunt hn _).record hl hp _ _ _).setFlag hp _
  · exact h.setHunt hn _

theorem State.Within.closePause (h : s.Within l f t) (hn : .hunt ∈ l) (hl : .log ∈ l) (hp : .ports ∈ l) (k : Feeder)
    (r : PauseReason) : s.Within l f (t.closePause k r) :=
  ((h.setHunt hn _).record hl hp _ _ _).setFlag hp _

/-! ### Protection unit and fire controller (R37, R38, R122) -/

theorem State.Within.baselineHigh (h : s.Within l f t) (hl : .log ∈ l) (hp : .ports ∈ l) (k : Feeder) (v b : Nat) :
    s.Within l f (t.baselineHigh k v b) := (h.record hl hp _ _ _).setFlag hp _

theorem State.Within.push (h : s.Within l f t) (hu : .protection ∈ l) (hl : .log ∈ l) (hp : .ports ∈ l)
    (hf : ∀ x, f = some x → x = g) (old new : Effective) : s.Within l f (t.push g old new) := by
  unfold State.push
  dsimp only
  split
  · exact (h.setUnit hu hf _).baselineHigh hl hp _ _ _
  · exact h.setUnit hu hf _

theorem State.Within.updateBaseline (h : s.Within l f t) (hu : .protection ∈ l) (hl : .log ∈ l) (hp : .ports ∈ l)
    (hf : ∀ x, f = some x → x = g) (x : Sample) : s.Within l f (t.updateBaseline g x) := by
  unfold State.updateBaseline
  dsimp only
  repeat' split
  all_goals
    first | exact (h.setUnit hu hf _).baselineHigh hl hp _ _ _ | exact h.setUnit hu hf _ | exact h

theorem State.Within.levelChanged (h : s.Within l f t) (hl : .log ∈ l) (hp : .ports ∈ l) (k : Feeder)
    (old new : Effective) (c : FireCause) : s.Within l f (t.levelChanged k old new c) := by
  unfold State.levelChanged
  split
  · exact h
  · exact (h.append hl hp _ _ _).setFlag hp _

end Sys2Proof.Machine
end

