-- ==== Sys2Proof/Laws/Samples.lean ====
section
/-! SUPPORT. What one sample does at a protection unit, in the terms of Safety.lean, and how a trip request that joins one in
FAIL_PULSE is answered. -/

namespace Sys2Proof.Machine

/-! ### The elements (R13, R25, R34) -/

theorem Protection.evaluate_unit (u : Protection) (e : Effective) (oc ef : Curve) (x : Sample) :
    (u.evaluate e oc ef x).unit = u.afterElements e oc ef x := by
  cases h : u.base.seeded <;>
    simp [Protection.evaluate, Protection.afterElements, Protection.baseFor, Protection.sefOn, Protection.raisesAlarm,
      compensated, Sample.imax, h]

theorem Protection.evaluate_alarm (u : Protection) (e : Effective) (oc ef : Curve) (x : Sample) :
    (u.evaluate e oc ef x).alarm = u.raisesAlarm e x := by
  cases h : u.base.seeded <;>
    simp [Protection.evaluate, Protection.baseFor, Protection.sefOn, Protection.raisesAlarm, compensated, h]

theorem Protection.evaluate_cause (u : Protection) (e : Effective) (oc ef : Curve) (x : Sample) :
    (u.evaluate e oc ef x).cause = u.causeOn e oc ef x := by
  cases h : u.base.seeded <;>
    simp [Protection.evaluate, Protection.causeOn, Protection.baseFor, Protection.sefOn, tripCause, compensated,
      Sample.imax, h]

/-- A seeding beyond the limit latches the mark only from a clear one (R35, R37). -/
theorem Protection.evaluate_seedHigh (u : Protection) (e : Effective) (oc ef : Curve) (x : Sample) :
    (u.evaluate e oc ef x).seedHigh = true ↔
      u.base.seeded = false ∧ u.base.high = false ∧ e.group.limit < x.i0 := by
  cases h : u.base.seeded <;> cases k : u.base.high <;> simp [Protection.evaluate, Baseline.seed, h, k]

/-! ### A trip joined in FAIL_PULSE (R55, R79) -/

theorem State.tripRequest_failPulse {s : State} {f : Feeder} {op : TripOp} (r : TripRequest)
    (slot : (s.breaker f).slot = .trip op) (phase : op.phase = .failPulse) :
    s.tripRequest f r =
      (s.setBreaker f { s.breaker f with slot := .trip (op.join r), failed := some (op.join r).asFailed }, .failed) := by
  simp [State.tripRequest, slot, phase]

/-- Outside HUNT a BREAKER_FAIL leaves a sequencer FAILED, and in HUNT it changes nothing (R79). -/
theorem State.seqBreakerFail_state (s : State) (f : Feeder) :
    ((s.sequencer f).state = .hunt → s.seqBreakerFail f = s) ∧
      ((s.sequencer f).state ≠ .hunt → ((s.seqBreakerFail f).sequencer f).state = .failed) := by
  refine ⟨fun h => by simp [State.seqBreakerFail, h], fun h => ?_⟩
  cases f <;> simp_all [State.seqBreakerFail, State.setSequencer, State.sequencer, feederGet, feederSet]

/-- The engine's own trip joined in FAIL_PULSE ends the hunt, and no block begins (R158). -/
theorem State.huntTripFailed_stops (s : State) (f : Feeder) : (s.huntTripFailed f).2 = none := rfl

end Sys2Proof.Machine
end

