-- ==== Sys2Proof/Laws/Wire.lean ====
section
/-! SUPPORT. The bus state entered, what the driver sends, the clock and the ACK it opens, the engine's close request, the
fields of a response, the records of the image, and the two ways a sequencer takes a BREAKER_FAIL: what each can do, said
once. -/

namespace Sys2Proof.Machine

/-! ### The bus state (R131) -/

/-- Entering a bus state is one update of the bus. -/
theorem State.enterBus_eq (s : State) (st : BusState) (c : List Byte) :
    s.enterBus st c = s.setBus
      { s.bus with state := st, since := s.ms, mismatch := none, ackTimer := none, sent := c } := rfl

@[simp] theorem State.enterBus_state (s : State) (st : BusState) (c : List Byte) : (s.enterBus st c).bus.state = st := rfl
@[simp] theorem State.enterBus_since (s : State) (st : BusState) (c : List Byte) : (s.enterBus st c).bus.since = s.ms := rfl
@[simp] theorem State.enterBus_sent (s : State) (st : BusState) (c : List Byte) : (s.enterBus st c).bus.sent = c := rfl
@[simp] theorem State.enterBus_ackTimer (s : State) (st : BusState) (c : List Byte) :
    (s.enterBus st c).bus.ackTimer = none := rfl
@[simp] theorem State.enterBus_mismatch (s : State) (st : BusState) (c : List Byte) :
    (s.enterBus st c).bus.mismatch = none := rfl
@[simp] theorem State.enterBus_queue (s : State) (st : BusState) (c : List Byte) :
    (s.enterBus st c).bus.queue = s.bus.queue := rfl
@[simp] theorem State.enterBus_units (s : State) (st : BusState) (c : List Byte) :
    (s.enterBus st c).bus.units = s.bus.units := rfl

/-- ACTIVE seen: LISTENING from GAP and IDLE, the 500 ms anew in STUCK, and else nothing. -/
theorem State.activeSeen_cases (s : State) :
    ((s.bus.state = .gap ∨ s.bus.state = .idle) ∧ s.activeSeen = s.enterBus .listening []) ∨
      (s.bus.state = .stuck ∧ s.activeSeen = s.setBus { s.bus with lastActive := s.ms }) ∨
      (s.bus.state ≠ .gap ∧ s.bus.state ≠ .idle ∧ s.bus.state ≠ .stuck ∧ s.activeSeen = s) := by
  cases h : s.bus.state <;> simp [State.activeSeen, State.busIn, h]

/-! ### The wire (R129, R130) -/

@[simp] theorem characterLevels_length (c : Byte) : (characterLevels c).length = 10 := by simp [characterLevels]

@[simp] theorem preambleLevels_length (n : Nat) : (preambleLevels n).length = 4 := rfl

/-- The ten levels of each of a run of characters. -/
theorem flatMap_characterLevels_length (cs : List Byte) : (cs.flatMap characterLevels).length = 10 * cs.length := by
  induction cs with
  | nil => rfl
  | cons c cs ih => simp only [List.flatMap_cons, List.length_append, ih, characterLevels_length, List.length_cons]; omega

/-! ### The clock (R11, R134) -/

@[simp] theorem State.clock_ms (s : State) : s.clock.ms = s.ms + 1 := rfl
@[simp] theorem State.clock_time (s : State) : s.clock.time = s.time.advance := rfl
@[simp] theorem State.clock_bus (s : State) : s.clock.bus = s.bus := rfl

/-- The ACK opens or nothing happens. -/
theorem State.openAck_cases (s : State) :
    ((s.bus.state = .listening ∧ timerDue s.ms s.bus.ackTimer = true) ∧ s.openAck = s.enterBus .acking ackChars) ∨
      ((s.bus.state ≠ .listening ∨ timerDue s.ms s.bus.ackTimer = false) ∧ s.openAck = s) := by
  unfold State.openAck
  split
  · exact .inl ⟨‹_›, rfl⟩
  · next h =>
    refine .inr ⟨?_, rfl⟩
    by_cases hb : s.bus.state = .listening
    · exact .inr (Bool.not_eq_true _ ▸ fun hd => h ⟨hb, hd⟩)
    · exact .inl hb

/-! ### The engine's close request (R158) -/

@[simp] theorem State.sendHuntClose_hunt (s : State) (f : Feeder) :
    (s.sendHuntClose f).hunt = { s.hunt with awaiting := .ask, asks := s.hunt.asks + 1 } := by
  simp [State.sendHuntClose]

@[simp] theorem State.sendHuntClose_breaker_self (s : State) (f : Feeder) :
    (s.sendHuntClose f).breaker f = { s.breaker f with huntAsk := true } := by simp [State.sendHuntClose]

/-- What the engine makes of its close request once it is taken: nothing where it asks for none there; the pulse awaited; a
refusal acted on while RUNNING, or the end of a STOPPING hunt. -/
theorem State.huntCloseTaken_cases (s : State) (f : Feeder) (c : CloseTaken) :
    s.huntCloseTaken f c = (s, none) ∨
      (s.hunt.awaiting = .ask ∧ s.hunt.feeder = some f ∧
        ((c = .granted ∧ s.huntCloseTaken f c = (s.setHunt { s.hunt with awaiting := .close }, none)) ∨
          ∃ r h, c = .refused r h ∧
            ((s.hunt.state = .running ∧ s.huntCloseTaken f c = s.huntRefused f r) ∨
              (s.hunt.state = .stopping ∧ s.huntCloseTaken f c = (s.huntAborted f, none))))) := by
  unfold State.huntCloseTaken
  split
  · exact .inl rfl
  · next h =>
    rw [not_or, not_not, not_not] at h
    cases c with
    | granted => exact .inr ⟨h.1, h.2, .inl ⟨rfl, rfl⟩⟩
    | refused r x =>
      simp only
      split
      · exact .inr ⟨h.1, h.2, .inr ⟨r, x, rfl, .inl ⟨‹_›, rfl⟩⟩⟩
      · split
        · exact .inr ⟨h.1, h.2, .inr ⟨r, x, rfl, .inr ⟨‹_›, rfl⟩⟩⟩
        · exact .inl rfl

/-- Without a standing request a tick takes none. -/
theorem State.takeHuntCloses_none {s : State} (h : ∀ f, (s.breaker f).huntAsk = false) : s.takeHuntCloses = s := by
  simp [State.takeHuntCloses, allFeeders, h]

/-! ### Fields of a response (R197) -/

@[simp] theorem fieldBytes_nil : fieldBytes [] = [] := rfl

theorem fieldBytes_cons (w n : Nat) (l : Fields) : fieldBytes ((w, n) :: l) = widthBytes w n ++ fieldBytes l := rfl

theorem fieldBytes_append (l m : Fields) : fieldBytes (l ++ m) = fieldBytes l ++ fieldBytes m := by simp [fieldBytes]

theorem widthBytes_one (n : Nat) : widthBytes 1 n = u8 n := by simp [widthBytes, u8]
theorem widthBytes_two (n : Nat) : widthBytes 2 n = u16 n := by simp [widthBytes, u16]
theorem widthBytes_four (n : Nat) : widthBytes 4 n = u32 n := by simp [widthBytes, u32]
theorem u8_yesNo (b : Bool) : u8 (yesNo b) = bit b := by cases b <;> rfl

/-- The fields of each item of a list, one after the other. -/
theorem fieldBytes_flatMap {α : Type} (l : List α) (g : α → Fields) :
    fieldBytes (l.flatMap g) = l.flatMap (fun x => fieldBytes (g x)) := by
  induction l with
  | nil => rfl
  | cons x l ih => simp [fieldBytes_append, ih]

/-! ### Records of the image (R177, R195) -/

/-- A record passes its check: all four tests. -/
theorem Stored.matches_iff {α : Type} (fmt : RecordFormat α) (i : Nat) (x : Stored α) :
    x.matches fmt i = true ↔
      x.cls = fmt.cls ∧ x.index = i ∧ x.length = (fmt.bytes x.value).length ∧ x.check = x.checkCode fmt := by
  simp [Stored.matches, and_assoc]

@[simp] theorem stored_cls {α : Type} (fmt : RecordFormat α) (i : Nat) (a : α) : (stored fmt i a).cls = fmt.cls := rfl
@[simp] theorem stored_index {α : Type} (fmt : RecordFormat α) (i : Nat) (a : α) : (stored fmt i a).index = i := rfl
@[simp] theorem stored_length {α : Type} (fmt : RecordFormat α) (i : Nat) (a : α) :
    (stored fmt i a).length = (fmt.bytes a).length := rfl

@[simp] theorem Stored.damage_value {α : Type} (fmt : RecordFormat α) (x : Stored α) : (x.damage fmt).value = x.value :=
  rfl
@[simp] theorem Stored.damage_check {α : Type} (fmt : RecordFormat α) (x : Stored α) :
    (x.damage fmt).check = ~~~ x.checkCode fmt := rfl

/-! ### BREAKER_FAIL at the sequencer (R79) -/

/-- Without a held MANUAL-OPEN an outcome BREAKER_FAIL is the sequencer's own move, and nothing in HUNT. -/
theorem State.failSequencer_of_none (s : State) (f : Feeder) (h : (s.sequencer f).pendingOpen = []) :
    s.failSequencer f = if (s.sequencer f).state = .hunt then s else s.seqBreakerFail f := by
  simp [State.failSequencer, h]

/-! ### A joined trip (R55) -/

@[simp] theorem TripOp.join_purposes (op : TripOp) (r : TripRequest) :
    (op.join r).purposes = op.purposes.join r.purpose.single := rfl
@[simp] theorem TripOp.join_cause (op : TripOp) (r : TripRequest) : (op.join r).cause = op.cause.or r.cause := rfl
@[simp] theorem TripOp.join_phase (op : TripOp) (r : TripRequest) : (op.join r).phase = op.phase := rfl
@[simp] theorem TripOp.join_cut (op : TripOp) (r : TripRequest) : (op.join r).cut = op.cut := rfl

/-- The requester stands among those of the joined trip. -/
theorem TripOp.requester_mem_join (op : TripOp) (r : TripRequest) : r.requester ∈ (op.join r).requesters := by
  simp only [TripOp.join]
  split
  · next h => exact List.contains_iff_mem.1 h
  · exact List.mem_append_right _ (List.mem_singleton.2 rfl)

end Sys2Proof.Machine
end

