-- ==== Sys2Proof/Tests/Slice0.lean ====
section
/-! SUPPORT. Tests: check codes and worked numbers of the manual, the ill-formed terms that WellFormed refuses, single
steps, and for every statement with hypotheses a state and operands that meet them. -/

namespace Sys2Proof.Tests

open Sys2Proof.Machine

-- One theorem is checked after the other: each check in a thread of its own would take a stack of its own.
set_option Elab.async false

/-! ### Builders -/

/-- The state of the tests: State.reset. -/
def st : State := State.reset

/-- A frame of a code for control counter 0. -/
def fr (code : Byte) (payload : List Byte) : Frame := frameBuild code 0 payload

/-- A measurement transfer: eleven bytes and their check code. -/
def transfer (body : List Byte) : List Byte := body ++ u16 (crc16 body).toNat

/-- A line bus frame: its characters and their check. -/
def onWire (body : List Byte) : List Byte := body ++ [crc8 body]

def openContacts : Contacts := { openMade := true, closedMade := false }
def closedContacts : Contacts := { openMade := false, closedMade := true }
def travelContacts : Contacts := { openMade := false, closedMade := false }
def invalidContacts : Contacts := { openMade := true, closedMade := true }

def atMs (s : State) (n : Nat) : State := { s with ms := BitVec.ofNat 32 n }

/-- Change one feeder's blocks. -/
def onBreaker (s : State) (g : Breaker → Breaker) : State := s.setBreaker .f1 (g (s.breaker .f1))
def onSequencer (s : State) (g : Sequencer → Sequencer) : State := s.setSequencer .f1 (g (s.sequencer .f1))
def inSeq (s : State) (q : SeqState) : State := onSequencer s (fun x => { x with state := q })

/-- F1 closed and in service. -/
def closedState : State :=
  inSeq (onBreaker st (fun b => { b with contacts := closedContacts, stableClosed := true })) .inService

def tripOp : TripOp :=
  { purposes := { protection := false, manual := true, hunt := false }, requesters := [.master .station], cause := none
    phase := .pulse, pulseLength := 160, confirmTime := 200, started := 0, cut := none, closedFirst := false }

def closeOp (p : ClosePurpose) (r : Requester) : CloseOp :=
  { purpose := p, requester := r, phase := .pulse, pulseLength := 160, confirmTime := 400, started := 0 }

/-- A request of a code in flight at the Station port. -/
def flying (code : Byte) (s : State) : State := s.setPort .station { s.port .station with slot := .inFlight code }

/-- F1 closed with a trip in its slot, asked for at the Station port. -/
def tripState : State := onBreaker (flying 0x06 closedState) (fun b => { b with slot := .trip tripOp })

/-- F1 open with a close in its slot. -/
def closeState (p : ClosePurpose) (r : Requester) : State :=
  onBreaker (flying 0x07 st) (fun b => { b with slot := .close (closeOp p r) })

def failedTrip : FailedTrip :=
  { purposes := tripOp.purposes, requesters := tripOp.requesters, cause := none, started := 0 }

def hold (o : Owner) (k : HoldKind) (tag : Nat) : Hold :=
  { owner := o, kind := k, tag := tag, reason := 0, expiry := none, stamp := stampZero }

/-- F1's hold list. -/
def holding (s : State) (l : List Hold) : State := s.setHoldTable .f1 { s.holdTable .f1 with list := l }

/-- A hunt on F1 in a state. -/
def hunting (s : State) (h : HuntState) : State :=
  s.setHunt { s.hunt with state := h, feeder := some .f1 }

def waitBlock : HuntBlock := { endBlock with action := .wait, window := 1 }

/-- A hunt on F1 whose current block is block 1, with a change of its engine. -/
def atBlock (s : State) (b : HuntBlock) (g : Hunt → Hunt) : State :=
  inSeq (s.setHunt (g { s.hunt with state := .running, feeder := some .f1, current := 1, memory := b :: s.hunt.memory.tail })) .hunt

/-- A WAIT of one sample whose test looks at TRIP. -/
def tripBlock : HuntBlock := { waitBlock with tests := { waitBlock.tests with trip := true } }

/-- Block 1 of the hunt memory is a WAIT. -/
def withWait (s : State) : State := s.setHunt { s.hunt with memory := waitBlock :: s.hunt.memory.tail }

def entry (src : EntrySource) (k : UnitCommandKind) (ph : EntryPhase) (attempts : Nat) : BusEntry :=
  { source := src, address := 1, kind := k, attempts := attempts, queuedAt := 0, clampWait := false, phase := ph }

/-- The line bus in a state with a queue. -/
def onBus (s : State) (b : BusState) (q : List BusEntry) : State :=
  s.setBus { s.bus with state := b, queue := q }

/-- A store write in hand. -/
def storing (s : State) (j : StoreJob) : State :=
  s.setStore { s.store with queue := [{ job := j, begun := true }] }

/-- A store in its fault state. -/
def faulted (s : State) : State := s.setStore { s.store with fault := some .write }

/-! ### Worked numbers of the manual -/

/-- R195: the CRC-16 over the nine characters. -/
theorem test_crc16_check_value :
    crc16 [0x31, 0x32, 0x33, 0x34, 0x35, 0x36, 0x37, 0x38, 0x39] = 0x29B1#16 := by decide +kernel

/-- R195: the CRC-8 over the nine characters. -/
theorem test_crc8_check_value :
    crc8 [0x31, 0x32, 0x33, 0x34, 0x35, 0x36, 0x37, 0x38, 0x39] = 0xB4#8 := by decide +kernel

/-- R178 to R180: a power-on of the reset state with the reset pins is the reset state. -/
theorem test_power_on_of_reset : exec (.powerOn Config.resetPins) st = .next st :=
  congrArg Host.Outcome.next (show st.powerOn Config.resetPins = st by decide +kernel)

/-- The table gives its rows no bits, so no word spells a command. -/
theorem test_no_word_spells_a_command : decodeTableWord 16 0x2D01 = none := by decide

/-! ### WellFormed refuses -/

theorem test_tag_zero_refused : Instr.wellFormed (.holdExpiry .f1 .station 0) = false := by decide
theorem test_short_reply_refused : Instr.wellFormed (.reply [0x10] false) = false := by decide
theorem test_long_reply_refused : Instr.wellFormed (.reply [1, 2, 3, 4, 5] false) = false := by decide
theorem test_short_report_refused : Instr.wellFormed (.report [1, 2, 3, 4] false) = false := by decide
theorem test_long_report_refused : Instr.wellFormed (.report (List.replicate 12 0) false) = false := by decide
theorem test_empty_transfer_refused : Instr.wellFormed (.measurementFrame []) = false := by decide
theorem test_empty_read_refused : Instr.wellFormed (.responseRead .station 0) = false := by decide
theorem test_empty_request_refused : Instr.wellFormed (.requestFrame .station []) = false := by decide
theorem test_catalogue_request_refused :
    Instr.wellFormed (.requestFrame .station [0x2D, 0, 0, 0, 0, 0]) = false := by decide
theorem test_record_beyond_store_refused : Instr.wellFormed (.storeWriteCompletion (some 286)) = false := by decide
theorem test_cut_beyond_store_refused : Instr.wellFormed (.powerLoss 287) = false := by decide

/-! ### Witnesses: the machine and its laws -/

/-- A queue with a command in front, and an empty one. -/
theorem witness_StepRunsFrontCommand :
    (st.withPending [.millisecondTick, .clampEnd]).pending = .millisecondTick :: [.clampEnd] ∧ st.pending = [] :=
  ⟨rfl, rfl⟩

theorem witness_UnpoweredPartStays :
    ({ st with powered := false } : State).powered = false ∧ ∀ pins, Instr.millisecondTick ≠ .powerOn pins :=
  ⟨rfl, by intro _ h; cases h⟩

/-- The state the laws' witnesses start from: a hold request waits in the queue. -/
def lawState : State := st.withPending [.placeHold .station (fr 0x09 [1, 3, 0, 7, 9, 0, 5])]

/-- A step from the laws' state that answers a next state. -/
theorem witness_next : ∃ t, step lawState = .next t := ⟨_, rfl⟩

theorem witness_StepKeepsLogLaw : lawState.LogLaw := by
  refine ⟨by decide, by decide, ?_, ?_⟩
  · exact (rfl : (0 : Word) + 1 = 1)
  · intro p; cases p <;> exact .inr ⟨_, List.mem_singleton.2 rfl, by decide⟩

theorem witness_StepKeepsHoldLaw : lawState.HoldLaw := by
  intro f; cases f <;> exact ⟨by decide +kernel, by decide +kernel, by intro h hm; cases hm⟩

theorem witness_StepKeepsHuntLaw : lawState.HoldLaw ∧ lawState.HuntLaw :=
  ⟨witness_StepKeepsHoldLaw, by intro f; cases f <;> decide +kernel⟩

theorem witness_StepKeepsLevelLaw : lawState.LevelLaw := by
  refine ⟨by decide +kernel, ?_⟩; intro f; cases f <;> decide +kernel

theorem witness_StepKeepsFireLaw : lawState.HoldLaw ∧ lawState.FireLaw :=
  ⟨witness_StepKeepsHoldLaw, by intro f; cases f <;> decide +kernel⟩

theorem witness_StepKeepsProtectionLaw : lawState.ProtectionLaw := by
  intro f; cases f <;> (unfold Protection.bounded; decide +kernel)

theorem witness_StepKeepsSettingsLaw : lawState.SettingsLaw := by
  refine ⟨by decide +kernel, by decide +kernel, by decide +kernel, ?_, by decide +kernel, by decide +kernel, ?_⟩
  · intro f l; cases f <;> cases l <;> decide +kernel
  · intro e he; cases he

theorem witness_StepKeepsQueueLaw : lawState.QueueLaw := by unfold State.QueueLaw; decide +kernel

theorem witness_StepKeepsTraceLaw : lawState.TraceLaw := by
  refine ⟨by decide +kernel, by decide +kernel, ?_⟩; intro _; decide +kernel

theorem witness_StepKeepsStoreLaw : lawState.StoreLaw ∧ lawState.ImageLaw :=
  ⟨trivial, by decide +kernel, by decide +kernel, by intro e he; cases he⟩

/-! ### Witnesses: resets and supply -/

/-- The four records of a class, damaged. -/
def damageAll {α : Type} (fmt : RecordFormat α) (x : PerFeeder (Stored α)) : PerFeeder (Stored α) :=
  { f1 := x.f1.damage fmt, f2 := x.f2.damage fmt, f3 := x.f3.damage fmt, f4 := x.f4.damage fmt }

/-- A part every record of whose store is damaged. -/
def spoiledState : State :=
  { st with
    image :=
      { groupsA := damageAll groupFormat st.image.groupsA
        groupsB := damageAll groupFormat st.image.groupsB
        curves := st.image.curves.map (Stored.damage curveFormat)
        table := st.image.table.damage tableFormat
        exposure := damageAll exposureFormat st.image.exposure
        corridor := damageAll corridorFormat st.image.corridor
        unitLists := damageAll listFormat st.image.unitLists
        isolation := st.image.isolation.damage isolationFormat
        hunt := st.image.hunt.map (Stored.damage huntFormat)
        holds := damageAll holdsFormat st.image.holds
        fireRequests := st.image.fireRequests.damage requestsFormat } }

/-- Curves 1 and 4, blocks 1 and 255 of the hunt memory. -/
theorem witness_DamagedRecordsAreReplaced :
    (∃ t, exec (.powerOn Config.resetPins) spoiledState = .next t) ∧
    st.image.curves[1 - 1]? = some (stored curveFormat 1 fallbackCurve) ∧
    st.image.curves[4 - 1]? = some (stored curveFormat 4 fallbackCurve) ∧
    st.image.hunt[1 - 1]? = some (stored huntFormat 1 endBlock) ∧
    st.image.hunt[255 - 1]? = some (stored huntFormat 255 endBlock) ∧
    spoiledState.image.curves[4 - 1]? = some ((stored curveFormat 4 fallbackCurve).damage curveFormat) ∧
    spoiledState.image.hunt[255 - 1]? = some ((stored huntFormat 255 endBlock).damage huntFormat) :=
  ⟨⟨_, rfl⟩, by decide +kernel⟩

/-- A load that replaces nothing, and one that replaces every record. -/
theorem witness_DamagedRecordsAreReplaced_list :
    (st.powerOn Config.resetPins).store.damaged = [] ∧ (spoiledState.powerOn Config.resetPins).store.damaged ≠ [] ∧
    recordId .group 1 ∈ allRecords ∧
    (∀ x, spoiledState.image.recordAt (recordId .group 1) = some x → x.passes 1 = false) := by
  refine ⟨by decide +kernel, by decide +kernel, by decide +kernel, ?_⟩
  rintro x ⟨⟩
  decide +kernel

/-- R177: a record of another class, index or length than its place's, or with another check code, does not pass. -/
theorem test_records_checked :
    (stored exposureFormat 2 Exposure.urban).matches exposureFormat 2 = true ∧
    (stored exposureFormat 2 Exposure.urban).matches exposureFormat 1 = false ∧
    (stored exposureFormat 2 Exposure.urban).matches { exposureFormat with cls := .corridor } 2 = false ∧
    ({ stored exposureFormat 2 Exposure.urban with length := 2 } : Stored Exposure).matches exposureFormat 2 = false ∧
    ({ stored exposureFormat 2 Exposure.urban with check := 0 } : Stored Exposure).matches exposureFormat 2 = false := by
  decide +kernel

theorem witness_RestartBeginsItsWaits :
    st.controlTaken .station 0x2D (fr 0x2D []) ∧ Port.station ≠ .panel ∧ (fr 0x2D []).payload = [] := by
  decide +kernel

/-- A RESTART whose waits have ended. -/
def restartState : State := { flying 0x2D st with restart := some { port := .station, fixed := some 0 } }

theorem witness_ReinitialisationAnswersPorts :
    restartState.powered = true ∧ restartState.restart = some { port := .station, fixed := some 0 } ∧
    (some 0 : Option Nat) = some 0 ∧ restartState.anyPulse = false ∧
    (restartState.port .station).slot = .inFlight 0x2D ∧
    (restartState.port .panel).slot.isInFlight = false ∧
    (restartState.reinitialise .station Config.resetPins).store.damaged = [] ∧
    (∀ f, decode (feederGet Config.resetPins.contacts f) ≠ .invalid) := by
  refine ⟨rfl, rfl, rfl, rfl, rfl, rfl, by decide +kernel, ?_⟩
  intro f; cases f <;> decide +kernel

/-- A RESTART that loads a damaged store. -/
theorem witness_ReinitialisationAnswersPorts_damaged :
    ({ restartState with image := spoiledState.image } : State).restart = some { port := .station, fixed := some 0 } ∧
    ({ restartState with image := spoiledState.image } : State).anyPulse = false ∧
    (({ restartState with image := spoiledState.image } : State).reinitialise .station Config.resetPins).store.damaged ≠
      [] := by decide +kernel

/-- The bus listens since a REPORT whose check passed at millisecond 0. -/
def acknowledging (n : Nat) : State :=
  let s := onBus (atMs st n) .listening []
  s.setBus { s.bus with ackTimer := some { start := 0, length := 2 } }

/-- The ticks from 0 to 1 and from 1 to 2 milliseconds after the check, and one without a REPORT. -/
theorem witness_InputsFollowTheirEvents :
    st.powered = true ∧ st.bus.state ≠ .listening ∧ (acknowledging 1).powered = true ∧
    (acknowledging 1).bus.state = .listening ∧
    timerDue ((acknowledging 0).ms + 1) (acknowledging 0).bus.ackTimer = false ∧
    timerDue ((acknowledging 1).ms + 1) (acknowledging 1).bus.ackTimer = true ∧
    (∀ f, (st.breaker f).huntAsk = false) ∧ ∀ f, ((acknowledging 1).breaker f).huntAsk = false := by
  refine ⟨by decide +kernel, by decide +kernel, by decide +kernel, by decide +kernel, by decide +kernel,
    by decide +kernel, fun f => ?_, fun f => ?_⟩ <;> cases f <;> rfl

/-- A curve write in hand. -/
def writingState : State := storing (flying 0x04 st) (.port .station (.curve 1 fallbackCurve))

theorem writingState_image : writingState.ImageLaw := by
  have queue : writingState.store.queue = [{ job := .port .station (.curve 1 fallbackCurve), begun := true }] := rfl
  unfold State.ImageLaw
  rw [queue]
  refine ⟨by decide +kernel, by decide +kernel, fun e he => ?_⟩
  rw [List.mem_singleton.1 he]
  exact ⟨by decide +kernel, fun _ _ job => StoreJob.noConfusion job⟩

/-- A write cut in its first record, one that had written it, and one that had not begun. -/
theorem witness_PowerLossCutsTheWrite_image :
    writingState.ImageLaw ∧ (StoreJob.port .station (.curve 1 fallbackCurve)).records.length ≤ 1 ∧
    ({ job := .port .station (.curve 1 fallbackCurve), begun := false } : StoreEntry).begun = false ∧
    (StoreJob.port .station .repair).records[285]? = some (recordId .isolation 1) :=
  ⟨writingState_image, by decide +kernel⟩

theorem witness_PowerLossCutsTheWrite :
    st.powered = true ∧ st.store.queue = [] ∧ writingState.powered = true ∧
    writingState.store.queue = { job := .port .station (.curve 1 fallbackCurve), begun := true } :: [] ∧
    (StoreJob.port .station (.curve 1 fallbackCurve)).records[0]? = some (recordId .curve 1) := by decide +kernel

/-! ### Witnesses: measurement frames and time -/

def frameBytes : List Byte := transfer [1, 1, 0, 100, 0, 200, 1, 44, 0, 5, 0]

def frameTaken : Measured :=
  { feeder := .f1, sequence := 1, sample := { ia := 100, ib := 200, ic := 300, i0 := 5 }, fault := false }

theorem witness_AcceptedFrameUpdatesReceiver :
    st.powered = true ∧ st.StoreLaw ∧ measuredOf frameBytes = some frameTaken ∧ frameTaken.fault = false ∧
    st.huntOn .f1 = false ∧
    ((st.setReceiver .f1 { receiverStart with state := .lost }).receiver .f1).state = .lost := by
  refine ⟨rfl, trivial, ?_⟩
  decide +kernel

def validReceiver (last : Byte) : Receiver :=
  { state := .valid, last := last, held := some frameTaken.sample, watchdog := none }

/-- A discontinuity and none; a sample that seeds beyond the limit, one that raises the alarm, one that trips, one that
changes nothing but the unit, and the three cases of the baseline's update. -/
theorem witness_AcceptedFrameUpdatesReceiver_samples :
    (((st.setReceiver .f1 { validReceiver 5 with held := none }).receiver .f1).samples frameTaken).1 = true ∧
    ((st.receiver .f1).samples frameTaken).1 = false ∧ (st.receiver .f1).state ≠ .lost ∧
    (st.unit .f1).base.seeded = false ∧ (st.unit .f1).base.high = false ∧
    (st.effective .f1).group.limit < ({ frameTaken.sample with i0 := 65535 } : Sample).i0 ∧
    (let u : Protection :=
       { st.unit .f1 with
         base := { acc := 0, seeded := true, high := false, frozen := false }
         sef := { sefStart with count := 2 * (st.effective .f1).sefDelay } }
     u.raisesAlarm { st.effective .f1 with sefTrip := false } { frameTaken.sample with i0 := 65535 } = true ∧
     u.causeOn { st.effective .f1 with sefTrip := true } fallbackCurve fallbackCurve
       { frameTaken.sample with i0 := 65535 } = some .sef ∧
     u.raisesAlarm (st.effective .f1) frameTaken.sample = false ∧ u.base.seeded = true ∧
     u.causeOn (st.effective .f1) fallbackCurve fallbackCurve frameTaken.sample = none ∧
     (u.base.update 65535 8 0).high = true ∧ (u.base.update 5 8 1000).high = false ∧
     (sefStart.pickup = false ∧ u.base.frozen = false)) := by decide +kernel

/-- A wrong length, a check code that does not match, the feeders 0 and 5, FRONTEND_FAULT; a frame with none of these. -/
theorem witness_DiscardedFrameHasNoEffect :
    (frameBytes.take 12).length ≠ 13 ∧
    crc16 ((frameBytes.set 11 0).take 11) ≠ BitVec.ofNat 16 (wordAt (frameBytes.set 11 0) 11) ∧
    byteAt (transfer [0, 1, 0, 0, 0, 0, 0, 0, 0, 0, 0]) 0 < 1 ∧
    4 < byteAt (transfer [5, 1, 0, 0, 0, 0, 0, 0, 0, 0, 0]) 0 ∧
    (byteAt (transfer [1, 1, 0, 0, 0, 0, 0, 0, 0, 0, 2]) 10).testBit 1 = true ∧ st.powered = true ∧
    frameBytes.length = 13 ∧ crc16 (frameBytes.take 11) = BitVec.ofNat 16 (wordAt frameBytes 11) ∧
    1 ≤ byteAt frameBytes 0 ∧ byteAt frameBytes 0 ≤ 4 ∧ (byteAt frameBytes 10).testBit 1 = false := by decide +kernel

theorem witness_ForwardDistanceDecidesSamples :
    (validReceiver 0).held = some frameTaken.sample ∧ (validReceiver 0).state = .valid ∧
    ({ validReceiver 0 with state := .lost } : Receiver).state ≠ .valid ∧
    frameTaken.sequence - (validReceiver 0).last = 1 ∧ frameTaken.sequence - (validReceiver 255).last = 2 ∧
    frameTaken.sequence - (validReceiver 254).last = 3 ∧ frameTaken.sequence = (validReceiver 1).last ∧
    4 ≤ (frameTaken.sequence - (validReceiver 253).last).toNat ∧
    4 ≤ (frameTaken.sequence - (validReceiver 2).last).toNat ∧ receiverStart.state ≠ .valid ∧
    receiverStart.held = none := by decide +kernel

/-- A receiver of F1 that is VALID with its watchdog started at 0, at a millisecond count. -/
def watched (n : Nat) : State :=
  atMs (st.setReceiver .f1 { validReceiver 0 with watchdog := some { start := 0, length := 50 } }) n

theorem witness_WatchdogExpiryLosesMeasurement :
    (watched 49).powered = true ∧ timerDue (watched 49).ms ((watched 49).receiver .f1).watchdog = false ∧
    timerDue (watched 50).ms ((watched 50).receiver .f1).watchdog = true ∧ (watched 50).huntOn .f1 = false ∧
    timerDue (hunting (watched 50) .running).ms ((hunting (watched 50) .running).receiver .f1).watchdog = true ∧
    (hunting (watched 50) .running).hunt.feeder = some .f1 ∧ (hunting (watched 50) .running).hunt.state = .running ∧
    (hunting (watched 50) .paused).hunt.state = .paused ∧
    (hunting (watched 50) .stopping).hunt.feeder = some .f1 ∧
    (hunting (watched 50) .stopping).hunt.state = .stopping := by decide +kernel

/-- The last millisecond of a day, and the first count beyond it. -/
theorem witness_SetTimeReplacesTimeOfDay :
    st.controlTaken .station 0x01 (fr 0x01 [0, 1, 5, 0x26, 0x5B, 0xFF]) ∧ Port.station ≠ .panel ∧
    longAt [0, 1, 5, 0x26, 0x5B, 0xFF] 2 = 86399999 ∧
    st.controlTaken .station 0x01 (fr 0x01 [0, 1, 5, 0x26, 0x5C, 0]) ∧
    86400000 ≤ longAt [0, 1, 5, 0x26, 0x5C, 0] 2 := by decide +kernel

/-! ### Witnesses: protection elements -/

def steepCurve : Curve := [{ ratio := 16, rate := 1 }, { ratio := 640, rate := 1048576 }]

theorem witness_RateInterpolatesCurve :
    curveValid steepCurve = true ∧ steepCurve.getLast? = some { ratio := 640, rate := 1048576 } ∧
    steepCurve[0]? = some { ratio := 16, rate := 1 } ∧ steepCurve[0 + 1]? = some { ratio := 640, rate := 1048576 } ∧
    { ratio := 16, rate := 1 } ∈ steepCurve ∧ 16 ≤ 639 ∧ 639 < 640 ∧ 15 < 16 := by decide +kernel

theorem witness_IncrementIsRateOverMultiplier :
    16 ≤ 16 ∧ 1048576 ≤ 1048576 ∧ 5 ≤ 5 ∧ 5 ≤ 150 ∧ 150 ≤ 150 := by decide

def element (acc : Nat) (operated : Bool) : Inverse :=
  { ratio := 0, pickup := false, acc := acc, operated := operated }

theorem witness_AccumulatorResetsByDecrement :
    15 < 16 ∧ 1 ≠ 0 ∧ 1 ≤ (element 1 false).acc ∧ (element 0 false).acc < 1 ∧ (element 1048576 true).acc ≤ 1048576 := by
  decide

theorem witness_InverseElementOperatesOnce :
    (∃ y op, (element 1048575 false).sample 16 fallbackCurve 100 0 = (y, op)) ∧
    (∃ y op, (element 1048575 false).sample 15 fallbackCurve 100 0 = (y, op)) ∧
    (∀ m ∈ [16, 640], 16 ≤ m) ∧ (∀ m ∈ [16, 640], 16 ≤ m ∧ m ≤ 640) ∧ (element 1048576 true).acc = 1048576 ∧
    (element 1048576 true).operated = true ∧ (element 0 false).acc = 0 ∧ (element 0 false).operated = false :=
  ⟨⟨_, _, rfl⟩, ⟨_, _, rfl⟩, by decide, by decide, rfl, rfl, rfl, rfl⟩

theorem witness_HighSetCountsFrames :
    (∃ y op, highSetStart.sample 127 128 1 = (y, op)) ∧ (∃ y op, highSetStart.sample 128 128 1 = (y, op)) ∧
    127 < 128 ∧ 128 ≤ 128 ∧ 1 ≤ 1 ∧ 1 ≤ 1638 ∧ 1638 ≤ 1638 :=
  ⟨⟨_, _, rfl⟩, ⟨_, _, rfl⟩, by decide⟩

theorem witness_SefLeakyCounter :
    (∃ y op, sefStart.sample 200 200 10 false = (y, op)) ∧ (∃ y op, sefStart.sample 199 200 10 false = (y, op)) ∧
    200 ≤ 200 ∧ 199 < 200 ∧ (∀ e ∈ List.replicate 12 200, 200 ≤ e) ∧ sefStart.count = 0 ∧
    sefStart.operated = false ∧ 10 ≤ 10 :=
  ⟨⟨_, _, rfl⟩, ⟨_, _, rfl⟩, by decide⟩

/-- A push at and below the count; an open window one sample before its last and at it, and none. -/
theorem witness_SefLeakyCounter_push :
    2 * 10 < ({ sefStart with count := 21 } : Sef).count ∧ ({ sefStart with count := 20 } : Sef).count ≤ 2 * 10 ∧
    (st.unit .f1).window = none ∧
    ((st.setUnit .f1 { st.unit .f1 with window := some (freshWindow 2) }).unit .f1).window = some (freshWindow 2) ∧
    0 + 1 < 2 ∧ 1 ≤ 0 + 1 := by decide +kernel

/-- A push to an unseeded baseline, and to a seeded one whose value lies above and at the new limit. -/
theorem witness_BaselineFollowsResidual_push :
    (let b : Baseline := { acc := 1000 * 1024 + 7, seeded := true, high := true, frozen := false }
     ({ b with seeded := false } : Baseline).seeded = false ∧ b.seeded = true ∧ 999 < b.value 10 ∧ b.value 10 ≤ 1000 ∧
     (10 : Nat) ≠ 11) := by decide

/-- A sum beyond the limit and one at it; a residual above, below and at the baseline. -/
theorem witness_BaselineFollowsResidual :
    (let b : Baseline := { acc := 1000 * 1024, seeded := true, high := false, frozen := false }
     1000 < (b.acc + 3000 - b.acc / 2 ^ 10) / 2 ^ 10 ∧ (b.acc + 1000 - b.acc / 2 ^ 10) / 2 ^ 10 ≤ 1000 ∧
     b.value 10 < 1001 ∧ 999 < b.value 10 ∧ b.value 10 = 1000) := by decide

theorem witness_ProtectionTripStartsPulse :
    (closedState.breaker .f1).slot = .empty ∧ (closedState.breaker .f1).stableClosed = true ∧
    (closedState.sequencer .f1).state = .inService ∧ closedState.huntOn .f1 = false := by decide +kernel

/-- The protection trip in RECLAIM, on the AUTO close of RECLOSING, and with the breaker open in the states of R70. -/
theorem witness_ProtectionTripStartsPulse_others :
    ((inSeq closedState .reclaim).breaker .f1).stableClosed = true ∧
    ((inSeq closedState .reclaim).sequencer .f1).state = .reclaim ∧ (inSeq closedState .reclaim).huntOn .f1 = false ∧
    (let s := onSequencer (closeState .auto .sequencer) (fun q => { q with state := .reclosing, phase := some .granted })
     s.huntOn .f1 = false ∧ (s.breaker .f1).slot = .close (closeOp .auto .sequencer) ∧
     (s.sequencer .f1).state = .reclosing ∧ (s.sequencer .f1).phase = some .granted) ∧
    (st.breaker .f1).slot = .empty ∧ (st.breaker .f1).stableClosed = false ∧
    ((inSeq st .inService).sequencer .f1).state = .inService ∧ ((inSeq st .tripping).sequencer .f1).state = .tripping ∧
    (let s := onSequencer st (fun q => { q with state := .reclosing, phase := some .asked })
     s.huntOn .f1 = false ∧ (s.sequencer .f1).state ≠ .tripping ∧ (s.sequencer .f1).phase ≠ some .granted) ∧
    (st.sequencer .f1).state = .open := by decide +kernel

/-- A trip of F1 in FAIL_PULSE while its sequencer is in service. -/
def serviceFailPulse : State :=
  inSeq (onBreaker tripState (fun b => { b with slot := .trip { tripOp with phase := .failPulse } })) .inService

/-- The protection trip that joins one in flight, and one in FAIL_PULSE. -/
theorem witness_ProtectionTripStartsPulse_joined :
    (inSeq tripState .reclaim).huntOn .f1 = false ∧ ((inSeq tripState .reclaim).breaker .f1).slot = .trip tripOp ∧
    tripOp.phase ≠ .failPulse ∧ ((inSeq tripState .reclaim).sequencer .f1).state = .reclaim ∧
    serviceFailPulse.huntOn .f1 = false ∧
    (serviceFailPulse.breaker .f1).slot = .trip { tripOp with phase := .failPulse } ∧
    (serviceFailPulse.sequencer .f1).state ≠ .hunt ∧ (serviceFailPulse.sequencer .f1).pendingOpen = [] := by
  decide +kernel

/-- A hunt that a trip finds observing, acting, securing, waiting for the report, PAUSED and STOPPING. -/
theorem witness_ProtectionTripStartsPulse_hunt :
    (let s := atBlock closedState waitBlock id
     s.hunt.feeder = some .f1 ∧ (s.sequencer .f1).state = .hunt ∧ (s.breaker .f1).slot = .empty ∧
     (s.breaker .f1).stableClosed = true ∧ s.hunt.state = .running ∧ s.hunt.phase = .acting ∧
     s.currentBlock.action ≠ .openBreaker ∧ s.hunt.awaiting ≠ .tripReport ∧ s.currentBlock.tests.trip = false) ∧
    (let s := atBlock closedState tripBlock (fun h => { h with awaiting := .tripReport })
     s.hunt.awaiting = .tripReport ∧ s.hunt.pendingDetour = false ∧ 1 ≤ s.currentBlock.window ∧
     s.currentBlock.tests.trip = true) ∧
    (let s := atBlock closedState waitBlock (fun h => { h with phase := .observing, detourFirst := 1, steps := 62 })
     s.hunt.phase = .observing ∧ s.currentBlock.tests.trip = false ∧ (∀ x, s.hunt.run.outcome ≠ .unitFail x) ∧
     s.hunt.detourFirst ≠ 0 ∧ s.hunt.returnSlot = none ∧ s.hunt.stepMode = false ∧
     (s.huntBlock s.hunt.detourFirst).action = .wait ∧ 1 ≤ (s.huntBlock s.hunt.detourFirst).window ∧
     s.hunt.steps < 63) ∧
    (let s := atBlock closedState waitBlock (fun h => { h with phase := .observing, detourFirst := 1, stepMode := true })
     s.hunt.stepMode = true ∧ (s.setHunt { s.hunt with detourFirst := 0 }).hunt.detourFirst = 0 ∧
     (s.setHunt { s.hunt with phase := .securing }).hunt.phase = .securing ∧
     (s.setHunt { s.hunt with state := .stopping }).hunt.state = .stopping) ∧
    (let s := atBlock closedState { waitBlock with action := .openBreaker } (fun h => { h with awaiting := .trip })
     s.currentBlock.action = .openBreaker ∧ s.hunt.awaiting = .trip ∧ s.hunt.phase = .acting) ∧
    (let s := atBlock closedState waitBlock (fun h => { h with state := .paused, detourFirst := 1, steps := 63 })
     s.hunt.state = .paused ∧ s.hunt.pauseReason = .step ∧ s.hunt.steps < 64 ∧
     (s.setHunt { s.hunt with pauseReason := .fire }).hunt.pauseReason ≠ .step ∧
     (s.huntBlock s.hunt.detourFirst).action = .wait) := by
  refine ⟨by decide +kernel, by decide +kernel, ?_, by decide +kernel, by decide +kernel, by decide +kernel⟩
  exact ⟨by decide +kernel, by decide +kernel, fun _ => nofun, by decide +kernel⟩

/-! ### Witnesses: breaker interface and sequencer -/

/-- F1 closed with its failed trip's pulse gone. -/
def failedState : State := inSeq (onBreaker closedState (fun b => { b with failed := some failedTrip })) .failed

theorem witness_RequestsToTheBreaker :
    (st.breaker .f1).slot = .empty ∧ (st.breaker .f1).stableClosed = false ∧
    (closedState.breaker .f1).slot = .empty ∧ (closedState.breaker .f1).stableClosed = true ∧
    ((closeState .auto .sequencer).breaker .f1).slot = .close (closeOp .auto .sequencer) ∧
    (tripState.breaker .f1).slot = .trip tripOp ∧ (tripState.breaker .f1).slot ≠ .empty ∧
    (∀ h ∈ (st.holdTable .f1).list, h.kind.severity < ClosePurpose.auto.ceiling) ∧
    (∃ h ∈ ((holding st [hold .patrol .all 0]).holdTable .f1).list, ClosePurpose.localClose.ceiling ≤ h.kind.severity) ∧
    ((holding st [hold .patrol .all 0]).breaker .f1).slot = .empty ∧
    ((holding st [hold .patrol .all 0]).breaker .f1).stableClosed = false ∧
    (tripState.breaker .f1).tripCoil = true := by decide +kernel

theorem witness_ContactsGivePosition :
    st.powered = true ∧ openContacts = (st.breaker .f1).contacts ∧ closedContacts ≠ (st.breaker .f1).contacts ∧
    decode closedContacts = .closed ∧ travelContacts ≠ (st.breaker .f1).contacts ∧ decode travelContacts = .travel ∧
    invalidContacts ≠ (st.breaker .f1).contacts ∧ decode invalidContacts = .invalid ∧
    openContacts ≠ (closedState.breaker .f1).contacts ∧ decode openContacts = .open := by decide +kernel

/-- An alarm stands at contacts both made: they go to OPEN, where the feeder is open, and to CLOSED, where it is closed. -/
def alarmed (closed : Bool) : State :=
  onBreaker (if closed then closedState else st) (fun b => { b with contacts := invalidContacts, alarm := true })

theorem witness_ContactsGivePosition_alarm :
    decode openContacts = (if false then .closed else .open) ∧ decode closedContacts = (if true then .closed else .open) ∧
    ∀ closed, ((alarmed closed).breaker .f1).alarm = true ∧ ((alarmed closed).breaker .f1).stableClosed = closed ∧
      ((alarmed closed).breaker .f1).slot = .empty ∧ ((alarmed closed).breaker .f1).failed = none ∧
      (alarmed closed).huntOn .f1 = false ∧ openContacts ≠ ((alarmed closed).breaker .f1).contacts ∧
      closedContacts ≠ ((alarmed closed).breaker .f1).contacts := by
  refine ⟨rfl, rfl, fun closed => ?_⟩
  cases closed <;> decide +kernel

theorem witness_ContactsConfirmOperations :
    tripState.powered = true ∧ openContacts ≠ (tripState.breaker .f1).contacts ∧ tripState.huntOn .f1 = false ∧
    (tripState.breaker .f1).slot = .trip tripOp ∧ tripOp.phase ≠ .failPulse ∧ decode openContacts = .open ∧
    .master .station ∈ tripOp.requesters ∧ (tripState.port .station).slot = .inFlight 0x06 ∧
    (tripState.port .station).orphan = false ∧
    closedContacts ≠ ((closeState .localClose (.master .station)).breaker .f1).contacts ∧
    (closeState .localClose (.master .station)).huntOn .f1 = false ∧ decode closedContacts = .closed ∧
    ((closeState .localClose (.master .station)).breaker .f1).slot = .close (closeOp .localClose (.master .station)) ∧
    ((closeState .localClose (.master .station)).sequencer .f1).state = .open ∧
    ((closeState .localClose (.master .station)).port .station).slot = .inFlight 0x07 ∧
    ((onSequencer (closeState .auto .sequencer) (fun q => { q with state := .reclosing, phase := some .granted })).sequencer
        .f1).state = .reclosing ∧
    ((onSequencer (closeState .auto .sequencer) (fun q => { q with state := .reclosing, phase := some .granted })).sequencer
        .f1).phase = some .granted ∧
    ((inSeq (closeState .remote (.master .remote)) .lockout).sequencer .f1).state = .lockout := by decide +kernel

/-- A trip of a TRIPPING sequencer confirms: with and without a manual open taken on. -/
theorem witness_ContactsConfirmOperations_tripping :
    (inSeq tripState .tripping).StoreLaw ∧ (openContacts ≠ ((inSeq tripState .tripping).breaker .f1).contacts ∧
    (inSeq tripState .tripping).huntOn .f1 = false ∧ ((inSeq tripState .tripping).breaker .f1).slot = .trip tripOp ∧
    ((inSeq tripState .tripping).sequencer .f1).state = .tripping ∧
    ((inSeq tripState .tripping).sequencer .f1).openTaken = false ∧
    ((onSequencer (inSeq tripState .tripping) (fun q => { q with openTaken := true })).sequencer .f1).openTaken =
      true) := ⟨trivial, by decide +kernel⟩

/-- A breaker operation of the hunt engine in F1's slot, awaited in the ACTING phase of a WAIT block, or in STOPPING. -/
def huntTrip (h : HuntState) (q : List Requester) : State :=
  let s := onBreaker (inSeq (hunting (withWait tripState) h) .hunt)
    (fun b => { b with slot := .trip { tripOp with requesters := q } })
  s.setHunt { s.hunt with phase := .acting, awaiting := .trip, current := 1 }

def huntClose (h : HuntState) : State :=
  let s := onBreaker (inSeq (hunting (withWait st) h) .hunt) (fun b => { b with slot := .close (closeOp .hunt .hunt) })
  s.setHunt { s.hunt with phase := .acting, awaiting := .close, current := 1 }

/-- A protection trip that confirms while a hunt runs; the engine's trip and close, RUNNING and STOPPING. -/
theorem witness_ContactsConfirmOperations_hunt :
    (huntTrip .running [.protection]).hunt.feeder = some .f1 ∧
    ((huntTrip .running [.protection]).sequencer .f1).state = .hunt ∧
    ((huntTrip .running [.protection]).breaker .f1).slot = .trip { tripOp with requesters := [.protection] } ∧
    openContacts ≠ ((huntTrip .running [.protection]).breaker .f1).contacts ∧
    (∀ h : HuntState, h = .running ∨ h = .stopping →
      (huntTrip h [.hunt]).hunt.feeder = some .f1 ∧ ((huntTrip h [.hunt]).sequencer .f1).state = .hunt ∧
      (huntTrip h [.hunt]).hunt.awaiting = .trip ∧ (huntTrip h [.hunt]).hunt.state = h ∧
      ((huntTrip h [.hunt]).breaker .f1).slot = .trip { tripOp with requesters := [.hunt] } ∧
      (huntTrip h [.hunt]).hunt.phase = .acting ∧ (huntTrip h [.hunt]).hunt.pendingDetour = false ∧
      1 ≤ (huntTrip h [.hunt]).currentBlock.window ∧
      (huntClose h).hunt.awaiting = .close ∧ ((huntClose h).breaker .f1).slot = .close (closeOp .hunt .hunt) ∧
      (huntClose h).hunt.feeder = some .f1 ∧ ((huntClose h).sequencer .f1).state = .hunt ∧
      closedContacts ≠ ((huntClose h).breaker .f1).contacts ∧ (huntClose h).hunt.state = h ∧
      (huntClose h).hunt.phase = .acting ∧ (huntClose h).hunt.pendingDetour = false ∧
      1 ≤ (huntClose h).currentBlock.window) ∧
    hasOwner ((holding (huntClose .stopping) [hold .hunt .reclose 0]).holdTable .f1).list .hunt = true := by
  refine ⟨rfl, rfl, rfl, by decide, fun h hh => ?_, by decide +kernel⟩
  rcases hh with rfl | rfl <;> decide +kernel

/-- The engine's trip of SECURING, before a next block and before none. -/
theorem witness_ContactsConfirmOperations_securing :
    (let s := huntTrip .running [.hunt]
     let u := s.setHunt { s.hunt with phase := .securing }
     u.hunt.state = .running ∧ u.hunt.phase = .securing ∧ u.hunt.awaiting = .trip ∧ u.currentBlock.next true = 0 ∧
     u.hunt.pendingDetour = false ∧ u.hunt.insertion = none ∧
     (u.setHunt { u.hunt with stepMode := true }).hunt.stepMode = true) := by decide +kernel

/-- F1 FAILED, with a new trip of the protection unit in its slot and the PATROL setting of its level on. -/
def failedTripState : State :=
  let s := inSeq (onBreaker tripState (fun b =>
    { b with slot := .trip { tripOp with purposes := { tripOp.purposes with protection := true } }
             failed := some failedTrip })) .failed
  s.setEffective .f1 { s.effective .f1 with patrol := true }

theorem witness_ContactsConfirmOperations_failed :
    failedTripState.huntOn .f1 = false ∧ (failedTripState.sequencer .f1).state = .failed ∧
    (failedTripState.breaker .f1).slot =
      .trip { tripOp with purposes := { tripOp.purposes with protection := true } } ∧
    openContacts ≠ (failedTripState.breaker .f1).contacts ∧ (failedTripState.effective .f1).patrol = true := by
  decide +kernel

theorem witness_MovementsWithoutOperation :
    closedState.powered = true ∧ openContacts ≠ (closedState.breaker .f1).contacts ∧ closedState.huntOn .f1 = false ∧
    (closedState.breaker .f1).slot = .empty ∧ decode openContacts = .open ∧
    (closedState.breaker .f1).stableClosed = true ∧ (closedState.breaker .f1).failed = none ∧
    closedContacts ≠ (st.breaker .f1).contacts ∧ st.huntOn .f1 = false ∧ (st.breaker .f1).slot = .empty ∧
    decode closedContacts = .closed ∧ (st.breaker .f1).stableClosed = false ∧
    openContacts ≠ (failedState.breaker .f1).contacts ∧ (failedState.breaker .f1).slot = .empty ∧
    failedState.huntOn .f1 = false ∧ (failedState.breaker .f1).failed = some failedTrip ∧
    (failedState.sequencer .f1).state = .failed := by decide +kernel

/-- F1 with its failed trip's pulse still running. -/
def failPulseState : State := onBreaker failedState (fun b => { b with slot := .trip { tripOp with phase := .failPulse } })

/-- A hunt on F1 in a state, the sequencer in HUNT, the breaker closed or open. -/
def huntedState (closed : Bool) (h : HuntState) : State :=
  inSeq (hunting (withWait (if closed then closedState else st)) h) .hunt

/-- The late open with FAIL_PULSE running, from FAILED and from DEAD; an unexpected movement under a hunt. -/
theorem witness_MovementsWithoutOperation_late :
    (failPulseState.breaker .f1).failed = some failedTrip ∧
    (∃ op : TripOp, (failPulseState.breaker .f1).slot = .trip op ∧ op.phase = .failPulse) ∧
    openContacts ≠ (failPulseState.breaker .f1).contacts ∧ (failPulseState.sequencer .f1).state = .failed ∧
    ((inSeq failPulseState .dead).breaker .f1).failed = some failedTrip ∧
    ((inSeq failPulseState .dead).sequencer .f1).state = .dead :=
  ⟨rfl, ⟨_, rfl, rfl⟩, by decide +kernel⟩

theorem witness_MovementsWithoutOperation_hunt :
    (∀ closed, ∀ h : HuntState, h = .running ∨ h = .paused ∨ h = .stopping →
      (huntedState closed h).hunt.feeder = some .f1 ∧ ((huntedState closed h).sequencer .f1).state = .hunt ∧
      ((huntedState closed h).breaker .f1).slot = .empty ∧ ((huntedState closed h).breaker .f1).failed = none ∧
      ((huntedState closed h).breaker .f1).stableClosed = closed ∧ (huntedState closed h).hunt.state = h ∧
      (if closed then openContacts else closedContacts) ≠ ((huntedState closed h).breaker .f1).contacts ∧
      decode (if closed then openContacts else closedContacts) = (if closed then .open else .closed)) ∧
    (let s := (huntedState true .running).setHunt
       { (huntedState true .running).hunt with phase := .observing, current := 1 }
     s.hunt.phase = .observing ∧ s.currentBlock.tests.trip = false ∧ s.hunt.detourFirst = 0 ∧
     (s.setHunt { s.hunt with memory := { waitBlock with tests := { waitBlock.tests with trip := true } } ::
        s.hunt.memory.tail }).currentBlock.tests.trip = true) ∧
    (let s := (huntedState true .paused).setHunt
       { (huntedState true .paused).hunt with pauseReason := .step, detourFirst := 2, returnSlot := none }
     s.hunt.state = .paused ∧ s.hunt.pauseReason = .step ∧ s.hunt.detourFirst ≠ 0 ∧ s.hunt.returnSlot = none) := by
  refine ⟨fun closed h hh => ?_, by decide +kernel⟩
  rcases hh with rfl | rfl | rfl <;> cases closed <;> decide +kernel

/-- F1's position-fault timer started at 0. -/
def faultTimed (n : Nat) : State :=
  atMs (onBreaker st (fun b => { b with faultTimer := some { start := 0, length := 20 } })) n

/-- A trip of a phase in F1's slot, at a millisecond count. -/
def tripAt (ph : TripPhase) (n : Nat) : State :=
  atMs (onBreaker tripState (fun b => { b with slot := .trip { tripOp with phase := ph } })) n

theorem witness_BreakerTimersExpire :
    (faultTimed 19).powered = true ∧ timerDue (faultTimed 19).ms ((faultTimed 19).breaker .f1).faultTimer = false ∧
    timerDue (faultTimed 20).ms ((faultTimed 20).breaker .f1).faultTimer = true ∧
    timerDue (tripAt .pulse 159).ms ((tripAt .pulse 159).breaker .f1).slot.pulseTimer = false ∧
    (tripAt .pulse 160).restart = none ∧ ((tripAt .pulse 160).breaker .f1).slot = .trip tripOp ∧
    tripOp.phase = .pulse ∧ tripOp.pulseLength ≤ ((tripAt .pulse 160).ms - tripOp.started).toNat ∧ tripOp.cut = none ∧
    ((tripAt .failPulse 160).breaker .f1).slot = .trip { tripOp with phase := .failPulse } ∧
    ((atMs (closeState .auto .sequencer) 160).breaker .f1).slot = .close (closeOp .auto .sequencer) ∧
    (closeOp .auto .sequencer).phase = .pulse ∧
    (closeOp .auto .sequencer).pulseLength ≤
      ((atMs (closeState .auto .sequencer) 160).ms - (closeOp .auto .sequencer).started).toNat := by decide +kernel

/-- A trip that cut a close, at F1 with its contacts OPEN. -/
def cutTripState (n : Nat) : State :=
  atMs (onBreaker tripState (fun b =>
    { b with contacts := openContacts
             slot := .trip { tripOp with cut := some { purpose := .remote, requester := .master .remote } } })) n

/-- A trip that cut a close confirms at the end of its pulse and at its confirm time. -/
theorem witness_BreakerTimersExpire_cut :
    (cutTripState 160).powered = true ∧ (cutTripState 160).huntOn .f1 = false ∧
    (cutTripState 160).StoreLaw ∧ (∃ op : TripOp, ((cutTripState 160).breaker .f1).slot = .trip op ∧ op.phase = .pulse ∧
      op.pulseLength ≤ ((cutTripState 160).ms - op.started).toNat ∧ op.cut ≠ none ∧ Requester.hunt ∉ op.requesters) ∧
    ((cutTripState 160).breaker .f1).decoded = .open ∧
    ((inSeq (cutTripState 160) .tripping).sequencer .f1).state = .tripping ∧
    ((inSeq (cutTripState 160) .failed).sequencer .f1).state = .failed :=
  ⟨by decide +kernel, by decide +kernel, trivial, ⟨_, rfl, by decide +kernel⟩, by decide +kernel⟩

theorem witness_ConfirmTimesExpire_cut :
    (cutTripState 200).powered = true ∧ (cutTripState 200).huntOn .f1 = false ∧
    (∃ op : TripOp, ((cutTripState 200).breaker .f1).slot = .trip op ∧ op.phase ≠ .failPulse ∧
      op.confirmTime ≤ ((cutTripState 200).ms - op.started).toNat ∧ op.cut ≠ none) ∧
    ((cutTripState 200).breaker .f1).decoded = .open :=
  ⟨by decide +kernel, by decide +kernel, ⟨_, rfl, by decide +kernel⟩, by decide +kernel⟩

/-- The pulse of F1 ends with a RESTART waiting: it was the last, another runs at F2, or the wait has ended already. -/
theorem witness_BreakerTimersExpire_restart :
    (let s : State := { tripAt .pulse 160 with restart := some { port := .remote, fixed := none } }
     let x : Slot := .trip { tripOp with phase := .confirmWait }
     (s.breaker .f1).slot = .trip tripOp ∧ s.restart = some { port := .remote, fixed := none } ∧
     (s.setBreaker .f1 { s.breaker .f1 with slot := x }).anyPulse = false ∧
     ((s.setBreaker .f2 { s.breaker .f2 with slot := .trip tripOp }).setBreaker .f1
       { s.breaker .f1 with slot := x }).anyPulse = true ∧
     ({ port := .remote, fixed := some 2 } : RestartWait).fixed ≠ none) := by decide +kernel

theorem witness_ConfirmTimesExpire :
    (tripAt .pulse 199).powered = true ∧
    timerDue (tripAt .pulse 199).ms ((tripAt .pulse 199).breaker .f1).slot.tripConfirmTimer = false ∧
    timerDue (atMs (closeState .auto .sequencer) 399).ms
      ((atMs (closeState .auto .sequencer) 399).breaker .f1).slot.closeConfirmTimer = false ∧
    (tripAt .pulse 200).huntOn .f1 = false ∧ ((tripAt .pulse 200).breaker .f1).slot = .trip tripOp ∧
    tripOp.phase ≠ .failPulse ∧ tripOp.confirmTime ≤ ((tripAt .pulse 200).ms - tripOp.started).toNat ∧
    tripOp.cut = none ∧ ((tripAt .pulse 200).sequencer .f1).state ≠ .hunt ∧ .master .station ∈ tripOp.requesters ∧
    ((tripAt .pulse 200).port .station).slot = .inFlight 0x06 ∧ ((tripAt .pulse 200).port .station).orphan = false ∧
    (atMs (closeState .localClose (.master .station)) 400).huntOn .f1 = false ∧
    ((atMs (closeState .localClose (.master .station)) 400).breaker .f1).slot =
      .close (closeOp .localClose (.master .station)) ∧
    (closeOp .localClose (.master .station)).confirmTime ≤
      ((atMs (closeState .localClose (.master .station)) 400).ms - 0).toNat ∧
    ((atMs (closeState .localClose (.master .station)) 400).port .station).slot = .inFlight 0x07 := by decide +kernel

/-- A granted AUTO close, and a HUNT close the engine no longer awaits. -/
def grantedState : State :=
  onSequencer (closeState .auto .sequencer) (fun q => { q with state := .reclosing, phase := some .granted })

/-- A close that fails: the AUTO close of RECLOSING, a manual one of LOCKOUT, and one that the sequencer no longer has. -/
theorem witness_ConfirmTimesExpire_close :
    (let s := atMs grantedState 400
     s.huntOn .f1 = false ∧ (s.breaker .f1).slot = .close (closeOp .auto .sequencer) ∧
     (closeOp .auto .sequencer).confirmTime ≤ (s.ms - 0).toNat ∧ (s.sequencer .f1).state = .reclosing ∧
     (s.sequencer .f1).phase = some .granted) ∧
    (let s := atMs (inSeq (closeState .remote (.master .station)) .lockout) 400
     s.huntOn .f1 = false ∧ (s.breaker .f1).slot = .close (closeOp .remote (.master .station)) ∧
     (s.sequencer .f1).state = .lockout) ∧
    ((inSeq (closeState .auto .sequencer) .dead).sequencer .f1).state ≠ .reclosing := by decide +kernel

/-- A failure under a hunt: of a trip the engine waits for or did not ask for, and of its close. -/
theorem witness_ConfirmTimesExpire_hunt :
    (∀ h : HuntState, h = .running ∨ h = .paused ∨ h = .stopping →
      let s := atMs (holding (huntTrip h [.hunt]) [hold .hunt .reclose 0]) 200
      s.hunt.feeder = some .f1 ∧ s.hunt.state = h ∧ s.hunt.awaiting = .trip ∧
      (s.breaker .f1).slot = .trip { tripOp with requesters := [.hunt] } ∧
      tripOp.confirmTime ≤ (s.ms - tripOp.started).toNat ∧ hasOwner (s.holdTable .f1).list .hunt = true ∧
      Requester.hunt ∉ tripOp.requesters ∧
      (let u := atMs (holding (huntClose h) [hold .hunt .reclose 0]) 400
       u.hunt.feeder = some .f1 ∧ u.hunt.state = h ∧ u.hunt.awaiting = .close ∧
       (u.breaker .f1).slot = .close (closeOp .hunt .hunt) ∧
       (closeOp .hunt .hunt).confirmTime ≤ (u.ms - 0).toNat ∧ hasOwner (u.holdTable .f1).list .hunt = true)) := by
  intro h hh
  rcases hh with rfl | rfl | rfl <;> decide +kernel

/-- A trip in CONFIRM_WAIT at F1, closed, whose sequencer holds a MANUAL-OPEN in RECLOSING phase ASKED. -/
def heldOpenState : State :=
  onSequencer (tripAt .confirmWait 200)
    (fun q => { q with state := .reclosing, phase := some .asked, pendingOpen := [.panel] })

theorem witness_ConfirmTimesExpire_held :
    heldOpenState.powered = true ∧ ((tripAt .pulse 200).sequencer .f1).pendingOpen = [] ∧
    (heldOpenState.breaker .f1).slot = .trip { tripOp with phase := .confirmWait } ∧
    tripOp.confirmTime ≤ (heldOpenState.ms - tripOp.started).toNat ∧ heldOpenState.huntOn .f1 = false ∧
    (heldOpenState.sequencer .f1).state = .reclosing ∧ (heldOpenState.sequencer .f1).phase = some .asked ∧
    (heldOpenState.sequencer .f1).pendingOpen = [.panel] ∧ (heldOpenState.breaker .f1).stableClosed = true := by
  decide +kernel

/-- F1 in TRIPPING with settings that allow a shot, and a change of its sequencer. -/
def trippingState (g : Effective → Effective) (h : Sequencer → Sequencer) : State :=
  onSequencer ((st.setEffective .f1 (g { st.effective .f1 with shotLimit := 1 })))
    (fun q => h { q with state := .tripping, cause := some .oc })

/-- The taken open, DEAD, and each test of R71 failing first. -/
theorem witness_ConfirmedTripDecides :
    ((trippingState id id).sequencer .f1).state = .tripping ∧
    ((trippingState (fun e => { e with patrol := true }) id).effective .f1).patrol = true ∧
    ((trippingState id (fun q => { q with openTaken := true })).sequencer .f1).openTaken = true ∧
    ((trippingState id id).sequencer .f1).openTaken = false ∧
    (((trippingState id id).sequencer .f1).mark = false ∧ ((trippingState id id).effective .f1).patrol = false ∧
      ((trippingState id id).holdTable .f1).list = [] ∧
      ((trippingState id id).sequencer .f1).shots < ((trippingState id id).effective .f1).shotLimit ∧
      ((trippingState id id).effective .f1).mayReclose ((trippingState id id).sequencer .f1).cause = true) ∧
    ((trippingState id (fun q => { q with mark := true })).sequencer .f1).mark = true ∧
    ((holding (trippingState id id) [hold .patrol .all 0]).holdTable .f1).list ≠ [] ∧
    ((trippingState id (fun q => { q with shots := 1 })).effective .f1).shotLimit ≤
      ((trippingState id (fun q => { q with shots := 1 })).sequencer .f1).shots ∧
    ((trippingState id (fun q => { q with cause := none })).effective .f1).mayReclose
      ((trippingState id (fun q => { q with cause := none })).sequencer .f1).cause = false := by decide +kernel

/-- F1's corridor is F2, which is in DEAD. -/
def corridorState : State :=
  let s := trippingState (fun e => { e with patrol := true }) id
  (s.setHoldTable .f1 { s.holdTable .f1 with corridor := { forFeeders false with f2 := true } }).setSequencer .f2
    { s.sequencer .f2 with state := .dead }

/-- F2 in DEAD in the corridor, F3 outside it. -/
theorem witness_ConfirmedTripDecides_corridor :
    corridorState.StoreLaw ∧ (corridorState.sequencer .f1).state = .tripping ∧
    (corridorState.effective .f1).patrol = true ∧ feederGet (corridorState.holdTable .f1).corridor .f2 = true ∧
    hasOwner (corridorState.holdTable .f2).list .patrol = false ∧ (corridorState.sequencer .f2).state = .dead ∧
    feederGet (corridorState.holdTable .f1).corridor .f3 = false := ⟨trivial, by decide +kernel⟩

/-- F1 in DEAD with a dead time of 100 ms from 0, a shot limit and a cause, at a millisecond count. -/
def deadState (limit : Nat) (cause : Option Cause) (n : Nat) : State :=
  atMs (onSequencer (st.setEffective .f1 { st.effective .f1 with shotLimit := limit })
    (fun q => { q with state := .dead, cause := cause, timer := some { start := 0, length := 100 } })) n

/-- F1 in RECLOSING with its close asked for. -/
def askedState (l : List Hold) : State :=
  holding (onBreaker (onSequencer st (fun q => { q with state := .reclosing, phase := some .asked }))
    (fun b => { b with askPending := true })) l

/-- F1 in RECLAIM, at a millisecond count. -/
def reclaimState (n : Nat) : State :=
  atMs (onSequencer closedState (fun q => { q with state := .reclaim, timer := some { start := 0, length := 1000 } })) n

theorem witness_SequencerTimersExpire :
    (deadState 1 (some .oc) 99).powered = true ∧ ((deadState 1 (some .oc) 99).breaker .f1).askPending = false ∧
    (deadState 1 (some .oc) 99).deadDue .f1 = false ∧ (deadState 1 (some .oc) 100).deadDue .f1 = true ∧
    ((deadState 1 (some .oc) 100).sequencer .f1).shots < ((deadState 1 (some .oc) 100).effective .f1).shotLimit ∧
    ((deadState 1 (some .oc) 100).effective .f1).mayReclose ((deadState 1 (some .oc) 100).sequencer .f1).cause = true ∧
    (deadState 0 (some .oc) 100).deadDue .f1 = true ∧
    ((deadState 0 (some .oc) 100).effective .f1).shotLimit ≤ ((deadState 0 (some .oc) 100).sequencer .f1).shots ∧
    ((deadState 1 none 100).effective .f1).mayReclose ((deadState 1 none 100).sequencer .f1).cause = false ∧
    ((askedState []).breaker .f1).askPending = true ∧ ((askedState []).sequencer .f1).state = .reclosing ∧
    ((askedState []).sequencer .f1).phase = some .asked ∧ ((askedState []).sequencer .f1).pendingOpen = [] ∧
    ((askedState []).breaker .f1).slot = .empty ∧ ((askedState []).breaker .f1).stableClosed = false ∧
    ((askedState []).holdTable .f1).list = [] ∧ ((askedState [hold .patrol .all 0]).holdTable .f1).list ≠ [] ∧
    ((reclaimState 999).sequencer .f1).state = .reclaim ∧ (closedState.sequencer .f1).state ≠ .reclaim ∧
    timerDue (reclaimState 999).ms ((reclaimState 999).sequencer .f1).timer = false ∧
    timerDue (reclaimState 1000).ms ((reclaimState 1000).sequencer .f1).timer = true := by decide +kernel

/-- The refusals of the AUTO close, and a MANUAL-OPEN of the Panel port held at the grant and at each refusal. -/
theorem witness_SequencerTimersExpire_held :
    (∀ l,
      let s := onSequencer (flying 0x06 (askedState l)) (fun q => { q with pendingOpen := [.station] })
      (s.breaker .f1).askPending = true ∧ (s.sequencer .f1).state = .reclosing ∧ (s.sequencer .f1).phase = some .asked ∧
      (s.sequencer .f1).pendingOpen = [.station] ∧ (s.breaker .f1).slot = .empty ∧
      (s.breaker .f1).stableClosed = false ∧ (s.holdTable .f1).list = l ∧ (s.port .station).slot = .inFlight 0x06 ∧
      (s.port .station).orphan = false ∧
      ((onBreaker s (fun b => { b with slot := .trip tripOp })).breaker .f1).slot = .trip tripOp ∧
      ((onBreaker s (fun b => { b with stableClosed := true })).breaker .f1).stableClosed = true) ∧
    ((onBreaker (askedState []) (fun b => { b with slot := .trip tripOp })).breaker .f1).slot ≠ .empty ∧
    ((onBreaker (askedState []) (fun b => { b with stableClosed := true })).breaker .f1).stableClosed = true :=
  ⟨fun _ => ⟨rfl, rfl, rfl, rfl, rfl, rfl, rfl, rfl, rfl, rfl, rfl⟩, by decide +kernel⟩

/-- F1 open with a manual close of the Station port in its slot. -/
def manualCloseState : State :=
  onSequencer (closeState .localClose (.master .station)) (fun q => { q with manualClose := some .station })

theorem witness_ManualOpenByState :
    closedState.controlTaken .panel 0x06 (fr 0x06 [1]) ∧ (Port.panel = .remote → closedState.key = .remotePos) ∧
    (fr 0x06 [1]).payload.length = 1 ∧ feederOf (byteAt (fr 0x06 [1]).payload 0) = some .f1 ∧
    (closedState.sequencer .f1).state = .inService ∧ (closedState.breaker .f1).slot = .empty ∧
    (closedState.breaker .f1).stableClosed = true ∧ (inSeq st .dead).controlTaken .panel 0x06 (fr 0x06 [1]) ∧
    ((inSeq st .dead).sequencer .f1).state = .dead ∧ ((inSeq st .dead).breaker .f1).slot = .empty ∧
    ((inSeq st .dead).breaker .f1).stableClosed = false ∧ (askedState []).controlTaken .panel 0x06 (fr 0x06 [1]) ∧
    ((askedState []).sequencer .f1).state = .reclosing ∧ ((askedState []).sequencer .f1).phase = some .asked ∧
    (inSeq tripState .tripping).controlTaken .panel 0x06 (fr 0x06 [1]) ∧
    ((inSeq tripState .tripping).sequencer .f1).state = .tripping ∧
    ((inSeq tripState .tripping).breaker .f1).slot = .trip tripOp ∧ tripOp.phase ≠ .failPulse := by decide +kernel

theorem witness_ManualOpenByState_open_breaker :
    failedState.controlTaken .panel 0x06 (fr 0x06 [1]) ∧ (failedState.sequencer .f1).state = .failed ∧
    (failedState.breaker .f1).slot = .empty ∧ (failedState.breaker .f1).stableClosed = true ∧
    st.controlTaken .panel 0x06 (fr 0x06 [1]) ∧ (st.sequencer .f1).state = .open ∧
    (st.sequencer .f1).manualClose = none ∧ (st.breaker .f1).stableClosed = false ∧
    manualCloseState.controlTaken .panel 0x06 (fr 0x06 [1]) ∧ (manualCloseState.sequencer .f1).state = .open ∧
    (manualCloseState.sequencer .f1).manualClose = some .station ∧
    (manualCloseState.breaker .f1).slot = .close (closeOp .localClose (.master .station)) ∧
    (closeOp .localClose (.master .station)).requester = .master .station ∧
    (closeOp .localClose (.master .station)).purpose = .localClose ∧ Port.station ≠ .panel ∧
    (manualCloseState.port .station).slot = .inFlight 0x07 ∧ (manualCloseState.port .station).orphan = false := by
  decide +kernel

theorem witness_ManualOpenByState_slot :
    (inSeq tripState .inService).controlTaken .panel 0x06 (fr 0x06 [1]) ∧
    ((inSeq tripState .inService).sequencer .f1).state = .inService ∧
    ((inSeq tripState .inService).breaker .f1).slot = .trip tripOp ∧
    serviceFailPulse.controlTaken .panel 0x06 (fr 0x06 [1]) ∧ (serviceFailPulse.sequencer .f1).state = .inService ∧
    (serviceFailPulse.breaker .f1).slot = .trip { tripOp with phase := .failPulse } ∧
    serviceFailPulse.huntOn .f1 = false ∧ ((inSeq serviceFailPulse .failed).sequencer .f1).state = .failed ∧
    (inSeq serviceFailPulse .failed).controlTaken .panel 0x06 (fr 0x06 [1]) ∧
    ((inSeq serviceFailPulse .open).sequencer .f1).state = .open ∧
    ((inSeq serviceFailPulse .open).breaker .f1).stableClosed = true ∧
    grantedState.controlTaken .panel 0x06 (fr 0x06 [1]) ∧ (grantedState.sequencer .f1).state = .reclosing ∧
    (grantedState.sequencer .f1).phase = some .granted ∧
    (grantedState.breaker .f1).slot = .close (closeOp .auto .sequencer) ∧
    ((inSeq (closeState .hunt .hunt) .reclaim).sequencer .f1).state = .reclaim ∧
    ((inSeq (closeState .hunt .hunt) .reclaim).breaker .f1).slot = .close (closeOp .hunt .hunt) ∧
    (inSeq (closeState .hunt .hunt) .reclaim).hunt.awaiting ≠ .close ∧
    (inSeq closedState .lockout).controlTaken .panel 0x06 (fr 0x06 [1]) ∧
    ((inSeq closedState .lockout).sequencer .f1).state = .lockout ∧
    ((inSeq closedState .lockout).sequencer .f1).manualClose = none ∧
    ((inSeq closedState .lockout).breaker .f1).slot = .empty ∧
    ((inSeq closedState .lockout).breaker .f1).stableClosed = true := by decide +kernel

/-- A hunt on F1 observing, its breaker closed or open; and one whose engine awaits a trip. -/
theorem witness_ManualOpenByState_hunt :
    (∀ closed,
      let s := holding ((huntedState closed .running).setHunt
        { (huntedState closed .running).hunt with phase := .observing }) [hold .hunt .reclose 0]
      s.controlTaken .panel 0x06 (fr 0x06 [1]) ∧ (s.sequencer .f1).state = .hunt ∧ s.hunt.feeder = some .f1 ∧
      s.hunt.state = .running ∧ s.hunt.phase = .observing ∧ s.hunt.awaiting = .nothing ∧
      (s.breaker .f1).slot = .empty ∧ hasOwner (s.holdTable .f1).list .hunt = true ∧
      (s.breaker .f1).stableClosed = closed) ∧
    (huntTrip .running [.hunt]).controlTaken .panel 0x06 (fr 0x06 [1]) ∧
    (huntTrip .running [.hunt]).hunt.state = .running := by
  refine ⟨fun closed => ?_, by decide +kernel⟩
  cases closed <;> decide +kernel

/-- The key switch at LOCAL. -/
def atPanel (s : State) : State := { s with key := .localPos }

theorem witness_ManualCloseIsTested :
    closedState.controlTaken .station 0x07 (fr 0x07 [1]) ∧ (Port.station = .remote → closedState.key = .remotePos) ∧
    (Port.station = .panel → closedState.key = .localPos) ∧ (fr 0x07 [1]).payload.length = 1 ∧
    feederOf (byteAt (fr 0x07 [1]).payload 0) = some .f1 ∧ (closedState.sequencer .f1).state ≠ .open ∧
    (closedState.sequencer .f1).state ≠ .lockout ∧
    (atPanel (inSeq tripState .open)).controlTaken .panel 0x07 (fr 0x07 [1]) ∧
    (Port.panel = .panel → (atPanel (inSeq tripState .open)).key = .localPos) ∧
    ((atPanel (inSeq tripState .open)).sequencer .f1).state = .open ∧
    ((atPanel (inSeq tripState .open)).breaker .f1).slot ≠ .empty ∧
    (inSeq closedState .lockout).controlTaken .station 0x07 (fr 0x07 [1]) ∧
    ((inSeq closedState .lockout).sequencer .f1).state = .lockout ∧
    ((inSeq closedState .lockout).breaker .f1).slot = .empty ∧
    ((inSeq closedState .lockout).breaker .f1).stableClosed = true ∧
    st.controlTaken .station 0x07 (fr 0x07 [1]) ∧ (st.sequencer .f1).state = .open ∧ (st.breaker .f1).slot = .empty ∧
    (st.breaker .f1).stableClosed = false ∧
    barring ((holding st [hold .patrol .all 0]).holdTable .f1).list .localClose = some (hold .patrol .all 0) ∧
    barring (st.holdTable .f1).list .localClose = none := by decide +kernel

/-! ### Witnesses: holds and fire levels -/

/-- PLACE-HOLD on F1: kind ALL, tag 7, reason 9, an expiry in minutes. -/
def placeFrame (minutes : Nat) : Frame := fr 0x09 ([1, 3, 0, 7, 9] ++ u16 minutes)

def nineHolds : List Hold := (indicesFrom 11 9).map (hold (.master .remote) .all)

/-- 1440 and 1441 minutes; a free list, nine master entries, a standing owner and tag. -/
theorem witness_PlaceHoldChangesTheList :
    st.StoreLaw ∧ (st.controlTaken .station 0x09 (placeFrame 1441) ∧ 1440 < wordAt (placeFrame 1441).payload 5 ∧
    st.controlTaken .station 0x09 (placeFrame 1440) ∧ (placeFrame 1440).payload.length = 7 ∧
    feederOf (byteAt (placeFrame 1440).payload 0) = some .f1 ∧
    holdKindOf (byteAt (placeFrame 1440).payload 1) = some .all ∧ wordAt (placeFrame 1440).payload 2 ≠ 0 ∧
    wordAt (placeFrame 1440).payload 5 ≤ 1440 ∧
    (st.holdTable .f1).list.find? (Hold.isOf (.master .station) (wordAt (placeFrame 1440).payload 2)) = none ∧
    masterCount (st.holdTable .f1).list < 9 ∧ (st.sequencer .f1).state ≠ .dead ∧
    ((inSeq st .dead).sequencer .f1).state = .dead ∧ st.store.fault = none ∧ (st.holdTable .f1).pendingMark = false ∧
    9 ≤ masterCount ((holding st nineHolds).holdTable .f1).list ∧
    ((holding st nineHolds).holdTable .f1).list.find?
      (Hold.isOf (.master .station) (wordAt (placeFrame 1440).payload 2)) = none ∧
    ((holding st [hold (.master .station) .reclose 7]).holdTable .f1).list.find?
      (Hold.isOf (.master .station) (wordAt (placeFrame 1440).payload 2)) =
        some (hold (.master .station) .reclose 7) ∧
    ((holding (inSeq st .dead) [hold (.master .station) .reclose 7]).sequencer .f1).state = .dead ∧
    ((holding (inSeq st .dead) [hold (.master .station) .reclose 7]).holdTable .f1).list.find?
      (Hold.isOf (.master .station) (wordAt (placeFrame 1440).payload 2)) =
        some (hold (.master .station) .reclose 7) ∧
    (holding st [hold (.master .station) .reclose 7]).store.fault = none ∧
    ((holding st [hold (.master .station) .reclose 7]).holdTable .f1).pendingMark = false) :=
  ⟨trivial, by decide +kernel⟩

/-- F1 holds an entry of the Station port with an expiry of one minute, a Remote entry and a PATROL entry. -/
def heldState (n : Nat) : State :=
  atMs (holding st
    [{ hold (.master .station) .all 7 with expiry := some { minutes := 1, start := 0 } }, hold (.master .remote) .all 8,
      hold .patrol .all 0]) n

def expiring : Hold := { hold (.master .station) .all 7 with expiry := some { minutes := 1, start := 0 } }

theorem witness_RemovalsChangeTheList :
    (heldState 0).StoreLaw ∧ ((heldState 0).powered = true ∧ (heldState 0).huntIs .f1 .paused = false ∧
    (heldState 0).controlTaken .station 0x0A (fr 0x0A [1, 0, 7, 0, 0]) ∧
    grantRemoveHold (heldState 0).key (fr 0x0A [1, 0, 7, 0, 0]).payload .station = true ∧
    ownerOf .station (byteAt (fr 0x0A [1, 0, 7, 0, 0]).payload 3) = some (.master .station) ∧
    wordAt (fr 0x0A [1, 0, 7, 0, 0]).payload 1 ≠ 0 ∧
    ((heldState 0).holdTable .f1).list.find? (Hold.isOf (.master .station) 7) = some expiring ∧
    grantRemoveHold .localPos (fr 0x0A [1, 0, 8, 2, 1]).payload .panel = true ∧
    ((heldState 0).holdTable .f1).list.find? (Hold.isOf (.master .remote) 8) = some (hold (.master .remote) .all 8) ∧
    ownerOf .station (byteAt (fr 0x0A [1, 0, 7, 5, 0]).payload 3) = some .patrol ∧ Owner.patrol.isMaster = false ∧
    (∀ h ∈ ((heldState 0).holdTable .f1).list, h.owner = .master .station → h.tag ≠ 9) ∧
    expiring.expired (heldState 59999).ms = false ∧ expiring.expired (heldState 60000).ms = true ∧
    (heldState 0).controlTaken .panel 0x0B (fr 0x0B [1]) ∧ Port.panel ≠ .station ∧
    ((heldState 0).holdTable .f1).list.find? (fun h => h.owner == .patrol) = some (hold .patrol .all 0) ∧
    (st.holdTable .f1).list.find? (fun h => h.owner == .patrol) = none) := ⟨trivial, by decide +kernel⟩

/-- The Station port's request of L2 with an expiry of one minute. -/
def requested (n : Nat) : State :=
  atMs (st.setRequest .station
    (some { level := .l2, expiry := some { minutes := 1, start := 0 }, stamp := stampZero, damaged := false })) n

theorem witness_FireRequestsSetTheLevels :
    st.StoreLaw ∧ lawState.HoldLaw ∧ (st.powered = true ∧ st.controlTaken .station 0x0E (fr 0x0E ([3] ++ u16 2880)) ∧
    (fr 0x0E ([3] ++ u16 2880)).payload.length = 3 ∧
    levelOf (byteAt (fr 0x0E ([3] ++ u16 2880)).payload 0) = some .l3 ∧ Level.l3 ≠ .l0 ∧
    wordAt (fr 0x0E ([3] ++ u16 2880)).payload 1 = 2880 ∧ st.hunt.state ≠ .paused ∧
    st.controlTaken .station 0x0F (fr 0x0F []) ∧ (fr 0x0F []).payload = [] ∧
    portGet st.fire.requests .station = none ∧ portGet (requested 0).fire.requests .station ≠ none ∧
    slotExpired (requested 59999).ms (portGet (requested 59999).fire.requests .station) = false ∧
    slotExpired (requested 60000).ms (portGet (requested 60000).fire.requests .station) = true) :=
  ⟨trivial, witness_StepKeepsHoldLaw, by decide +kernel⟩

/-! ### Witnesses: settings and their store -/

/-- The bytes of a curve write of the fallback curve. -/
def curvePayload : List Byte := [2, 2, 0, 16, 0, 0, 32, 0, 2, 128, 0, 0, 32, 0]

/-- Curve 2 is written while curve 1 is in use; curve 1 is refused. -/
theorem witness_SettingWritesAreQueued_curve :
    Port.station ≠ .panel ∧ st.controlTaken .station 0x04 (fr 0x04 curvePayload) ∧
    curvePayload.length = 2 + 6 * byteAt curvePayload 1 ∧ byteAt curvePayload 0 = 2 ∧
    pointsAt curvePayload 2 (byteAt curvePayload 1) = fallbackCurve ∧ curveValid fallbackCurve = true ∧
    st.curveActive 2 .f1 = false ∧ st.curveActive 2 .f2 = false ∧ st.curveActive 2 .f3 = false ∧
    st.curveActive 2 .f4 = false ∧ st.curveActive 1 .f1 = true ∧
    st.controlTaken .station 0x04 (fr 0x04 (curvePayload.set 0 1)) ∧ byteAt (curvePayload.set 0 1) 0 = 1 ∧
    (faulted st).store.fault ≠ none := by decide +kernel

/-- A corridor of F2 to F4, an exposure, blocks at 32 and beyond the table, a restore. -/
theorem witness_SettingWritesAreQueued_fire :
    st.controlTaken .station 0x0C (fr 0x0C [1, 14]) ∧ feederOf (byteAt (fr 0x0C [1, 14]).payload 0) = some .f1 ∧
    byteAt (fr 0x0C [1, 14]).payload 1 < 16 ∧ feederGet (feederSetOf (byteAt (fr 0x0C [1, 14]).payload 1)) .f1 = false ∧
    st.controlTaken .station 0x10 (fr 0x10 [1, 1]) ∧ exposureOf (byteAt (fr 0x10 [1, 1]).payload 1) = some .urban ∧
    st.controlTaken .station 0x11 (fr 0x11 [32, 25, 0, 0, 3]) ∧ (fr 0x11 [32, 25, 0, 0, 3]).payload.length = 5 ∧
    fireValuesValid 32 [10, 0, 0, 3] = true ∧ fireValuesValid 33 [0, 0, 3, 99] = true ∧ 32 < 33 ∧ 32 ≤ 32 ∧
    st.controlTaken .station 0x12 (fr 0x12 []) := by decide +kernel

/-- The bytes of a write of F1's group with the values of the fallback group. -/
def groupPayload (l : Byte) : List Byte := [1, l] ++ groupBytes fallbackGroup

theorem witness_SettingWritesAreQueued_group :
    st.controlTaken .station 0x13 (fr 0x13 (groupPayload 2)) ∧ (fr 0x13 (groupPayload 2)).payload.length = 58 ∧
    letterOf (byteAt (groupPayload 2) 1) = some .b ∧ groupAt (groupPayload 2) 2 = fallbackGroup ∧
    groupValid fallbackGroup = true ∧ (st.effective .f1).letter ≠ .b ∧ letterOf (byteAt (groupPayload 1) 1) = some .a ∧
    (st.effective .f1).letter = .a := by decide +kernel

/-- A list of addresses 1 and 31; blocks at the ends of the hunt memory, one of them locked; a repair. -/
theorem witness_SettingWritesAreQueued_hunt :
    st.controlTaken .station 0x18 (fr 0x18 [1, 2, 1, 31]) ∧
    (fr 0x18 [1, 2, 1, 31]).payload.length = 2 + byteAt (fr 0x18 [1, 2, 1, 31]).payload 1 ∧
    addressesAt (fr 0x18 [1, 2, 1, 31]).payload 2 2 = [1, 31] ∧ unitListValid [1, 31] (st.otherAddresses .f1) = true ∧
    st.huntOn .f1 = false ∧ (hunting st .running).huntOn .f1 = true ∧
    st.controlTaken .station 0x1D (fr 0x1D [255, 1, 7, 0, 0, 1, 0, 0, 0, 0]) ∧
    (fr 0x1D [255, 1, 7, 0, 0, 1, 0, 0, 0, 0]).payload.length = 2 + 8 * 1 ∧
    huntBlocksAt (fr 0x1D [255, 1, 7, 0, 0, 1, 0, 0, 0, 0]).payload 2 1 = some [waitBlock] ∧ 255 + 1 ≤ 256 ∧
    (∀ i ∈ st.hunt.lockSet, i < 255 ∨ 255 + 1 ≤ i) ∧
    (∃ i ∈ (st.setHunt { st.hunt with lockSet := [255] }).hunt.lockSet, 255 ≤ i ∧ i < 255 + 1) ∧
    st.controlTaken .station 0x28 (fr 0x28 []) := by decide +kernel

/-- The heads of the store's queue: each port write completes, and the first and the last record of a repair fail. -/
theorem witness_StoreWritesComplete :
    writingState.powered = true ∧
    writingState.store.queue = { job := .port .station (.curve 1 fallbackCurve), begun := true } :: [] ∧
    (1 : Nat) ≤ 4 ∧ writingState.fire.curves.length = 4 ∧ writingState.hunt.state ≠ .paused ∧
    (writingState.port .station).slot = .inFlight 0x04 ∧ (writingState.port .station).orphan = false ∧
    (storing st (.port .station .repair)).store.queue = { job := .port .station .repair, begun := true } :: [] ∧
    (StoreJob.port .station .repair).records[0]? = some (recordId .group 1) ∧
    (StoreJob.port .station .repair).records[285]? = some (recordId .isolation 1) ∧
    (StoreJob.port .station .repair).records.length ≤ 286 := by decide +kernel

theorem witness_StoreWritesComplete_image : writingState.ImageLaw := writingState_image

/-- Behind a unit list's write, at another port, stands an internal write; and nothing has asked for a retention yet. -/
def queuedState : State :=
  let s := flying 0x18 st
  s.setStore { s.store with
    queue := [{ job := .port .station (.unitList .f1 [1]), begun := true }, { job := .internal (.holds .f1) none, begun := false }] }

theorem witness_StoreWritesComplete_queue :
    queuedState.store.queue = { job := .port .station (.unitList .f1 [1]), begun := true } ::
      [{ job := .internal (.holds .f1) none, begun := false }] ∧
    (∃ x ∈ queuedState.store.queue, x.job = .port .station (.unitList .f1 [1])) ∧
    (∀ x ∈ queuedState.store.queue, ∀ w, x.job = .port .station w → w = .unitList .f1 [1]) ∧
    (queuedState.port .station).slot = .inFlight 0x18 ∧
    (∃ x ∈ queuedState.store.queue, x.job = .internal (.holds .f1) none) ∧
    (StoreJob.port .station (.unitList .f1 [1])).records[0]? = some (recordId .unitList 1) ∧
    ∀ o, (storing st (.port .station .repair)).pendingMark o = false := by
  refine ⟨rfl, ⟨_, .head _, rfl⟩, ?_, rfl, ⟨_, .tail _ (.head _), rfl⟩, rfl, ?_⟩
  · intro x hx w hw
    rcases List.mem_cons.1 hx with rfl | hx
    · cases hw; rfl
    · cases List.mem_singleton.1 hx; cases hw
  · intro o
    cases o with
    | holds f => cases f <;> rfl
    | _ => rfl

/-! ### Witnesses: line bus -/

/-- The bus in a state since millisecond 0 with a master's entry in flight. -/
def inFlightState (b : BusState) (attempts n : Nat) : State :=
  atMs (onBus (flying 0x17 st) b [entry (.master .station) .query .inFlight attempts]) n

def mismatched (n : Nat) : State :=
  let s := inFlightState .sending 2 n
  s.setBus { s.bus with mismatch := some 0 }

theorem witness_BusStatesFollowTheWire :
    st.powered = true ∧ (atMs st 10).bus.state = .gap ∧ 10 ≤ ((atMs st 10).ms - (atMs st 10).bus.since).toNat ∧
    (atMs st 10).bus.queue = [] ∧
    (onBus st .preamble [entry (.master .station) .query .preamble 0]).bus.state = .preamble ∧
    (onBus st .preamble [entry (.master .station) .query .preamble 0]).bus.queue =
      entry (.master .station) .query .preamble 0 :: [] ∧
    (∀ x ∈ ([] : List BusEntry), x.phase = .waiting) ∧
    (onBus st .gap [entry (.master .station) .query .waiting 0]).bus.queue =
      entry (.master .station) .query .waiting 0 :: [] ∧
    (inFlightState .sending 0 0).bus.state = .sending ∧ (inFlightState .sending 0 0).bus.mismatch = none ∧
    st.clampPossible = true ∧ (mismatched 20).clampPossible = true ∧ (onBus st .clampIn []).bus.state = .clampIn ∧
    (onBus (atMs st 50) .clampOut []).bus.state = .clampOut ∧
    50 ≤ ((onBus (atMs st 50) .clampOut []).ms - (onBus (atMs st 50) .clampOut []).bus.since).toNat ∧
    100 < ((onBus (atMs st 101) .clampIn []).ms - (onBus (atMs st 101) .clampIn []).bus.runStart).toNat ∧
    (onBus (atMs st 500) .stuck []).bus.state = .stuck ∧
    500 ≤ ((onBus (atMs st 500) .stuck []).ms - (onBus (atMs st 500) .stuck []).bus.lastActive).toNat ∧
    ((onBus (atMs st 499) .stuck []).ms - (onBus (atMs st 499) .stuck []).bus.lastActive).toNat < 500 := by
  decide +kernel

/-- R141: a level said to be ACTIVE 400 ms into STUCK puts the restoration off to 900 ms. -/
theorem test_active_restarts_restoration :
    (match exec .activeSeen (onBus (atMs st 400) .stuck []) with
    | .next t =>
      (match exec .linebusRestored (atMs t 899), exec .linebusRestored (atMs t 900) with
      | .next u, .next v => u.bus.state == .stuck && v.bus.state == .idle
      | _, _ => false)
    | _ => false) = true := by decide +kernel

/-- A preamble in course, a frame under way with and without a mismatch, a clamp. -/
theorem witness_BusStatesFollowTheWire_driver :
    (onBus st .preamble [entry .hunt .open .preamble 0]).bus.contending = some (entry .hunt .open .preamble 0) ∧
    (onBus st .preamble [entry (.master .remote) .query .preamble 0]).bus.contending =
      some (entry (.master .remote) .query .preamble 0) ∧
    (onBus st .acking []).bus.mismatch = none ∧ (mismatched 0).bus.mismatch ≠ none ∧
    (onBus st .clampOut []).bus.state = .clampOut ∧ (onBus st .stuck []).bus.state = .stuck := by decide +kernel

/-- R130: the slots and bit times of an OPEN command, a QUERY, and the greatest frame, a REPORT of eleven characters. -/
theorem test_bit_times :
    (preambleLevels 1 ++ (entry .hunt .open .waiting 0).chars.flatMap characterLevels).length = 64 ∧
    (preambleLevels 5 ++ (entry (.master .station) .query .waiting 0).chars.flatMap characterLevels).length = 54 ∧
    (preambleLevels 0 ++ (List.replicate 11 (0 : Byte)).flatMap characterLevels).length = 114 := by decide +kernel

/-- A port waits for the end of the part's clamp. -/
theorem witness_BusStatesFollowTheWire_reset_port :
    (let s := flying 0x1A (onBus (atMs st 50) .clampOut [])
     let t := s.setBus { s.bus with resetPorts := [.station] }
     .station ∈ t.bus.resetPorts ∧ (t.port .station).slot = .inFlight 0x1A ∧ (t.port .station).orphan = false) := by
  decide +kernel

theorem witness_AttemptsEndAndComplete :
    (inFlightState .replyWait 1 17).powered = true ∧
    (inFlightState .replyWait 1 17).bus.inFlight = some (entry (.master .station) .query .inFlight 1) ∧
    (entry (.master .station) .query .inFlight 1).source = .master .station ∧
    (entry (.master .station) .query .inFlight 1).address - 1 < (inFlightState .replyWait 1 17).bus.units.length ∧
    (inFlightState .replyWait 1 17).bus.state = .replyWait ∧
    17 ≤ ((inFlightState .replyWait 1 17).ms - (inFlightState .replyWait 1 17).bus.since).toNat ∧
    (entry (.master .station) .query .inFlight 1).attempts + 1 < 3 ∧
    (inFlightState .replyWait 2 17).bus.inFlight = some (entry (.master .station) .query .inFlight 2) ∧
    3 ≤ (entry (.master .station) .query .inFlight 2).attempts + 1 ∧
    (mismatched 19).bus.state = .sending ∧ (mismatched 19).mismatchWithin = true ∧
    judgeReply (onWire [0x12, 1, 0]) false =
      { outcome := .done, carried := some { unit := some 1, condition := some 0 } } ∧
    judgeReply (onWire [0x20]) false =
      { outcome := .refusedByUnit, carried := some { unit := none, condition := none } } := by decide +kernel

/-- Replies judged CHECK_FAIL: a framing error, a data count of 3, a wrong length, a wrong check; an ACK, whose data are
taken. -/
theorem witness_AttemptsEndAndComplete_checks :
    judgeReply (onWire [0x12, 1, 0]) true = { outcome := .checkFail, carried := none } ∧
    judgeReply (onWire [0x13, 1, 0]) false = { outcome := .checkFail, carried := none } ∧
    judgeReply (onWire [0x11, 1, 0]) false = { outcome := .checkFail, carried := none } ∧
    judgeReply [0x10, 0xFF] false = { outcome := .checkFail, carried := none } ∧
    judgeReply (onWire [0x31, 1]) false =
      { outcome := .checkFail, carried := some { unit := some 1, condition := none } } := by decide +kernel

/-- The hunt engine's entry in flight, awaited by a block with a change of the engine. -/
def huntEntryState (b : HuntBlock) (attempts : Nat) (g : Hunt → Hunt) : State :=
  let s := atBlock (atMs (onBus st .replyWait [entry .hunt .open .inFlight attempts]) 17) b
    (fun h => g { h with awaiting := .unit })
  s.setBus { s.bus with lists := feederSet s.bus.lists .f1 [1] }

/-- An OPEN-UNIT block of the first unit. -/
def openBlock (window : Nat) (unitFail : Bool) : HuntBlock :=
  { endBlock with action := .openUnit, unit := 1, window := window, tests := { endBlock.tests with unitFail := unitFail } }

/-- The engine's own entry: a second and a third failure, a reply, in ACTING, in SECURING, STOPPING and DONE. -/
theorem witness_AttemptsEndAndComplete_hunt :
    (∀ n, n = 1 ∨ n = 2 →
      let s := huntEntryState (openBlock 1 false) n id
      s.powered = true ∧ s.bus.inFlight = some (entry .hunt .open .inFlight n) ∧
      (∀ x ∈ s.bus.queue, x.isHunt = true → x = entry .hunt .open .inFlight n) ∧
      (entry .hunt .open .inFlight n).address - 1 < s.bus.units.length ∧ s.hunt.feeder = some .f1 ∧
      s.bus.state = .replyWait ∧ 17 ≤ (s.ms - s.bus.since).toNat ∧ s.hunt.state = .running ∧ s.hunt.awaiting = .unit ∧
      s.hunt.phase = .acting ∧ s.hunt.pendingDetour = false ∧ 1 ≤ s.currentBlock.window ∧
      s.currentBlock.tests.unitFail = false) ∧
    (let s := huntEntryState (openBlock 0 true) 2 id
     s.currentBlock.window = 0 ∧ s.currentBlock.action ≠ .testCloseUnit ∧ s.currentBlock.action ≠ .testCloseBreaker ∧
     s.addressAt .f1 s.currentBlock.unit = some 1 ∧ s.currentBlock.tests.unitFail = true ∧ s.hunt.insertion = none ∧
     s.currentBlock.next true = 0 ∧ s.currentBlock.next false = 0) ∧
    (huntEntryState (openBlock 0 true) 0 (fun h => { h with phase := .securing })).hunt.phase = .securing ∧
    (huntEntryState (openBlock 0 true) 0 (fun h => { h with state := .stopping })).hunt.state = .stopping ∧
    (huntEntryState (openBlock 0 true) 0 (fun h => { h with state := .done })).hunt.state = .done ∧
    judgeReply (onWire [0x11, 1]) false = { outcome := .done, carried := some { unit := some 1, condition := none } } := by
  refine ⟨fun n hn => ?_, by decide +kernel⟩
  rcases hn with rfl | rfl <;> decide +kernel

/-- A clamp that becomes STUCK while the hunt engine's entry waits in the queue. -/
theorem witness_BusStatesFollowTheWire_hunt :
    (let s := atMs (onBus st .clampIn [entry .hunt .open .waiting 0]) 101
     s.powered = true ∧ s.bus.state = .clampIn ∧ 100 < (s.ms - s.bus.runStart).toNat ∧
     (∃ x ∈ s.bus.queue, x.isHunt = true)) := by decide +kernel

/-- A REPORT of unit 1: the switch is OPEN and the indication set. -/
def reportChars : List Byte := onWire [0x10, 0, 1, 2, 0x11, 0]

def listening : State :=
  let s := onBus st .listening []
  s.updateUnit 1 (fun r => { r with switch := .closed })

theorem witness_ReportsUpdateUnits :
    (∀ f, listening.huntOn f = false) ∧ (listening.powered = true ∧ listening.bus.state = .listening ∧
    listening.bus.ackTimer = none ∧ judgeReport reportChars true = none ∧
    judgeReport reportChars false = some { source := 1, unit := 0x11, condition := 0 } ∧
    1 - 1 < listening.bus.units.length ∧
    isMove (listening.unitRecord 1).switch (switchOf 0x11) = true ∧
    (∀ x ∈ listening.bus.queue, x.explains 1 (switchOf 0x11) = false) ∧
    (acknowledging 0).bus.ackTimer ≠ none ∧
    (onBus st .acking []).bus.state = .acking ∧ (onBus st .acking []).bus.mismatch = none) :=
  ⟨by intro f; cases f <;> rfl, by decide +kernel⟩

/-- A move of unit 1, the first of the list of F1, with a hunt on F1; a command that explains it; a record that does not
change. -/
theorem witness_ReportsUpdateUnits_hunt :
    (∀ h : HuntState, h = .running ∨ h = .paused ∨ h = .stopping →
      let s := (hunting listening h).updateUnit 1 (fun r => { r with place := some { feeder := .f1, index := 1 } })
      (s.unitRecord 1).place = some { feeder := .f1, index := 1 } ∧ s.hunt.feeder = some .f1 ∧ s.hunt.state = h ∧
      isMove (s.unitRecord 1).switch (switchOf 0x11) = true) ∧
    (entry (.master .station) .open .inFlight 0).explains 1 (switchOf 0x11) = true ∧
    (let r := (listening.unitRecord 1).heard stampZero { unit := some 0x11, condition := some 0 }
     let y := r.heard stampZero { unit := some 0x11, condition := some 0 }
     isMove r.switch (switchOf 0x11) = false ∧ ¬ (r.faultPassed = false ∧ y.faultPassed = true) ∧
     (r.health = .localLock ↔ y.health = .localLock) ∧ ¬ (r.batteryLow = false ∧ y.batteryLow = true) ∧
     r.silent = false) := by
  refine ⟨fun h hh => ?_, by decide +kernel⟩
  rcases hh with rfl | rfl | rfl <;> decide +kernel

/-- The tests of a UNIT-COMMAND at the addresses 1 and 31, with six and seven master entries queued. -/
theorem witness_MastersCommandTheLineBus :
    st.controlTaken .station 0x17 (fr 0x17 [31, 2]) ∧
    grantUnitCommand st.key (fr 0x17 [31, 2]).payload .station = true ∧ (fr 0x17 [31, 2]).payload.length = 2 ∧
    unitCommandOf (byteAt (fr 0x17 [31, 2]).payload 1) = some .close ∧ (onBus st .stuck []).bus.state = .stuck ∧
    st.bus.state ≠ .stuck ∧ st.underHunt 31 = false ∧ (st.unitRecord 31).isolated = false ∧
    ((st.updateUnit 31 (fun r => { r with isolated := true })).unitRecord 31).isolated = true ∧
    ((hunting st .running).updateUnit 1 (fun r => { r with place := some { feeder := .f1, index := 1 } })).underHunt 1 =
      true ∧
    7 ≤ masterEntries (onBus st .gap (List.replicate 7 (entry (.master .station) .query .waiting 0))).bus.queue ∧
    masterEntries (onBus st .gap (List.replicate 6 (entry (.master .station) .query .waiting 0))).bus.queue < 7 ∧
    st.bus.state ≠ .idle ∧ st.controlTaken .station 0x19 (fr 0x19 [31]) ∧ st.bus.units.length = 31 ∧
    st.controlTaken .station 0x1A (fr 0x1A []) ∧
    (∀ x ∈ [entry (.master .station) .query .waiting 0], x.isHunt = false) := by decide +kernel

/-- A bus that is IDLE; a QUERY and a CLEAR-INDICATION of a unit under hunt. -/
theorem witness_MastersCommandTheLineBus_idle :
    (onBus st .idle []).controlTaken .station 0x17 (fr 0x17 [31, 2]) ∧ (onBus st .idle []).bus.state = .idle ∧
    (onBus st .idle []).bus.queue = [] ∧
    (∀ b : Byte, b = 3 ∨ b = 4 →
      let s := (hunting st .running).updateUnit 1 (fun r => { r with place := some { feeder := .f1, index := 1 } })
      s.underHunt 1 = true ∧ s.controlTaken .station 0x17 (fr 0x17 [1, b]) ∧
      grantUnitCommand s.key (fr 0x17 [1, b]).payload .station = true ∧
      (unitCommandOf b.toNat = some .query ∨ unitCommandOf b.toNat = some .clearIndication)) := by
  refine ⟨by decide +kernel, rfl, rfl, fun b hb => ?_⟩
  rcases hb with rfl | rfl <;> decide +kernel

/-! ### Witnesses: earth-fault hunting -/

/-- F1's measurement VALID, and a hunt memory whose block 1 is a WAIT of one sample. -/
def readyState : State := withWait (st.setReceiver .f1 (validReceiver 0))

def startFrame : Frame := fr 0x1E [1, 1, 0, 0]

theorem witness_StartHuntBegins :
    readyState.controlTaken .station 0x1E startFrame ∧ grantHunt readyState.key .station = true ∧
    startFrame.payload.length = 4 ∧ feederOf (byteAt startFrame.payload 0) = some .f1 ∧
    byteAt startFrame.payload 1 = 1 ∧ byteAt startFrame.payload 2 = 0 ∧
    stepModeOf (byteAt startFrame.payload 3) = some false ∧ readyState.hunt.busy = false ∧
    (hunting readyState .running).hunt.busy = true ∧ readyState.startRefused .f1 = false ∧ st.startRefused .f1 = true ∧
    readyState.structureFault [1] [0] = none ∧ readyState.rangeFault .f1 [1, 0] = none ∧
    (readyState.setHunt { readyState.hunt with
      memory := { waitBlock with window := 0 } :: readyState.hunt.memory.tail }).structureFault [1] [0] = some 1 ∧
    (readyState.setHunt { readyState.hunt with
      memory := { waitBlock with action := .openUnit, unit := 1 } :: readyState.hunt.memory.tail }).rangeFault .f1 [1, 0] =
        some 1 ∧
    (readyState.huntBlock 1).action = .wait ∧ 1 ≤ (readyState.huntBlock 1).window ∧
    ((readyState.holdTable .f1).list.all (fun h => h.owner != .hunt)) = true := by decide +kernel

/-- A walk that loops, with a fault in its third block; a memory and lists of the sizes that the checks take. -/
theorem witness_StartHuntBegins_checks :
    (let b : HuntBlock := { waitBlock with nextTrue := 2, nextFalse := 255 }
     let m : List HuntBlock := [b, { waitBlock with nextTrue := 1 }] ++ List.replicate 252 endBlock ++
       [{ waitBlock with window := 0 }]
     let s := readyState.setHunt { readyState.hunt with memory := m }
     s.hunt.memory.length ≤ 255 ∧ [1].length ≤ 2 ∧ [0].length ≤ 2 ∧ reachable s.hunt.memory [1] = [1, 2, 255] ∧
     s.structureFault [1] [0] = some 255) := by decide +kernel

/-- A window that closes on a block that is no TEST action, on a TEST action with another window to come, with its last, and
with a true test, whose unit stands closed or open. -/
theorem witness_StartHuntBegins_windows :
    (let s := atBlock st waitBlock (fun h => { h with phase := .observing })
     s.hunt.feeder = some .f1 ∧ s.hunt.state = .running ∧ s.hunt.phase = .observing ∧
     s.currentBlock.action ≠ .testCloseUnit ∧ s.currentBlock.action ≠ .testCloseBreaker ∧
     s.hunt.pendingDetour = false ∧ s.hunt.insertion = none ∧ s.currentBlock.next true = 0) ∧
    (let b : HuntBlock := { openBlock 1 false with action := .testCloseUnit, repeats := 0 }
     let s := onBus (atBlock st b (fun h => { h with phase := .observing, run := { h.run with windows := 6 } })) .gap []
     let u := s.setBus { s.bus with lists := feederSet s.bus.lists .f1 [1] }
     u.currentBlock.action = .testCloseUnit ∧ u.hunt.run.windows + 1 < 8 ∧
     8 ≤ (u.setHunt { u.hunt with run := { u.hunt.run with windows := 7 } }).hunt.run.windows + 1 ∧
     b.test { sefSeen := false, ocSeen := false, trip := false, fpi := false, unitFail := false } = false ∧
     ({ b with senseNone := true } : HuntBlock).test
       { sefSeen := false, ocSeen := false, trip := false, fpi := false, unitFail := false } = true ∧
     u.addressAt .f1 b.unit = some 1 ∧ (u.unitRecord 1).switch ≠ .open ∧
     ((u.updateUnit 1 (fun r => { r with switch := .open })).unitRecord 1).switch = .open ∧ u.bus.huntEntry = none ∧
     u.bus.state ≠ .stuck ∧ u.bus.state ≠ .idle) ∧
    (let b : HuntBlock := { waitBlock with action := .testCloseBreaker, repeats := 1 }
     let s := atBlock closedState b (fun h => { h with phase := .observing })
     s.currentBlock.action = .testCloseBreaker ∧ (s.breaker .f1).stableClosed = true ∧ (s.breaker .f1).slot = .empty ∧
     ((atBlock st b id).breaker .f1).stableClosed = false) := by decide +kernel

/-- A hunt on F1 paused before block 1 with its pause timer started at 0. -/
def pausedState (n : Nat) : State :=
  let s := hunting (withWait st) .paused
  atMs (holding (s.setHunt { s.hunt with pauseReason := .step, current := 1, pauseTimer := some { start := 0, length := 1800000 } })
    [hold .hunt .reclose 0]) n

/-- A hunt on F1 running, observing. -/
def observingState : State :=
  let s := hunting (withWait st) .running
  s.setHunt { s.hunt with phase := .observing, current := 1 }

theorem witness_HuntRequestsAndTimeout :
    observingState.powered = true ∧ observingState.hunt.feeder = some .f1 ∧
    observingState.controlTaken .station 0x1F (fr 0x1F [255]) ∧ grantHunt observingState.key .station = true ∧
    byteAt (fr 0x1F [255]).payload 0 ≠ 0 ∧ observingState.hunt.state = .running ∧
    observingState.hunt.returnSlot = none ∧ observingState.hunt.insertion = none ∧
    observingState.structureFault [] [255] = none ∧ observingState.rangeFault .f1 [255] = none ∧
    (hunting st .done).hunt.feeder = some .f1 ∧ (hunting st .done).huntAlive .f1 = false ∧
    observingState.controlTaken .station 0x21 (fr 0x21 [1]) ∧ stepModeOf (byteAt (fr 0x21 [1]).payload 0) = some true ∧
    (hunting st .done).huntOn .f1 = false ∧ observingState.huntOn .f1 = true ∧ observingState.hunt.stepPaused = false ∧
    observingState.controlTaken .station 0x22 (fr 0x22 []) ∧ observingState.hunt.phase = .observing ∧
    observingState.hunt.awaiting = .nothing := by decide +kernel

theorem witness_HuntRequestsAndTimeout_paused :
    lawState.HoldLaw ∧ ((pausedState 0).hunt.feeder = some .f1 ∧ (pausedState 0).hunt.stepPaused = true ∧
    (pausedState 0).controlTaken .station 0x20 (fr 0x20 []) ∧ (pausedState 0).currentBlock.action = .wait ∧
    1 ≤ (pausedState 0).currentBlock.window ∧ (pausedState 0).hunt.steps < 64 ∧ (pausedState 0).hunt.state = .paused ∧
    timerDue (pausedState 1799999).ms (pausedState 1799999).hunt.pauseTimer = false ∧
    timerDue (pausedState 1800000).ms (pausedState 1800000).hunt.pauseTimer = true ∧
    hasOwner ((pausedState 1800000).holdTable .f1).list .hunt = true) :=
  ⟨witness_StepKeepsHoldLaw, by decide +kernel⟩

/-- No hunt since reset; an abort of a paused hunt, with an entry waiting and in flight, with a trip in flight, and in
STOPPING; insertions refused, and in the pauses. -/
theorem witness_HuntRequestsAndTimeout_more :
    st.hunt.feeder = none ∧ st.controlTaken .station 0x1F (fr 0x1F [1]) ∧ byteAt (fr 0x1F [1]).payload 0 ≠ 0 ∧
    st.controlTaken .station 0x21 (fr 0x21 [0]) ∧ stepModeOf (byteAt (fr 0x21 [0]).payload 0) = some false ∧
    st.controlTaken .station 0x20 (fr 0x20 []) ∧ st.controlTaken .station 0x22 (fr 0x22 []) ∧
    (pausedState 0).controlTaken .station 0x22 (fr 0x22 []) ∧ (pausedState 0).hunt.awaiting = .nothing ∧
    (∀ ph, ph = .waiting ∨ ph = .inFlight →
      (onBus (pausedState 0) .gap [entry .hunt .open ph 0]).bus.huntEntry = some (entry .hunt .open ph 0)) ∧
    (huntTrip .running [.hunt]).hunt.awaiting = .trip ∧
    (atBlock st waitBlock (fun h => { h with awaiting := .ask })).hunt.awaiting = .ask ∧
    (hunting st .stopping).hunt.state = .stopping ∧
    (pausedState 0).controlTaken .station 0x1F (fr 0x1F [1]) ∧ (pausedState 0).hunt.returnSlot = none ∧
    (pausedState 0).hunt.insertion = none ∧ (pausedState 0).structureFault [] [1] = none ∧
    (pausedState 0).rangeFault .f1 [1] = none ∧ (pausedState 0).hunt.pauseReason = .step ∧
    ((pausedState 0).huntBlock 1).action = .wait ∧
    (atBlock st { waitBlock with window := 0 } id).structureFault [] [1] = some 1 ∧
    (atBlock st (openBlock 0 false) id).rangeFault .f1 [1] = some 1 ∧
    (pausedState 0).controlTaken .station 0x21 (fr 0x21 [0]) := by
  refine ⟨by decide +kernel, by decide +kernel, by decide +kernel, by decide +kernel, by decide +kernel,
    by decide +kernel, by decide +kernel, by decide +kernel, by decide +kernel, fun ph h => ?_, by decide +kernel⟩
  rcases h with rfl | rfl <;> decide +kernel

/-- A step pause before a block, with the list of F1 holding unit 1. -/
def before (s : State) (b : HuntBlock) : State :=
  let u := atBlock s b (fun h => { h with state := .paused, pauseReason := .step })
  u.setBus { u.bus with lists := feederSet u.bus.lists .f1 [1] }

/-- The blocks that a HUNT-CONTINUE begins: a unit's OPEN and CLOSE, permitted, isolated, with the bus STUCK; the breaker's
trip and close; the pause; MARK; RETURN; the 64th and the 65th block. -/
theorem witness_HuntRequestsAndTimeout_blocks :
    (let s := before st (openBlock 0 false)
     s.hunt.feeder = some .f1 ∧ s.controlTaken .station 0x20 (fr 0x20 []) ∧ grantHunt s.key .station = true ∧
     s.hunt.stepPaused = true ∧ s.hunt.steps < 64 ∧ s.currentBlock.action = .openUnit ∧
     s.addressAt .f1 s.currentBlock.unit = some 1 ∧ s.bus.huntEntry = none ∧ s.bus.state ≠ .stuck ∧ s.bus.state ≠ .idle ∧
     (onBus s .idle []).bus.state = .idle ∧ (onBus s .stuck []).bus.state = .stuck ∧
     (s.setHunt { s.hunt with steps := 63 }).hunt.steps < 64 ∧ 64 ≤ (s.setHunt { s.hunt with steps := 64 }).hunt.steps) ∧
    (let s := before st { openBlock 1 true with action := .testCloseUnit }
     (s.effective .f1).huntCloses = true ∧ (s.holdTable .f1).list = [] ∧ s.currentBlock.action = .testCloseUnit ∧
     (s.unitRecord 1).isolated = false ∧
     ((s.updateUnit 1 (fun r => { r with isolated := true })).unitRecord 1).isolated = true ∧
     s.currentBlock.tests.unitFail = true ∧ s.hunt.pendingDetour = false ∧
     ((s.setEffective .f1 { s.effective .f1 with huntCloses := false }).effective .f1).huntCloses = false ∧
     (∃ h ∈ ((holding s [hold (.master .remote) .remote 1]).holdTable .f1).list,
       ClosePurpose.hunt.ceiling ≤ h.kind.severity)) ∧
    (let s := before closedState { waitBlock with action := .openBreaker }
     (s.breaker .f1).slot = .empty ∧ (s.breaker .f1).stableClosed = true ∧ s.currentBlock.action = .openBreaker ∧
     ((before st { waitBlock with action := .openBreaker }).breaker .f1).stableClosed = false) ∧
    (let s := before tripState { waitBlock with action := .openBreaker }
     (s.breaker .f1).slot = .trip tripOp ∧ tripOp.phase ≠ .failPulse) ∧
    (let s := holding (before serviceFailPulse { waitBlock with action := .openBreaker }) [hold .hunt .reclose 0]
     (s.breaker .f1).slot = .trip { tripOp with phase := .failPulse } ∧ s.currentBlock.action = .openBreaker ∧
     hasOwner (s.holdTable .f1).list .hunt = true) ∧
    (let s := before (closeState .localClose (.master .station)) { waitBlock with action := .openBreaker }
     (s.breaker .f1).slot = .close (closeOp .localClose (.master .station)) ∧ Port.station ≠ .panel ∧
     (s.port .station).slot = .inFlight 0x07 ∧ (s.port .station).orphan = false) ∧
    (let s := before st { waitBlock with action := .closeBreaker }
     (s.breaker .f1).slot = .empty ∧ (s.breaker .f1).stableClosed = false ∧ s.currentBlock.action = .closeBreaker ∧
     s.hunt.pendingDetour = false ∧
     ((before (closeState .localClose (.master .station)) { waitBlock with action := .closeBreaker }).breaker .f1).slot ≠
       .empty) ∧
    (let s := before st { openBlock 0 false with action := .mark }
     s.currentBlock.action = .mark ∧ 1 - 1 < s.bus.units.length ∧ s.store.queue = [] ∧ s.store.fault = none ∧
     s.bus.pendingMark = false) ∧
    (let s := before st { endBlock with action := .ret }
     s.currentBlock.action = .ret ∧ s.hunt.returnSlot = none ∧
     (s.setHunt { s.hunt with stepMode := true, returnSlot := some { block := 255, kind := .detour } }).hunt.returnSlot =
       some { block := 255, kind := .detour }) ∧
    (before st endBlock).currentBlock.action = .finish := by decide +kernel

/-- A close request of the engine stands at the breaker interface of F1, sent for a block of one window. -/
def standing (s : State) (g : Hunt → Hunt) : State :=
  onBreaker
    (atBlock s { waitBlock with action := .closeBreaker } (fun h => g { h with phase := .acting, awaiting := .ask }))
    (fun b => { b with huntAsk := true })

/-- The tick that takes a request: a grant; the refusals BARRED, BUSY and NOT_OPEN, with and without a trip held or a detour
pending; a STOPPING hunt, and one that no longer asks. -/
theorem witness_HuntRequestsAndTimeout_standing :
    (∀ f, ((standing st id).breaker f).huntAsk = decide (f = .f1)) ∧
    (standing st id).powered = true ∧ (standing st id).bus.state ≠ .listening ∧
    ((standing st id).breaker .f1).slot = .empty ∧ ((standing st id).breaker .f1).stableClosed = false ∧
    ((standing st id).holdTable .f1).list = [] ∧ (standing st id).hunt.feeder = some .f1 ∧
    (standing st id).hunt.awaiting = .ask ∧ (standing st id).hunt.state = .running ∧
    (standing st id).currentBlock.window = 1 ∧ (standing st id).hunt.run.heldTrip = false ∧
    (standing st id).hunt.pendingDetour = false ∧
    (∃ h ∈ ((holding (standing st id) [hold (.master .remote) .remote 1]).holdTable .f1).list,
      ClosePurpose.hunt.ceiling ≤ h.kind.severity) ∧
    ((standing tripState id).breaker .f1).slot = .trip tripOp ∧
    ((standing closedState id).breaker .f1).stableClosed = true ∧
    (standing tripState (fun h => { h with run := { h.run with heldTrip := true } })).hunt.run.heldTrip = true ∧
    (let s := standing tripState (fun h => { h with pendingDetour := true, detourFirst := 2, stepMode := true })
     s.hunt.pendingDetour = true ∧ s.hunt.detourFirst ≠ 0 ∧ s.hunt.returnSlot = none ∧ s.hunt.stepMode = true ∧
     s.hunt.state = .running ∧ (s.breaker .f1).slot = .trip tripOp) ∧
    (standing tripState (fun h => { h with state := .stopping })).hunt.state = .stopping ∧
    (standing st (fun h => { h with awaiting := .nothing })).hunt.awaiting ≠ .ask := by
  refine ⟨fun f => ?_, by decide +kernel⟩
  cases f <;> decide +kernel

/-- R158: BUSY after a trip taken while the request stood is answered CUT, and the held TRIP passes to the first window. -/
theorem test_busy_after_trip :
    (match exec .millisecondTick (standing tripState (fun h => { h with run := { h.run with heldTrip := true } })) with
    | .next t => t.hunt.phase == .observing && t.hunt.run.outcome == .cut && t.hunt.run.windowTrip
    | _ => false) = true := by decide +kernel

/-- R158: a hold placed after the engine's query bars its close, and the engine waits with reason HOLD. -/
theorem test_barred_after_query :
    (match exec .millisecondTick (holding (standing st id) [hold (.master .remote) .remote 1]) with
    | .next t => t.hunt.state == .paused && t.hunt.pauseReason == .hold && (t.breaker .f1).slot == .empty
    | _ => false) = true := by decide +kernel

/-! ### Witnesses: event log, ports and requests -/

theorem witness_LogRequestsMoveThePointer :
    st.controlTaken .station 0x26 (fr 0x26 []) ∧ st.controlTaken .station 0x27 (fr 0x27 [3, 0, 0]) ∧
    (fr 0x27 [3, 0, 0]).payload.length = 3 ∧ byteAt (fr 0x27 [0, 0, 0]).payload 0 < 1 ∧
    3 < byteAt (fr 0x27 [4, 0, 0]).payload 0 ∧ BitVec.ofNat 16 (wordAt (fr 0x27 [3, 0, 2]).payload 1) ≠ st.log.next ∧
    (∀ r ∈ st.log.records, r.seq ≠ BitVec.ofNat 16 (wordAt (fr 0x27 [3, 0, 2]).payload 1)) ∧
    byteAt (fr 0x27 [1, 0, 0]).payload 0 = 1 ∧ byteAt (fr 0x27 [2, 0, 0]).payload 0 = 2 ∧
    (∃ r ∈ st.log.records, r.seq = BitVec.ofNat 16 (wordAt (fr 0x27 [3, 0, 0]).payload 1)) ∧
    BitVec.ofNat 16 (wordAt (fr 0x27 [3, 0, 1]).payload 1) = st.log.next := by decide +kernel

/-- A frame whose check code does not match, one without authority, one out of sequence. -/
theorem witness_RanksRefuseInOrder :
    st.portFree .panel ∧ requestFrameOf (.setTime .panel (fr 0x01 [])) = some (.panel, fr 0x01 []) ∧
    requestCode (.setTime .panel (fr 0x01 [])) = some 0x01 ∧
    framePasses 0x01 { fr 0x01 [] with check := 0 } = false ∧ framePasses 0x01 (fr 0x01 []) = true ∧
    grantedTo st.key (.setTime .panel (fr 0x01 [])) = false ∧
    grantedTo st.key (.setTime .station (frameBuild 0x01 1 [])) = true ∧ framePasses 0x01 (frameBuild 0x01 1 []) = true ∧
    0x01 ∉ readCodes ∧ (frameBuild 0x01 1 []).counter ≠ (st.port .station).counter := by decide +kernel

/-- SET-TIME taken, SET-TIME with a wrong counter, a read, and an event that is no request. -/
theorem witness_CountersCountAcceptedRequests :
    (∃ t, exec (.setTime .station (fr 0x01 [])) st = .next t) ∧ (∃ t, exec .millisecondTick st = .next t) ∧
    st.powered = true ∧ requestFrameOf (.setTime .station (fr 0x01 [])) = some (.station, fr 0x01 []) ∧
    requestCode (.setTime .station (fr 0x01 [])) = some 0x01 ∧ 0x01 ∉ readCodes ∧
    st.controlTaken .station 0x01 (fr 0x01 []) ∧ grantedTo st.key (.setTime .station (fr 0x01 [])) = true ∧
    ¬ st.controlTaken .station 0x01 (frameBuild 0x01 1 []) ∧ requestFrameOf .millisecondTick = none :=
  ⟨⟨_, rfl⟩, ⟨_, rfl⟩, by decide +kernel⟩

theorem witness_BusyPortTurnsFramesAway :
    st.powered = true ∧ requestFrameOf (.setTime .station (fr 0x01 [])) = some (.station, fr 0x01 []) ∧
    requestCode (.setTime .station (fr 0x01 [])) = some 0x01 ∧
    ((st.setPort .station { st.port .station with inReset := true }).port .station).inReset = true ∧
    ((st.setPort .station { st.port .station with orphan := true }).port .station).orphan = true ∧
    ((flying 0x06 st).port .station).inReset = false ∧ ((flying 0x06 st).port .station).orphan = false ∧
    ((flying 0x06 st).port .station).slot = .inFlight 0x06 := by decide +kernel

theorem witness_ReadsReturnTheState :
    requestFrameOf (.readCurve .panel (fr 0x03 [4])) = some (.panel, fr 0x03 [4]) ∧
    requestCode (.readCurve .panel (fr 0x03 [4])) = some 0x03 ∧ 0x03 ∈ readCodes ∧
    st.readTaken .panel 0x03 (fr 0x03 [1]) ∧ st.readTaken .panel 0x03 (fr 0x03 [4]) ∧
    byteAt (fr 0x03 [4]).payload 0 ≤ 4 ∧ st.readTaken .panel 0x02 (fr 0x02 [4]) ∧
    st.readTaken .panel 0x02 (fr 0x02 [0]) ∧ byteAt (fr 0x02 [0]).payload 0 < 1 ∧
    4 < byteAt (fr 0x02 [5]).payload 0 ∧ st.readTaken .panel 0x05 (fr 0x05 [4]) ∧
    st.readTaken .panel 0x08 (fr 0x08 [4]) ∧ st.readTaken .panel 0x0D (fr 0x0D [4]) ∧
    st.readTaken .panel 0x15 (fr 0x15 []) ∧ st.readTaken .panel 0x14 (fr 0x14 []) := by decide +kernel

theorem witness_ReadsReturnTheState_whole :
    st.readTaken .panel 0x29 (fr 0x29 []) ∧ st.readTaken .panel 0x1B (fr 0x1B []) ∧
    st.readTaken .panel 0x23 (fr 0x23 []) ∧ st.readTaken .panel 0x2A (fr 0x2A []) ∧
    st.readTaken .panel 0x2B (fr 0x2B []) := by decide +kernel

theorem witness_ReadsReturnTheState_next :
    (∃ t, exec (.readCurve .panel (fr 0x03 [4])) st = .next t) ∧ st.readTaken .panel 0x16 (fr 0x16 [1, 2]) ∧
    letterOf (byteAt (fr 0x16 [1, 2]).payload 1) = some .b ∧ st.readTaken .panel 0x1C (fr 0x1C [31, 1]) ∧
    byteAt (fr 0x1C [31, 1]).payload 0 + byteAt (fr 0x1C [31, 1]).payload 1 ≤ 32 ∧
    st.readTaken .panel 0x24 (fr 0x24 [64]) ∧ byteAt (fr 0x24 [64]).payload 0 ≤ 64 ∧
    st.readTaken .panel 0x25 (fr 0x25 [248, 8]) ∧
    byteAt (fr 0x25 [248, 8]).payload 0 + byteAt (fr 0x25 [248, 8]).payload 1 ≤ 256 :=
  ⟨⟨_, rfl⟩, by decide +kernel⟩

/-- A response READY, a request in flight with and without a busy note, and an idle slot. -/
theorem witness_ResponsesAndAttention :
    st.powered = true ∧ (st.port .station).inReset = false ∧ (st.port .station).slot = .idle ∧
    ((st.setSlot .station (.ready { status := .accepted, code := 1, counter := 1, data := [] })).port .station).slot =
      .ready { status := .accepted, code := 1, counter := 1, data := [] } ∧
    ((flying 0x06 st).port .station).slot = .inFlight 0x06 ∧ ((flying 0x06 st).port .station).busyNote = none ∧
    (((flying 0x06 st).noteBusy .station 0x01 true).port .station).busyNote = some 0x01 ∧
    st.controlTaken .station 0x2C (fr 0x2C [0xF0]) ∧ (fr 0x2C [0xF0]).payload.length = 1 := by decide +kernel

/-- A catalogue request, the codes 0 and 0x2E, and transfers of one and of five bytes. -/
theorem witness_RawFramesAreRequests :
    requestFrameOf (.setTime .station (fr 0x01 [])) = some (.station, fr 0x01 []) ∧
    requestCode (.setTime .station (fr 0x01 [])) = some 0x01 ∧ st.portFree .station ∧ (0x2D < (0x2E : Byte).toNat) ∧
    1 ≤ ([0x01] : List Byte).length ∧ ([0x01, 0, 0, 0, 0] : List Byte).length < 6 := by decide +kernel
end Sys2Proof.Tests
end

section
/-! SUPPORT. Records and flags that stand: what an append puts last in the log, what a later append leaves of it, and the
attention flags that later flags and records leave set. -/

namespace Sys2Proof.Machine

/-! ### Records (R172, R173) -/

/-- A record appended stands last. -/
theorem State.lastRecord_append (s : State) (f : Option Feeder) (b : RecordSource) (d : Details) :
    (s.append f b d).lastRecord f b s.stamp d :=
  ⟨if s.log.records.length < logCapacity then s.log.records else s.log.records.tail,
    by simp only [State.append_log, Log.appended, add_sub_cancel_right]⟩

theorem State.lastRecord_record (s : State) (f : Feeder) (b : Block) (d : Details) :
    (s.record f b d).lastRecord (some f) (.block b) s.stamp d := s.lastRecord_append _ _ _

/-- The record that stands last rests on the log alone. -/
theorem State.lastRecord_congr {s t : State} (h : t.log = s.log) {f : Option Feeder} {b : RecordSource} {now : Stamp}
    {d : Details} (k : s.lastRecord f b now d) : t.lastRecord f b now d := by
  simpa [State.lastRecord, h] using k

/-- An append drops the oldest record of a full log, and so not the one that stands last. -/
theorem Log.last_mem_appended {l : Log} {older : List LogRecord} {r : LogRecord} (h : l.records = older ++ [r])
    (t : Stamp) (f : Option Feeder) (b : RecordSource) (d : Details) : r ∈ (l.appended t f b d).records := by
  refine List.mem_append_left _ ?_
  split
  · simp [h]
  · next full =>
    obtain _ | ⟨x, rest⟩ := older
    · simp [h, logCapacity] at full
    · simp [h]

/-! ### Attention flags (R191, R193) -/

/-- A flag set stays set when another is set. -/
theorem PortState.hasFlag_setFlag {q : PortState} {fl : AttentionFlag} (h : q.hasFlag fl = true) (new : AttentionFlag) :
    (q.setFlag new).hasFlag fl = true := by
  unfold PortState.setFlag
  split
  · exact h
  · simp only [PortState.hasFlag, bne_iff_ne, ne_eq] at h ⊢
    refine fun zero => h ?_
    rw [BitVec.and_or_distrib_right] at zero
    exact (BitVec.or_eq_zero_iff.1 zero).1

theorem State.flagSet.setFlag {s : State} {fl : AttentionFlag} (h : s.flagSet fl) (new : AttentionFlag) :
    (s.setFlag new).flagSet fl := by
  intro p
  rw [State.setFlag_port, PortState.setFlag_inReset]
  exact (h p).imp_right fun k => PortState.hasFlag_setFlag k new

theorem State.flagSet.append {s : State} {fl : AttentionFlag} (h : s.flagSet fl) (f : Option Feeder) (b : RecordSource)
    (d : Details) : (s.append f b d).flagSet fl := by
  intro p
  simpa [PortState.hasFlag] using h p

/-- The flags rest on the ports alone. -/
theorem State.flagSet.congr {s t : State} {fl : AttentionFlag} (h : s.flagSet fl) (k : t.ports = s.ports) :
    t.flagSet fl := by
  intro p
  simpa [State.port, k] using h p

theorem State.flagSet.setHoldTable {s : State} {fl : AttentionFlag} (h : s.flagSet fl) (f : Feeder) (x : HoldTable) :
    (s.setHoldTable f x).flagSet fl := h

theorem State.flagSet.setHunt {s : State} {fl : AttentionFlag} (h : s.flagSet fl) (x : Hunt) :
    (s.setHunt x).flagSet fl := h

end Sys2Proof.Machine
end

section
/-! The frame receiver's transfers and distances (R2, R4 to R7), and SET-TIME (R12). -/

namespace Sys2Proof.Machine

/-! ### Rows -/

theorem exec_measurementFrame (bytes : List Byte) (s : State) :
    exec (.measurementFrame bytes) s = event s (fun s => s.measurementTransfer bytes) := rfl

theorem exec_frameWatchdogExpiry (f : Feeder) (s : State) :
    exec (.frameWatchdogExpiry f) s =
      event s (fun s => if timerDue s.ms (s.receiver f).watchdog then s.watchdogEnd f else s) := rfl

theorem exec_setTime (p : Port) (fr : Frame) (s : State) : exec (.setTime p fr) s = event s (reqSetTime p fr) := rfl

/-- An event whose effect is nothing. -/
theorem event_same {s : State} {g : State → State} (h : g s = s) : event s g = .next s := by
  simp [event, h]

/-! ### Transfers (R1, R2) -/

/-- A number names a feeder exactly when it is 1 to 4. -/
theorem feederOf_eq_none_iff (n : Nat) : feederOf n = none ↔ n < 1 ∨ 4 < n := by
  unfold feederOf
  split <;> simp_all
  omega

/-- What a transfer carries, of the right length, with a matching check code, and with the number of a feeder. -/
theorem measuredOf_some {bytes : List Byte} {f : Feeder} (length : bytes.length = 13)
    (check : crc16 (bytes.take 11) = BitVec.ofNat 16 (wordAt bytes 11)) (named : feederOf (byteAt bytes 0) = some f) :
    measuredOf bytes =
      some
        { feeder := f, sequence := bytes.getD 1 0
          sample := Sample.overranged
            { ia := wordAt bytes 2, ib := wordAt bytes 4, ic := wordAt bytes 6, i0 := wordAt bytes 8 }
            ((byteAt bytes 10).testBit 0)
          fault := (byteAt bytes 10).testBit 1 } := by
  simp [measuredOf, length, check, named]

/-- The fault of a transfer that is not discarded at the port is its FRONTEND_FAULT. -/
theorem measuredOf_fault {bytes : List Byte} {m : Measured} (h : measuredOf bytes = some m) :
    m.fault = (byteAt bytes 10).testBit 1 := by
  unfold measuredOf at h
  split at h
  · split at h
    · cases h; rfl
    · cases h
  · cases h

/-- A transfer of another length, with another check code or with no feeder's number carries nothing (R2). -/
theorem measuredOf_eq_none {bytes : List Byte}
    (h : bytes.length ≠ 13 ∨ crc16 (bytes.take 11) ≠ BitVec.ofNat 16 (wordAt bytes 11) ∨
      (byteAt bytes 0 < 1 ∨ 4 < byteAt bytes 0)) : measuredOf bytes = none := by
  unfold measuredOf
  split
  · next good =>
    obtain length | check | number := h
    · exact absurd good.1 length
    · exact absurd good.2 check
    · rw [(feederOf_eq_none_iff _).2 number]
  · rfl

theorem State.measurementTransfer_none {bytes : List Byte} (h : measuredOf bytes = none) (s : State) :
    s.measurementTransfer bytes = s := by simp [State.measurementTransfer, h]

theorem State.measurementTransfer_fault {bytes : List Byte} {m : Measured} (h : measuredOf bytes = some m)
    (k : m.fault = true) (s : State) : s.measurementTransfer bytes = s := by simp [State.measurementTransfer, h, k]

theorem State.measurementTransfer_accepted {bytes : List Byte} {m : Measured} (h : measuredOf bytes = some m)
    (k : m.fault = false) (s : State) : s.measurementTransfer bytes = s.acceptFrame m := by
  simp [State.measurementTransfer, h, k]

/-- An accepted frame in a powered part completes. -/
theorem exec_measurementFrame_accepted {bytes : List Byte} {m : Measured} {s : State} (powered : s.powered = true)
    (h : measuredOf bytes = some m) (k : m.fault = false) :
    exec (.measurementFrame bytes) s = .next (s.acceptFrame m) := by
  rw [exec_measurementFrame, event_powered _ _ powered, State.measurementTransfer_accepted h k]

/-- Settles O21: each form of R2's discard leaves the state, and a transfer in none of them is accepted. -/
theorem discardedFrameHasNoEffect : Obligations.DiscardedFrameHasNoEffect := by
  unfold Obligations.DiscardedFrameHasNoEffect
  refine fun bytes s => ⟨fun h => ?_, fun powered length check low high noFault => ?_⟩
  · rw [exec_measurementFrame]
    refine event_same ?_
    rcases carried : measuredOf bytes with _ | m
    · exact State.measurementTransfer_none carried s
    · refine State.measurementTransfer_fault carried ?_ s
      rw [measuredOf_fault carried]
      by_contra noFault
      have discarded : measuredOf bytes = none := measuredOf_eq_none (by tauto)
      rw [discarded] at carried
      cases carried
  · obtain ⟨f, named⟩ := Option.ne_none_iff_exists'.1
      (mt (feederOf_eq_none_iff (byteAt bytes 0)).1 (by omega))
    refine ⟨f, _, named, measuredOf_some length check named, by rw [noFault], ?_⟩
    exact exec_measurementFrame_accepted powered (measuredOf_some length check named) noFault

/-! ### Forward distances (R4 to R7) -/

theorem Receiver.samples_invalid {r : Receiver} (h : r.state ≠ .valid) (m : Measured) :
    r.samples m = (false, [m.sample]) := if_neg h

/-- The next frame in sequence (R4). -/
theorem Receiver.samples_next {r : Receiver} {m : Measured} (valid : r.state = .valid)
    (distance : m.sequence - r.last = 1) : r.samples m = (false, [m.sample]) := by
  simp [Receiver.samples, forwardDistance, valid, distance]

/-- One or two frames missing: the held values stand for each (R5). -/
theorem Receiver.samples_gap {r : Receiver} {m : Measured} {h : Sample} (valid : r.state = .valid)
    (held : r.held = some h) :
    (m.sequence - r.last = 2 → r.samples m = (false, [h, m.sample])) ∧
      (m.sequence - r.last = 3 → r.samples m = (false, [h, h, m.sample])) := by
  constructor <;> intro distance <;> simp [Receiver.samples, forwardDistance, valid, held, distance]

/-- A frame repeated or too far ahead is a discontinuity (R6). -/
theorem Receiver.samples_discontinuity {r : Receiver} {m : Measured} (valid : r.state = .valid)
    (distance : (m.sequence - r.last).toNat = 0 ∨ 4 ≤ (m.sequence - r.last).toNat) :
    r.samples m = (true, [m.sample]) := by
  unfold Receiver.samples forwardDistance
  rw [if_pos valid]
  dsimp only
  split
  · omega
  · omega
  · omega
  · rfl

/-- Settles O22, by the forward distance. -/
theorem forwardDistanceDecidesSamples : Obligations.ForwardDistanceDecidesSamples := by
  unfold Obligations.ForwardDistanceDecidesSamples
  refine fun r m => ⟨fun invalid => Receiver.samples_invalid invalid m, fun valid =>
    ⟨Receiver.samples_next valid, fun same => ?_, fun far => Receiver.samples_discontinuity valid (.inr far),
      fun h held => Receiver.samples_gap valid held⟩⟩
  exact Receiver.samples_discontinuity valid (.inl (by simp [same]))

/-! ### SET-TIME (R12) -/

theorem grantStationRemote_of_ne {p : Port} (h : p ≠ .panel) : grantStationRemote p = true := by
  cases p with
  | station => rfl
  | remote => rfl
  | panel => exact absurd rfl h

/-- SET-TIME that passes its ranks reaches its owner. -/
theorem exec_setTime_taken {p : Port} {fr : Frame} {s : State} (taken : s.controlTaken p 0x01 fr) (row : p ≠ .panel) :
    exec (.setTime p fr) s = .next ((s.controlInFlight p 0x01 fr).causedBy p (ownerSetTime p fr.payload)) := by
  obtain ⟨⟨⟨powered, _⟩, _⟩, _⟩ := id taken
  rw [exec_setTime, event_powered _ _ powered, reqSetTime,
    State.controlRequest_taken taken (grantStationRemote_of_ne row)]

/-- The part with its time of day replaced. -/
def State.withTime (s : State) (t : TimeOfDay) : State := { s with time := t, timeSet := true }

@[simp] theorem State.withTime_time (s : State) (t : TimeOfDay) : (s.withTime t).time = t := rfl
@[simp] theorem State.withTime_timeSet (s : State) (t : TimeOfDay) : (s.withTime t).timeSet = true := rfl
@[simp] theorem State.withTime_log (s : State) (t : TimeOfDay) : (s.withTime t).log = s.log := rfl
@[simp] theorem State.withTime_port (s : State) (t : TimeOfDay) (p : Port) : (s.withTime t).port p = s.port p := rfl
@[simp] theorem State.withTime_stamp (s : State) (t : TimeOfDay) :
    (s.withTime t).stamp = { time := t, timeSet := true } := rfl

/-- The owner of SET-TIME with a millisecond of the day in range: the time, the record of what stood, the answer. -/
theorem ownerSetTime_accepted (p : Port) {pl : List Byte} (s : State) (length : pl.length = 6)
    (inDay : longAt pl 2 < 86400000) :
    ownerSetTime p pl s =
      ((s.withTime { day := BitVec.ofNat 16 (wordAt pl 0), ms := longAt pl 2 }).append none (.port p)
        (.timeSet s.time s.timeSet)).reply p .accepted := if_pos ⟨length, inDay⟩

theorem ownerSetTime_refused (p : Port) {pl : List Byte} (s : State) (out : 86400000 ≤ longAt pl 2) :
    ownerSetTime p pl s = s.reply p .argument := if_neg fun h => absurd h.2 (not_lt.2 out)

/-- The owner of SET-TIME changes the clock, the log and the ports. -/
theorem ownerSetTime_within (p : Port) {pl : List Byte} (s : State) (length : pl.length = 6)
    (inDay : longAt pl 2 < 86400000) : s.Within [.clock, .log, .ports] none (ownerSetTime p pl s) := by
  rw [ownerSetTime_accepted p s length inDay]
  have clock : s.Within [.clock, .log, .ports] none
      (s.withTime { day := BitVec.ofNat 16 (wordAt pl 0), ms := longAt pl 2 }) :=
    ⟨fun x hx => by cases x <;> simp [State.agree, State.withTime] at hx ⊢, by simp⟩
  exact (clock.append (by simp) (by simp) _ _ _).reply (by simp) _ _

/-- A response READY at a port gives its status and data. -/
theorem State.answerAt_ready {s : State} {p : Port} {r : Response} (h : (s.port p).slot = .ready r) :
    s.answerAt p = some (r.status, r.data) := by simp [State.answerAt, State.responseAt, h]

/-- Settles O24: the owner's two branches, on the port with the request in flight. -/
theorem setTimeReplacesTimeOfDay : Obligations.SetTimeReplacesTimeOfDay := by
  unfold Obligations.SetTimeReplacesTimeOfDay
  intro p fr s taken row length
  rw [exec_setTime_taken taken row]
  obtain ⟨⟨free, _⟩, _⟩ := taken
  obtain ⟨_, _, orphan, _⟩ := id free
  generalize (0x01 : Byte) = code
  refine ⟨fun inDay => ⟨_, rfl, ?_⟩, fun out => ?_⟩
  · have accepted := ownerSetTime_accepted p (s.controlInFlight p code fr) length inDay
    have frame : s.Within [.clock, .log, .ports] none
        ((s.controlInFlight p code fr).causedBy p (ownerSetTime p fr.payload)) :=
      ((State.Within.refl s _ none).setPort (by simp) p _).trans
        ((ownerSetTime_within p _ length inDay).causedBy (by simp) p _)
    have record : (ownerSetTime p fr.payload (s.controlInFlight p code fr)).log =
        s.log.appended { time := (ownerSetTime p fr.payload (s.controlInFlight p code fr)).time, timeSet := true } none
          (.port p) (.timeSet s.time s.timeSet) := by simp [accepted]
    have port : (ownerSetTime p fr.payload (s.controlInFlight p code fr)).port p =
        (((s.controlInFlight p code fr).port p).appended s.log).answer .accepted [] := by simp [accepted]
    have response := PortState.answer_inFlight (((s.controlInFlight p code fr).port p).appended s.log) .accepted [] code
      (by simpa using orphan) (by simp)
    refine ⟨by simp [accepted], by simp [accepted], ?_, ?_, ?_, frame.parts⟩
    · refine State.lastRecord_congr ?_ (State.lastRecord_append { s with time := _, timeSet := true } _ _ _)
      rw [State.causedBy_log, record, State.controlInFlight_log, Log.ascribe_appended, State.append_log]
      rfl
    · exact State.answerAt_ready (congrArg PortState.slot (port.trans response))
    · simp [port]
  · have refused : ownerSetTime p fr.payload (s.controlInFlight p code fr) = s.controlAnswered p code fr .argument [] := by
      rw [ownerSetTime_refused p _ out, State.controlInFlight_reply free]
    rw [State.causedBy_same (by rw [refused]; rfl), refused]

end Sys2Proof.Machine
end

section
/-! The frame watchdog's expiry (R9): the loss of the measurement, and what a hunt on the feeder makes of it. -/

namespace Sys2Proof.Machine

/-! ### The end of a hunt (R169, R170) -/

/-- Removing the HUNT entry changes of the feeder's protection unit the freeze mark alone (R92). -/
theorem State.removeHunt_unit_self (s : State) (f : Feeder) :
    ∃ b, (s.removeHunt f).unit f = { s.unit f with base := { (s.unit f).base with frozen := b } } := by
  unfold State.removeHunt
  split
  · unfold State.takeOffHold
    dsimp only
    split
    · exact ⟨false, by simp [State.unpark, State.setFreeze, State.moveSequencer]⟩
    · exact ⟨_, by simp; rfl⟩
  · exact ⟨_, rfl⟩

theorem State.removeHunt_flagSet {s : State} {fl : AttentionFlag} (h : s.flagSet fl) (f : Feeder) :
    (s.removeHunt f).flagSet fl := by
  unfold State.removeHunt
  split
  · next e _ =>
    have removed : (((s.setHoldTable f { s.holdTable f with list := (s.holdTable f).list.erase e }).append (some f)
        (sourceOf none .holdTable) (.holdRemoved e .huntEnd none)).setFlag .holds).flagSet fl :=
      ((h.setHoldTable f _).append _ _ _).setFlag _
    unfold State.takeOffHold
    dsimp only
    split
    · exact removed.congr rfl
    · exact removed
  · exact h

/-- A withdrawal changes the bus alone. -/
theorem State.withdrawHunt_within (s : State) (f : Option Feeder) : s.Within [.bus] f s.withdrawHunt.1 :=
  (State.Within.refl s _ _).withdrawHunt (by simp)

theorem State.huntRelease_ports (s : State) (f : Feeder) : (s.huntRelease f).ports = s.ports := by
  have ports : s.withdrawHunt.1.ports = s.ports := (s.withdrawHunt_within none).parts .ports (by simp)
  unfold State.huntRelease
  dsimp only
  split <;> exact ports

theorem State.huntRelease_unit_self (s : State) (f : Feeder) :
    (s.huntRelease f).unit f = { s.unit f with window := none } := by
  have units : s.withdrawHunt.1.protection = s.protection := (s.withdrawHunt_within none).parts .protection (by simp)
  have unit : s.withdrawHunt.1.unit f = s.unit f := by simp [State.unit, units]
  unfold State.huntRelease
  dsimp only
  split <;> simp [State.cancelWindow, unit]

/-- The end of a hunt changes of the feeder's protection unit the window and the freeze mark alone. -/
theorem State.huntFinish_unit_self (s : State) (f : Feeder) (r : EndReason) (d : EndDetail) :
    ∃ b, (s.huntFinish f r d).unit f =
      { s.unit f with window := none, base := { (s.unit f).base with frozen := b } } := by
  obtain ⟨b, unit⟩ := (s.huntRelease f).removeHunt_unit_self f
  refine ⟨b, ?_⟩
  rw [State.huntRelease_unit_self] at unit
  simpa [State.huntFinish] using unit

theorem State.huntFinish_hunt (s : State) (f : Feeder) (r : EndReason) (d : EndDetail) :
    (s.huntFinish f r d).hunt.state = .done ∧ (s.huntFinish f r d).hunt.result.map HuntResult.reason = some r := by
  simp [State.huntFinish, Hunt.done, State.huntResult]

/-- The end of a hunt leaves every flag set that was set. -/
theorem State.huntFinish_flagSet {s : State} {fl : AttentionFlag} (h : s.flagSet fl) (f : Feeder) (r : EndReason)
    (d : EndDetail) : (s.huntFinish f r d).flagSet fl :=
  (((State.removeHunt_flagSet (h.congr (s.huntRelease_ports f)) f).setHunt _).append _ _ _).setFlag _

/-! ### What a hunt makes of the loss (R167, R168) -/

theorem State.huntMeasurementLost_alive {s : State} {f : Feeder} (on : s.hunt.feeder = some f)
    (h : s.hunt.state = .running ∨ s.hunt.state = .paused) :
    s.huntMeasurementLost f = s.huntFinish f .measurement .none := by
  rcases h with h | h <;> simp [State.huntMeasurementLost, State.huntAlive, State.huntIs, on, h]

theorem State.huntMeasurementLost_stopping {s : State} {f : Feeder} (on : s.hunt.feeder = some f)
    (h : s.hunt.state = .stopping) :
    s.huntMeasurementLost f = s.setHunt { s.hunt with notes := { s.hunt.notes with measurementLoss := true } } := by
  simp [State.huntMeasurementLost, State.huntNote, State.huntIs, on, h]

/-- The three ways of the loss: noted, the end of the hunt, or nothing. -/
theorem State.huntMeasurementLost_cases (s : State) (f : Feeder) :
    s.huntMeasurementLost f = s ∨
      s.huntMeasurementLost f = s.huntFinish f .measurement .none ∨
      s.huntMeasurementLost f = s.setHunt { s.hunt with notes := { s.hunt.notes with measurementLoss := true } } := by
  unfold State.huntMeasurementLost
  split
  · exact .inr (.inr rfl)
  · split
    · exact .inr (.inl rfl)
    · exact .inl rfl

/-! ### The loss (R9, R22, R43) -/

/-- The loss of the measurement before a hunt is told: the receiver LOST, the protection unit cleared, record and flag. -/
def State.lossRecorded (s : State) (f : Feeder) : State :=
  (((s.setReceiver f { s.receiver f with state := .lost, watchdog := none }).setUnit f (s.unit f).clearLost).record f
    .frameReceiver (.measurementLost (s.receiver f).last)).setFlag .measurement

theorem State.watchdogEnd_eq (s : State) (f : Feeder) :
    s.watchdogEnd f = (s.lossRecorded f).huntMeasurementLost f := rfl

theorem State.lossRecorded_within (s : State) (f : Feeder) :
    s.Within [.receivers, .protection, .log, .ports] (some f) (s.lossRecorded f) :=
  ((((State.Within.refl s _ _).setReceiver (by simp) (by simp) _).setUnit (by simp) (by simp) _).record (by simp)
    (by simp) _ _ _).setFlag (by simp) _

@[simp] theorem State.lossRecorded_receiver_self (s : State) (f : Feeder) :
    (s.lossRecorded f).receiver f = { s.receiver f with state := .lost, watchdog := none } := by
  simp [State.lossRecorded, State.receiver]

@[simp] theorem State.lossRecorded_unit_self (s : State) (f : Feeder) :
    (s.lossRecorded f).unit f = (s.unit f).clearLost := by simp [State.lossRecorded]

@[simp] theorem State.lossRecorded_hunt (s : State) (f : Feeder) : (s.lossRecorded f).hunt = s.hunt := by
  simp [State.lossRecorded]

theorem State.lossRecorded_flagSet (s : State) (f : Feeder) : (s.lossRecorded f).flagSet .measurement :=
  State.flagSet_setFlag _ _

theorem State.lossRecorded_lastRecord (s : State) (f : Feeder) :
    (s.lossRecorded f).lastRecord (some f) (.block .frameReceiver) s.stamp (.measurementLost (s.receiver f).last) :=
  State.lastRecord_record ((s.setReceiver f _).setUnit f _) f _ _

/-- What the loss leaves whatever a hunt makes of it: the receiver, the cleared unit but for window and freeze mark, the flag,
and the parts that a hunt's end moves. -/
theorem State.watchdogEnd_common (s : State) (f : Feeder) :
    (s.watchdogEnd f).receiver f = { s.receiver f with state := .lost, watchdog := none } ∧
      s.Within [.receivers, .protection, .sequencers, .holds, .bus, .hunt, .log, .ports] (some f) (s.watchdogEnd f) ∧
      (∃ w b, (s.watchdogEnd f).unit f =
        { (s.unit f).clearLost with window := w, base := { (s.unit f).clearLost.base with frozen := b } }) ∧
      (s.watchdogEnd f).flagSet .measurement := by
  have loss : s.Within [.receivers, .protection, .sequencers, .holds, .bus, .hunt, .log, .ports] (some f)
      (s.lossRecorded f) :=
    ⟨State.changesOnly_mono (s.lossRecorded_within f).parts (by simp), (s.lossRecorded_within f).2⟩
  have flag := s.lossRecorded_flagSet f
  rw [State.watchdogEnd_eq]
  obtain same | ended | noted := (s.lossRecorded f).huntMeasurementLost_cases f
  · rw [same]
    exact ⟨by simp, loss, ⟨_, _, s.lossRecorded_unit_self f⟩, flag⟩
  · rw [ended]
    have frame : (s.lossRecorded f).Within [.protection, .sequencers, .holds, .bus, .hunt, .log, .ports] (some f)
        ((s.lossRecorded f).huntFinish f .measurement .none) :=
      (State.Within.refl _ _ _).huntFinish (by simp) (by simp) (by simp) (by simp) (by simp) (by simp) (by simp)
        (by simp) _ _
    have receivers := frame.parts .receivers (by simp)
    obtain ⟨b, unit⟩ := (s.lossRecorded f).huntFinish_unit_self f .measurement .none
    refine ⟨?_, loss.trans ⟨State.changesOnly_mono frame.parts (by simp), frame.2⟩, ⟨none, b, ?_⟩,
      State.huntFinish_flagSet flag f _ _⟩
    · exact (congrArg (feederGet · f) receivers).trans (s.lossRecorded_receiver_self f)
    · rw [unit, State.lossRecorded_unit_self]
  · rw [noted]
    exact ⟨by simp, loss.setHunt (by simp) _, ⟨_, _, s.lossRecorded_unit_self f⟩, flag.congr rfl⟩

/-- Settles O23: the loss first, then the three ways a hunt takes it. -/
theorem watchdogExpiryLosesMeasurement : Obligations.WatchdogExpiryLosesMeasurement := by
  unfold Obligations.WatchdogExpiryLosesMeasurement
  refine fun f s powered => ⟨fun notDue => ?_, fun due => ⟨s.watchdogEnd f, ?_, ?_⟩⟩
  · rw [exec_frameWatchdogExpiry]
    exact event_same (by simp [notDue])
  · rw [exec_frameWatchdogExpiry, event_powered _ _ powered]
    simp [due]
  obtain ⟨receiver, frame, ⟨w, b, unit⟩, flag⟩ := s.watchdogEnd_common f
  have loss := (s.lossRecorded_within f).parts
  have record := s.lossRecorded_lastRecord f
  refine ⟨receiver, frame.feeder, frame.parts, ?_, ?_, ?_, ?_, ?_, ?_, ?_, flag, fun off => ?_, fun on alive => ?_,
    fun on stopping => ?_⟩
  iterate 7 (rw [unit]; rfl)
  · rw [State.watchdogEnd_eq, State.huntMeasurementLost_off (by simpa [State.huntOn] using off)]
    exact ⟨loss, by rw [State.lossRecorded_unit_self]; rfl, record⟩
  · rw [State.watchdogEnd_eq, State.huntMeasurementLost_alive (by simpa using on) (by simpa using alive)]
    exact State.huntFinish_hunt _ _ _ _
  · rw [State.watchdogEnd_eq, State.huntMeasurementLost_stopping (by simpa using on) (by simpa using stopping)]
    refine ⟨by simp, ?_, record⟩
    have wider : s.Within [.receivers, .protection, .hunt, .log, .ports] none (s.lossRecorded f) :=
      ⟨State.changesOnly_mono loss (by simp), by simp⟩
    exact (wider.setHunt (by simp) _).parts

end Sys2Proof.Machine
end

section
/-! SUPPORT. What the hunt engine and the breaker interface of a feeder leave alone, whatever a trip or a window makes them do:
the receivers, the clock, the key, the fire requests, the image, and every other feeder's protection unit. No law of the
state is needed for it, as for the frames of Laws/Blocks.lean. -/

namespace Sys2Proof.Machine

/-! ### The relation -/

/-- From s to t the receivers, the time, the key, the fire requests and the image stand, and so does every protection unit
but one feeder's. -/
structure State.Spares (s : State) (f : Feeder) (t : State) : Prop where
  receivers : t.receivers = s.receivers
  ms : t.ms = s.ms
  time : t.time = s.time
  timeSet : t.timeSet = s.timeSet
  key : t.key = s.key
  requests : t.fire.requests = s.fire.requests
  image : t.image = s.image
  units : ∀ g, g ≠ f → t.unit g = s.unit g

/-- The parts that a trip or a hunt moves. -/
def tripParts : List Part := [.breakers, .sequencers, .holds, .bus, .hunt, .log, .store, .ports]

theorem State.Spares.refl (s : State) (f : Feeder) : s.Spares f s :=
  ⟨rfl, rfl, rfl, rfl, rfl, rfl, rfl, fun _ _ => rfl⟩

theorem State.Spares.trans {s t u : State} {f : Feeder} (h : s.Spares f t) (k : t.Spares f u) : s.Spares f u where
  receivers := k.receivers.trans h.receivers
  ms := k.ms.trans h.ms
  time := k.time.trans h.time
  timeSet := k.timeSet.trans h.timeSet
  key := k.key.trans h.key
  requests := k.requests.trans h.requests
  image := k.image.trans h.image
  units g other := (k.units g other).trans (h.units g other)

/-- A change of those parts and the protection units that leaves the other feeders' units. -/
theorem State.Spares.of_changesOnly {s t : State} {f : Feeder} (h : s.changesOnly (.protection :: tripParts) t)
    (units : ∀ g, g ≠ f → t.unit g = s.unit g) : s.Spares f t where
  receivers := h .receivers (by decide)
  ms := h .milliseconds (by decide)
  time := (h .clock (by decide)).1
  timeSet := (h .clock (by decide)).2
  key := h .key (by decide)
  requests := congrArg FireController.requests (h .fire (by decide))
  image := h .image (by decide)
  units := units

variable {s t u : State} {f g : Feeder}

/-- An operation on the feeder's own blocks. -/
theorem State.Spares.within (h : s.Spares f t) (k : t.Within (.protection :: tripParts) (some f) u) : s.Spares f u :=
  h.trans (.of_changesOnly k.parts fun g other => (k.feeder g other).2.1)

/-- An operation on any feeder's blocks but the protection units. -/
theorem State.Spares.unprotected (h : s.Spares f t) (k : t.Within tripParts none u) : s.Spares f u := by
  have units : u.protection = t.protection := k.parts .protection (by decide)
  exact h.trans (.of_changesOnly (State.changesOnly_mono k.parts fun x => List.mem_cons_of_mem _)
    fun g _ => by simp [State.unit, units])

/-! ### Updates -/

theorem State.Spares.setUnit (h : s.Spares f t) (x : Protection) : s.Spares f (t.setUnit f x) :=
  h.within ((State.Within.refl _ _ _).setUnit (by decide) (by simp) x)

theorem State.Spares.setBreaker (h : s.Spares f t) (x : Breaker) : s.Spares f (t.setBreaker g x) :=
  h.unprotected ((State.Within.refl _ _ _).setBreaker (by decide) (by simp) x)

theorem State.Spares.setSequencer (h : s.Spares f t) (x : Sequencer) : s.Spares f (t.setSequencer g x) :=
  h.unprotected ((State.Within.refl _ _ _).setSequencer (by decide) (by simp) x)

theorem State.Spares.setHoldTable (h : s.Spares f t) (x : HoldTable) : s.Spares f (t.setHoldTable g x) :=
  h.unprotected ((State.Within.refl _ _ _).setHoldTable (by decide) (by simp) x)

theorem State.Spares.setHunt (h : s.Spares f t) (x : Hunt) : s.Spares f (t.setHunt x) :=
  h.unprotected ((State.Within.refl _ _ _).setHunt (by decide) x)

theorem State.Spares.setBus (h : s.Spares f t) (x : Bus) : s.Spares f (t.setBus x) :=
  h.unprotected ((State.Within.refl _ _ _).setBus (by decide) x)

theorem State.Spares.setStore (h : s.Spares f t) (x : Store) : s.Spares f (t.setStore x) :=
  h.unprotected ((State.Within.refl _ _ _).setStore (by decide) x)

theorem State.Spares.append (h : s.Spares f t) (x : Option Feeder) (b : RecordSource) (d : Details) :
    s.Spares f (t.append x b d) :=
  h.unprotected ((State.Within.refl _ _ _).append (by decide) (by decide) x b d)

theorem State.Spares.record (h : s.Spares f t) (x : Feeder) (b : Block) (d : Details) : s.Spares f (t.record x b d) :=
  h.append _ _ _

theorem State.Spares.setFlag (h : s.Spares f t) (fl : AttentionFlag) : s.Spares f (t.setFlag fl) :=
  h.unprotected ((State.Within.refl _ _ _).setFlag (by decide) fl)

theorem State.Spares.reply (h : s.Spares f t) (p : Port) (st : Status) : s.Spares f (t.reply p st) :=
  h.unprotected ((State.Within.refl _ _ _).reply (by decide) p st)

/-- What happens because of a request spares what it does. -/
theorem State.Spares.causedBy (p : Port) (op : State → State) (h : s.Spares f (op t)) : s.Spares f (t.causedBy p op) :=
  ⟨h.receivers, h.ms, h.time, h.timeSet, h.key, h.requests, h.image, h.units⟩

/-! ### Store and hold lists (R92, R101, R104, R178) -/

theorem State.Spares.setPendingMark (h : s.Spares f t) (o : RetentionOwner) (m : Bool) :
    s.Spares f (t.setPendingMark o m) := by
  cases o with
  | holds k => exact h.setHoldTable _
  | fireRequests => exact ⟨h.receivers, h.ms, h.time, h.timeSet, h.key, h.requests, h.image, h.units⟩
  | isolation => exact h.setBus _

theorem State.Spares.beginHead (h : s.Spares f t) : s.Spares f t.beginHead := by
  unfold State.beginHead
  split
  · exact h
  split
  · exact h
  split
  · exact h.setStore _
  · exact (h.setStore _).setPendingMark _ _

theorem State.Spares.requestRetention (h : s.Spares f t) (o : RetentionOwner) : s.Spares f (t.requestRetention o) := by
  unfold State.requestRetention
  split
  · exact h
  split
  · exact h
  · exact ((h.setPendingMark o true).setStore _).beginHead

theorem State.Spares.sequencerPlacement (h : s.Spares f t) : s.Spares f (t.sequencerPlacement g) :=
  h.unprotected ((State.Within.refl _ _ _).sequencerPlacement (by decide) (by decide) (by decide) (by simp))

/-- A placement other than HUNT. -/
theorem State.Spares.placed (h : s.Spares f t) (e : Hold) (ne : e.owner ≠ .hunt) (r : Bool) (p : Option Port)
    (a : Option Feeder) : s.Spares f (t.placed g e r p a) := by
  unfold State.placed
  dsimp only
  rw [if_neg ne]
  split
  · exact (((h.append _ _ _).setFlag _).sequencerPlacement).requestRetention _
  · exact ((h.append _ _ _).setFlag _).sequencerPlacement

theorem State.Spares.placePatrolOn (h : s.Spares f t) (a k : Feeder) : s.Spares f (t.placePatrolOn a k) := by
  unfold State.placePatrolOn State.placeAutomatic
  split
  · exact h
  · have ne : (t.automaticHold .patrol .all 0).owner ≠ .hunt := by simp [State.automaticHold]
    exact (h.setHoldTable _).placed _ ne _ _ _

/-- An operation folded over a list. -/
theorem State.Spares.foldl {α : Type} {op : State → α → State}
    (step : ∀ {u : State}, s.Spares f u → ∀ x, s.Spares f (op u x)) (h : s.Spares f t) (l : List α) :
    s.Spares f (l.foldl op t) := by
  induction l generalizing t with
  | nil => exact h
  | cons x rest ih => exact ih (step h x)

theorem State.Spares.placePatrol (h : s.Spares f t) (a : Feeder) : s.Spares f (t.placePatrol a) :=
  State.Spares.foldl (fun k x => k.placePatrolOn a x) (h.placePatrolOn a a) _

theorem State.Spares.setIsolated (h : s.Spares f t) (a : Nat) (v : Bool) : s.Spares f (t.setIsolated a v) := by
  unfold State.setIsolated
  split
  · exact h
  · exact ((h.setBus _).setFlag _).requestRetention _

/-! ### Sequencer and breaker interface (R53 to R55, R69 to R71, R79) -/

theorem State.Spares.tripRequest (h : s.Spares f t) (r : TripRequest) : s.Spares f (t.tripRequest f r).1 :=
  h.unprotected ((State.Within.refl _ _ _).tripRequest (by decide) (by simp) r)

theorem State.Spares.closeRequest (h : s.Spares f t) (p : ClosePurpose) (r : Requester) :
    s.Spares f (t.closeRequest f p r).1 :=
  h.unprotected ((State.Within.refl _ _ _).closeRequest (by decide) (by simp) p r)

theorem State.Spares.seqCut (h : s.Spares f t) (p : ClosePurpose) : s.Spares f (t.seqCut f p) :=
  h.unprotected ((State.Within.refl _ _ _).seqCut (by decide) (by simp) p)

theorem State.Spares.tellCut (h : s.Spares f t) (op : CloseOp) : s.Spares f (t.tellCut f op) :=
  h.unprotected ((State.Within.refl _ _ _).tellCut (by decide) (by decide) (by simp) op)

theorem State.Spares.seqBreakerFail (h : s.Spares f t) : s.Spares f (t.seqBreakerFail f) :=
  h.unprotected ((State.Within.refl _ _ _).seqBreakerFail (by decide) (by simp))

theorem State.Spares.decideReclose (h : s.Spares f t) : s.Spares f (t.decideReclose f) :=
  h.unprotected ((State.Within.refl _ _ _).decideReclose (by decide) (by decide) (by decide) (by simp))

theorem State.Spares.protectionReport (h : s.Spares f t) (c : Cause) : s.Spares f (t.protectionReport f c) :=
  h.unprotected ((State.Within.refl _ _ _).protectionReport (by decide) (by simp) c)

theorem State.Spares.confirmTrip (h : s.Spares f t) : s.Spares f (t.confirmTrip f) := by
  have patrol : s.Spares f (t.patrolIfDue f) := by
    unfold State.patrolIfDue
    split
    · exact h.placePatrol f
    · exact h
  unfold State.confirmTrip
  dsimp only
  split
  · exact patrol.setSequencer _
  · exact patrol.decideReclose

theorem State.Spares.seqAlreadyOpen (h : s.Spares f t) (b : Bool) (c : Option Cause) :
    s.Spares f (t.seqAlreadyOpen f b c) := by
  unfold State.seqAlreadyOpen
  dsimp only
  split
  · exact h
  split
  · exact (h.setSequencer _).confirmTrip
  split
  · exact (h.setSequencer _).confirmTrip
  · exact h

/-! ### The end of a hunt and the choice of a block (R162 to R166, R169) -/

theorem State.Spares.cancelWindow (h : s.Spares f t) : s.Spares f (t.cancelWindow f) := h.setUnit _

theorem State.Spares.huntFinish (h : s.Spares f t) (r : EndReason) (d : EndDetail) : s.Spares f (t.huntFinish f r d) :=
  h.within ((State.Within.refl _ _ _).huntFinish (by decide) (by decide) (by decide) (by decide) (by decide) (by decide)
    (by decide) (by simp) r d)

theorem State.Spares.huntAborted (h : s.Spares f t) : s.Spares f (t.huntAborted f) := by
  unfold State.huntAborted
  split
  · exact .causedBy _ _ (h.huntFinish _ _)
  · exact h.huntFinish _ _

theorem State.Spares.traceBlock (h : s.Spares f t) (o : BlockOutcome) (b : Bool) : s.Spares f (t.traceBlock f o b) :=
  h.unprotected ((State.Within.refl _ _ _).traceBlock (by decide) (by decide) (by decide) f o b)

theorem State.Spares.closePause (h : s.Spares f t) (r : PauseReason) : s.Spares f (t.closePause f r) :=
  h.unprotected ((State.Within.refl _ _ _).closePause (by decide) (by decide) (by decide) f r)

theorem State.Spares.proceed (h : s.Spares f t) (b : Nat) : s.Spares f (t.proceed b).1 := by
  unfold State.proceed
  split
  · exact h.setHunt _
  · exact h

theorem State.Spares.takeDetour (h : s.Spares f t) (n : Nat) : s.Spares f (t.takeDetour f n).1 := by
  unfold State.takeDetour
  dsimp only
  split
  · exact (h.setHunt _).huntFinish _ _
  · exact ((h.setHunt _).setHunt _).proceed _

theorem State.Spares.chooseNext (h : s.Spares f t) (n : Nat) : s.Spares f (t.chooseNext f n).1 := by
  unfold State.chooseNext
  dsimp only
  split
  · exact h.takeDetour n
  split
  · exact (h.setHunt _).proceed _
  split
  · exact h.huntFinish _ _
  · exact h.proceed n

theorem State.Spares.completeBlock (h : s.Spares f t) (o : BlockOutcome) (b : Bool) :
    s.Spares f (t.completeBlock f o b).1 := (h.traceBlock o b).chooseNext _

theorem State.Spares.detourBlock (h : s.Spares f t) : s.Spares f (t.detourBlock f).1 :=
  (h.cancelWindow.setHunt _).completeBlock _ _

/-! ### Unit and breaker operations of the engine (R157, R158, R160) -/

theorem State.Spares.huntOffer (h : s.Spares f t) (k : UnitCommandKind) : s.Spares f (t.huntOffer f k).1 := by
  have offered : s.Spares f (t.offerHunt f t.currentBlock.unit k).1 :=
    h.unprotected ((State.Within.refl _ _ _).offerHunt (by decide) f _ k)
  unfold State.huntOffer
  dsimp only
  split
  · exact offered.setHunt _
  · exact offered
  · exact offered

theorem State.Spares.huntTrip (h : s.Spares f t) : s.Spares f (t.huntTrip f).1 := by
  unfold State.huntTrip
  dsimp only
  split
  · exact (h.tripRequest _).tellCut _
  · exact h.tripRequest _

theorem State.Spares.huntTripFailed (h : s.Spares f t) : s.Spares f (t.huntTripFailed f).1 :=
  (h.huntFinish _ _).seqBreakerFail

theorem State.Spares.awaitTrip (h : s.Spares f t) : s.Spares f t.awaitTrip.1 := h.setHunt _

theorem State.Spares.huntSecure (h : s.Spares f t) : s.Spares f (t.huntSecure f).1 := by
  have securing := h.setHunt { t.hunt with phase := .securing, awaiting := .nothing }
  unfold State.huntSecure
  dsimp only
  split
  · split
    · exact securing.completeBlock _ _
    split
    · exact securing.huntOffer _
    · exact (securing.huntOffer _).huntFinish _ _
  split
  · exact securing.completeBlock _ _
  split
  · exact securing.huntTrip.awaitTrip
  · exact securing.huntTrip.awaitTrip
  · exact securing.huntTrip.awaitTrip
  · exact securing.huntTrip.completeBlock _ _
  · exact securing.huntTrip.huntTripFailed

theorem State.Spares.testDecided (h : s.Spares f t) (b : Bool) : s.Spares f (t.testDecided f b).1 := by
  unfold State.testDecided
  split
  · exact h.huntSecure
  · exact h.completeBlock _ _

/-! ### Observation (R159, R160) -/

theorem State.Spares.openWindow (h : s.Spares f t) : s.Spares f (t.openWindow f) := (h.setHunt _).setUnit _

theorem State.Spares.countWindow (h : s.Spares f t) (n : Nat) : s.Spares f (t.countWindow n) := h.setHunt _

theorem State.Spares.huntObserve (n : Nat) (h : s.Spares f t) : s.Spares f (huntObserve f n t).1 := by
  induction n generalizing t with
  | zero => exact h.testDecided _
  | succ n ih =>
    unfold Machine.huntObserve
    dsimp only
    split
    · split
      · exact (h.countWindow 0).testDecided _
      · exact ih (h.countWindow 0)
    · exact h.openWindow

theorem State.Spares.windowClosed (h : s.Spares f t) (w : WindowReport) : s.Spares f (t.windowClosed f w).1 := by
  unfold State.windowClosed
  dsimp only
  split
  · exact (h.countWindow _).testDecided _
  · exact (h.countWindow _).huntObserve _

/-! ### Acting (R156 to R158, R161, R165) -/

theorem State.Spares.actionEnded (h : s.Spares f t) (o : BlockOutcome) : s.Spares f (t.actionEnded f o).1 := by
  unfold State.actionEnded
  dsimp only
  split
  · exact (h.setHunt _).detourBlock
  · exact (h.setHunt _).huntObserve _

theorem State.Spares.unitFailed (h : s.Spares f t) (c : FailCode) : s.Spares f (t.unitFailed f c).1 := by
  unfold State.unitFailed
  dsimp only
  split
  · split
    · exact (h.setHunt _).detourBlock
    · exact (h.setHunt _).testDecided _
  · exact (h.setHunt _).huntFinish _ _

theorem State.Spares.actUnit (h : s.Spares f t) (k : UnitCommandKind) : s.Spares f (t.actUnit f k).1 := by
  unfold State.actUnit
  dsimp only
  split
  · exact h.unitFailed _
  split
  · exact h.huntOffer k
  · exact (h.huntOffer k).unitFailed _

theorem State.Spares.actOpenBreaker (h : s.Spares f t) : s.Spares f (t.actOpenBreaker f).1 := by
  unfold State.actOpenBreaker
  dsimp only
  split
  · exact h.huntTrip.awaitTrip
  · exact h.huntTrip.awaitTrip
  · exact h.huntTrip.awaitTrip
  · exact h.huntTrip.actionEnded _
  · exact h.huntTrip.huntTripFailed

theorem State.Spares.huntRefused (h : s.Spares f t) (r : CloseRefusal) : s.Spares f (t.huntRefused f r).1 := by
  cases r with
  | notOpen => exact h.actionEnded _
  | barred => exact h.closePause _
  | busy =>
    unfold State.huntRefused
    dsimp only
    split
    · exact h.actionEnded _
    · exact h.huntFinish _ _

theorem State.Spares.huntCloseTaken (h : s.Spares f t) (c : CloseTaken) : s.Spares f (t.huntCloseTaken f c).1 := by
  obtain same | ⟨_, _, ⟨_, granted⟩ | ⟨r, _, _, ⟨_, refused⟩ | ⟨_, aborted⟩⟩⟩ := t.huntCloseTaken_cases f c
  · rw [same]; exact h
  · rw [granted]; exact h.setHunt _
  · rw [refused]; exact h.huntRefused r
  · rw [aborted]; exact h.huntAborted

theorem State.Spares.actCloseBreaker (h : s.Spares f t) : s.Spares f (t.actCloseBreaker f).1 := by
  have sent : s.Spares f (t.sendHuntClose f) := (h.setHunt _).setBreaker _
  unfold State.actCloseBreaker
  split
  · exact h.actionEnded _
  split
  · exact ((sent.setBreaker _).closeRequest _ _).huntCloseTaken _
  · exact sent

theorem State.Spares.actClose (h : s.Spares f t) : s.Spares f (t.actClose f).1 := by
  unfold State.actClose
  split
  · exact h.actUnit _
  · exact h.actUnit _
  · exact h.actCloseBreaker

theorem State.Spares.markUnit (h : s.Spares f t) : s.Spares f (t.markUnit f) := by
  unfold State.markUnit
  dsimp only
  split
  · exact h
  split
  · exact h.setIsolated _ _
  · exact (h.setHunt _).setIsolated _ _

theorem State.Spares.huntReturn (h : s.Spares f t) : s.Spares f (t.huntReturn f).1 := by
  unfold State.huntReturn
  dsimp only
  split
  · exact (h.traceBlock _ _).huntFinish _ _
  · exact ((h.traceBlock _ _).setHunt _).chooseNext _

theorem State.Spares.beginBlock (h : s.Spares f t) (b : Nat) : s.Spares f (t.beginBlock f b).1 := by
  have entered := h.setHunt (t.hunt.enterBlock b)
  unfold State.beginBlock
  dsimp only
  split
  · exact (entered.traceBlock _ _).huntFinish _ _
  · exact entered.huntReturn
  · exact entered.markUnit.completeBlock _ _
  · exact entered.huntObserve _
  · exact entered.actUnit _
  · exact entered.actOpenBreaker
  split
  · exact entered.closePause _
  · exact entered.actClose

theorem State.Spares.huntChain (n : Nat) {go : Go} (h : s.Spares f go.1) : s.Spares f (huntChain f n go) := by
  induction n generalizing go with
  | zero =>
    obtain ⟨t, _ | b⟩ := go
    · exact h
    · exact h.huntFinish _ _
  | succ n ih =>
    obtain ⟨t, _ | b⟩ := go
    · exact h
    · exact ih (h.beginBlock b)

theorem State.Spares.huntRun {go : Go} (h : s.Spares f go.1) : s.Spares f (State.huntRun go f) := h.huntChain _

/-! ### What the engine is told (R158, R159, R163, R167) -/

theorem State.Spares.tripRunning (h : s.Spares f t) : s.Spares f (t.tripRunning f) := by
  unfold State.tripRunning
  dsimp only
  split
  · split
    · exact h.setHunt _
    · exact h.detourBlock.huntRun
  · exact h.setHunt _
  split
  · exact h
  split
  · split
    · exact ((h.setHunt _).actionEnded _).huntRun
    · exact ((h.setHunt _).actionEnded _).huntRun
  · split
    · exact h.setHunt _
    · exact h.setHunt _

theorem State.Spares.tripPaused (h : s.Spares f t) : s.Spares f (t.tripPaused f) := by
  unfold State.tripPaused
  dsimp only
  split
  · exact h.huntFinish _ _
  split
  · exact h.setHunt _
  · exact State.Spares.huntRun (h.setHunt _)

theorem State.Spares.huntTripReport (h : s.Spares f t) : s.Spares f (t.huntTripReport f) := by
  unfold State.huntTripReport State.huntTripTaken
  split
  · exact h.setHunt _
  split
  · exact h.tripRunning
  split
  · exact h.tripPaused
  · exact h

theorem State.Spares.huntBreakerFail (h : s.Spares f t) : s.Spares f (t.huntBreakerFail f) := by
  unfold State.huntBreakerFail
  split
  · exact h.setHunt _
  split
  · exact h.huntFinish _ _
  · exact h

theorem State.Spares.huntCloseCut (h : s.Spares f t) : s.Spares f (t.huntCloseCut f) := by
  unfold State.huntCloseCut
  split
  · exact h
  split
  · exact h.huntAborted
  split
  · split
    · exact (h.actionEnded _).huntRun
    · exact h.setHunt _
  · exact h

theorem State.Spares.huntWindowReport (h : s.Spares f t) (w : WindowReport) : s.Spares f (t.huntWindowReport f w) := by
  unfold State.huntWindowReport
  split
  · exact (h.windowClosed w).huntRun
  · exact h

/-! ### A trip of the protection unit (R25, R26, R54, R55, R79) -/

theorem State.Spares.closeCut (h : s.Spares f t) (op : CloseOp) : s.Spares f (t.closeCut f op) := by
  unfold State.closeCut
  split
  · exact h.huntCloseCut.seqCut _
  · exact h.tellCut op

theorem State.Spares.passTrip (h : s.Spares f t) (p : Port) : s.Spares f (t.passTrip f p) := by
  unfold State.passTrip
  dsimp only
  split
  · exact h.tripRequest _
  · exact h.tripRequest _
  · exact (h.tripRequest _).closeCut _
  · exact ((h.tripRequest _).reply _ _).seqAlreadyOpen _ _
  · exact ((h.tripRequest _).reply _ _).huntBreakerFail.seqBreakerFail

theorem State.Spares.failSequencer (h : s.Spares f t) : s.Spares f (t.failSequencer f) := by
  unfold State.failSequencer
  split
  · exact h
  · exact State.Spares.foldl (fun k p => k.passTrip p) h.seqBreakerFail _

theorem State.Spares.protectionTrip (h : s.Spares f t) (c : Cause) : s.Spares f (t.protectionTrip f c) := by
  have told : ∀ {u}, s.Spares f u → s.Spares f ((u.protectionReport f c).huntTripReport f) :=
    fun k => (k.protectionReport c).huntTripReport
  unfold State.protectionTrip
  dsimp only
  split
  · exact told (h.tripRequest _)
  · exact told (h.tripRequest _)
  · exact told (h.tripRequest _).huntBreakerFail.failSequencer
  · exact told ((h.tripRequest _).closeCut _)
  · exact told ((h.tripRequest _).seqAlreadyOpen _ _)

end Sys2Proof.Machine
end

section
/-! SUPPORT. A protection trip on a feeder without a hunt: the receivers, the fire controller, the bus, the hunt engine and
a standing RESTART stay as they are, and the store keeps its law. -/

namespace Sys2Proof.Machine

/-- The parts that the samples of a feeder without a hunt move, but for the store. -/
def plainParts : List Part := [.protection, .breakers, .sequencers, .holds, .log, .ports]

/-- From s to t nothing has moved but those parts and the store, whose law stands. -/
def State.Quiet (s t : State) : Prop := s.Within (.store :: plainParts) none t ∧ t.StoreLaw

variable {s t u : State} {f : Feeder}

theorem State.Quiet.refl (law : s.StoreLaw) : s.Quiet s := ⟨.refl _ _ _, law⟩

theorem State.Quiet.hunt (h : s.Quiet t) : t.hunt = s.hunt := h.1.parts .hunt (by decide)

theorem State.Quiet.huntOff (h : s.Quiet t) (off : s.huntOn f = false) : t.huntOn f = false := by
  simpa [State.huntOn, h.hunt] using off

/-- An operation that leaves the store and a standing RESTART. -/
theorem State.Quiet.plain (h : s.Quiet t) (k : t.Within plainParts none u) : s.Quiet u :=
  ⟨h.1.trans ⟨State.changesOnly_mono k.parts fun x => List.mem_cons_of_mem _, by simp⟩,
    (State.storeLaw_congr (k.parts .store (by decide)) (k.parts .restart (by decide))).2 h.2⟩

/-- An operation folded over a list. -/
theorem State.Quiet.foldl {α : Type} {op : State → α → State} (step : ∀ {u : State}, s.Quiet u → ∀ x, s.Quiet (op u x))
    (h : s.Quiet t) (l : List α) : s.Quiet (l.foldl op t) := by
  induction l generalizing t with
  | nil => exact h
  | cons x rest ih => exact ih (step h x)

theorem State.Quiet.setSequencer (h : s.Quiet t) (x : Sequencer) : s.Quiet (t.setSequencer f x) :=
  h.plain ((State.Within.refl _ _ _).setSequencer (by decide) (by simp) x)

theorem State.Quiet.reply (h : s.Quiet t) (p : Port) (st : Status) : s.Quiet (t.reply p st) :=
  h.plain ((State.Within.refl _ _ _).reply (by decide) p st)

theorem State.Quiet.tripRequest (h : s.Quiet t) (r : TripRequest) : s.Quiet (t.tripRequest f r).1 :=
  h.plain ((State.Within.refl _ _ _).tripRequest (by decide) (by simp) r)

theorem State.Quiet.seqBreakerFail (h : s.Quiet t) : s.Quiet (t.seqBreakerFail f) :=
  h.plain ((State.Within.refl _ _ _).seqBreakerFail (by decide) (by simp))

theorem State.Quiet.confirmTrip (h : s.Quiet t) : s.Quiet (t.confirmTrip f) := by
  have patrol : s.Quiet (t.patrolIfDue f) := by
    unfold State.patrolIfDue
    split
    · exact h.1.placePatrol (by decide) (by decide) (by decide) (by decide) (by decide) h.2 f
    · exact h
  unfold State.confirmTrip
  dsimp only
  split
  · exact patrol.setSequencer _
  · exact patrol.plain ((State.Within.refl _ _ _).decideReclose (by decide) (by decide) (by decide) (by simp))

theorem State.Quiet.seqAlreadyOpen (h : s.Quiet t) (b : Bool) (c : Option Cause) :
    s.Quiet (t.seqAlreadyOpen f b c) := by
  unfold State.seqAlreadyOpen
  dsimp only
  split
  · exact h
  split
  · exact (h.setSequencer _).confirmTrip
  split
  · exact (h.setSequencer _).confirmTrip
  · exact h

theorem State.Quiet.closeCut (h : s.Quiet t) (off : s.huntOn f = false) (op : CloseOp) : s.Quiet (t.closeCut f op) := by
  unfold State.closeCut
  split
  · rw [State.huntCloseCut_off (h.huntOff off)]
    exact h.plain ((State.Within.refl _ _ _).seqCut (by decide) (by simp) _)
  · exact h.plain ((State.Within.refl _ _ _).tellCut (by decide) (by decide) (by simp) op)

theorem State.Quiet.huntBreakerFail (h : s.Quiet t) (off : s.huntOn f = false) : s.Quiet (t.huntBreakerFail f) := by
  rw [State.huntBreakerFail_off (h.huntOff off)]
  exact h

theorem State.Quiet.passTrip (h : s.Quiet t) (off : s.huntOn f = false) (p : Port) : s.Quiet (t.passTrip f p) := by
  unfold State.passTrip
  dsimp only
  split
  · exact h.tripRequest _
  · exact h.tripRequest _
  · exact (h.tripRequest _).closeCut off _
  · exact ((h.tripRequest _).reply _ _).seqAlreadyOpen _ _
  · exact (((h.tripRequest _).reply _ _).huntBreakerFail off).seqBreakerFail

theorem State.Quiet.failSequencer (h : s.Quiet t) (off : s.huntOn f = false) : s.Quiet (t.failSequencer f) := by
  unfold State.failSequencer
  split
  · exact h
  · exact State.Quiet.foldl (fun k p => k.passTrip off p) h.seqBreakerFail _

/-- A trip of the protection unit where no hunt stands. -/
theorem State.Quiet.protectionTrip (h : s.Quiet t) (off : s.huntOn f = false) (c : Cause) :
    s.Quiet (t.protectionTrip f c) := by
  have told : ∀ {u}, s.Quiet u → s.Quiet ((u.protectionReport f c).huntTripReport f) := by
    intro u k
    have reported : s.Quiet (u.protectionReport f c) :=
      k.plain ((State.Within.refl _ _ _).protectionReport (by decide) (by simp) c)
    rw [State.huntTripReport_off (reported.huntOff off)]
    exact reported
  unfold State.protectionTrip
  dsimp only
  split
  · exact told (h.tripRequest _)
  · exact told (h.tripRequest _)
  · exact told (((h.tripRequest _).huntBreakerFail off).failSequencer off)
  · exact told ((h.tripRequest _).closeCut off _)
  · exact told ((h.tripRequest _).seqAlreadyOpen _ _)

end Sys2Proof.Machine
end

section
/-! The samples of an accepted frame (R13, R34 to R37, R41, R45, R46) and the frame itself (R1, R4 to R8). -/

namespace Sys2Proof.Machine

/-! ### Steps 1 to 3 of R34 -/

/-- The protection unit of a feeder after the elements have taken a sample. -/
def State.unitTaken (s : State) (f : Feeder) (x : Sample) : Protection :=
  (s.unit f).afterElements (s.effective f) (s.curve (s.effective f).group.ocCurve)
    (s.curve (s.effective f).group.efCurve) x

/-- The cause of the trip that a sample has requested at a feeder, if it has. -/
def State.causeTaken (s : State) (f : Feeder) (x : Sample) : Option Cause :=
  (s.unit f).causeOn (s.effective f) (s.curve (s.effective f).group.ocCurve)
    (s.curve (s.effective f).group.efCurve) x

/-- A sample seeds the baseline beyond the limit and latches the mark (R35, R37). -/
def State.seedsHigh (s : State) (f : Feeder) (x : Sample) : Bool :=
  !(s.unit f).base.seeded && !(s.unit f).base.high && decide ((s.effective f).group.limit < x.i0)

/-- The elements have taken a sample, and a seeding beyond the limit is recorded. -/
def State.seedingSaid (s : State) (f : Feeder) (x : Sample) : State :=
  if s.seedsHigh f x then (s.setUnit f (s.unitTaken f x)).baselineHigh f x.i0 (s.effective f).group.limit
  else s.setUnit f (s.unitTaken f x)

/-- The details of the SEF_ALARM record of a sample (R41). -/
def State.alarmDetails (s : State) (f : Feeder) (x : Sample) : Details :=
  .sefAlarm ((s.unit f).sefOn (s.effective f) x).1.residual
    (((s.unit f).baseFor (s.effective f) x).value (s.effective f).group.shift) (s.effective f).sefDelay

/-- The elements have taken a sample, and a seeding beyond the limit and an alarm are recorded; no trip is requested yet. -/
def State.elementsTaken (s : State) (f : Feeder) (x : Sample) : State :=
  if (s.unit f).raisesAlarm (s.effective f) x then
    ((s.seedingSaid f x).record f .protectionUnit (s.alarmDetails f x)).setFlag .measurement
  else s.seedingSaid f x

theorem State.seedsHigh_iff (s : State) (f : Feeder) (x : Sample) :
    s.seedsHigh f x = true ↔
      (s.unit f).base.seeded = false ∧ (s.unit f).base.high = false ∧ (s.effective f).group.limit < x.i0 := by
  simp [State.seedsHigh, and_assoc]

/-- The model's evaluation of a seeding agrees. -/
theorem State.evaluate_seedHigh_eq (s : State) (f : Feeder) (x : Sample) (oc ef : Curve) :
    ((s.unit f).evaluate (s.effective f) oc ef x).seedHigh = s.seedsHigh f x :=
  Bool.eq_iff_iff.2 ((Protection.evaluate_seedHigh _ _ _ _ _).trans (s.seedsHigh_iff f x).symm)

/-- A sample that requests a trip. -/
theorem State.evaluateSample_trip {s : State} {f : Feeder} {x : Sample} {c : Cause} (h : s.causeTaken f x = some c) :
    s.evaluateSample f x = (s.elementsTaken f x).protectionTrip f c := by
  unfold State.causeTaken at h
  simp only [State.evaluateSample, State.evaluate_seedHigh_eq, Protection.evaluate_unit, Protection.evaluate_alarm,
    Protection.evaluate_cause, h]
  rfl

/-- A sample that requests none. -/
theorem State.evaluateSample_noTrip {s : State} {f : Feeder} {x : Sample} (h : s.causeTaken f x = none) :
    s.evaluateSample f x = s.elementsTaken f x := by
  unfold State.causeTaken at h
  simp only [State.evaluateSample, State.evaluate_seedHigh_eq, Protection.evaluate_unit, Protection.evaluate_alarm,
    Protection.evaluate_cause, h]
  rfl

theorem State.Within.seedingSaid {s t : State} {l : List Part} {f : Option Feeder} {g : Feeder} (h : s.Within l f t)
    (hu : .protection ∈ l) (hl : .log ∈ l) (hp : .ports ∈ l) (hf : ∀ x, f = some x → x = g) (x : Sample) :
    s.Within l f (t.seedingSaid g x) := by
  unfold State.seedingSaid
  split
  · exact (h.setUnit hu hf _).baselineHigh hl hp _ _ _
  · exact h.setUnit hu hf _

theorem State.Within.elementsTaken {s t : State} {l : List Part} {f : Option Feeder} {g : Feeder} (h : s.Within l f t)
    (hu : .protection ∈ l) (hl : .log ∈ l) (hp : .ports ∈ l) (hf : ∀ x, f = some x → x = g) (x : Sample) :
    s.Within l f (t.elementsTaken g x) := by
  unfold State.elementsTaken
  split
  · exact ((h.seedingSaid hu hl hp hf x).record hl hp _ _ _).setFlag hp _
  · exact h.seedingSaid hu hl hp hf x

@[simp] theorem State.baselineHigh_unit (s : State) (f : Feeder) (v b : Nat) (g : Feeder) :
    (s.baselineHigh f v b).unit g = s.unit g := by simp [State.baselineHigh]

@[simp] theorem State.seedingSaid_unit_self (s : State) (f : Feeder) (x : Sample) :
    (s.seedingSaid f x).unit f = s.unitTaken f x := by
  unfold State.seedingSaid
  split <;> simp

@[simp] theorem State.elementsTaken_unit_self (s : State) (f : Feeder) (x : Sample) :
    (s.elementsTaken f x).unit f = s.unitTaken f x := by
  unfold State.elementsTaken
  split <;> simp

/-- A change within a feeder's blocks that gives its protection unit a value. -/
theorem State.unitBecomes_of_within {s t : State} {f : Feeder} {u : Protection}
    (h : s.Within [.protection, .log, .ports] (some f) t) (k : t.unit f = u) : s.unitBecomes f u t :=
  ⟨h.parts, k, fun g other => (h.feeder g other).2.1⟩

theorem State.elementsTaken_unitBecomes (s : State) (f : Feeder) (x : Sample) :
    s.unitBecomes f (s.unitTaken f x) (s.elementsTaken f x) :=
  State.unitBecomes_of_within ((State.Within.refl _ _ _).elementsTaken (by simp) (by simp) (by simp) (by simp) x)
    (s.elementsTaken_unit_self f x)

theorem State.baselineHighSaid_of_mem {t : State} {f : Feeder} {now : Stamp} {v b : Nat} {n : Word}
    (flag : t.flagSet .measurement)
    (mem : { seq := n, stamp := now, feeder := some f, source := .block .protectionUnit, details := .baselineHigh v b } ∈
      t.log.records) : t.baselineHighSaid f now v b :=
  ⟨flag, _, mem, rfl, rfl, rfl, rfl⟩

/-- The record and the flag of a baseline beyond its limit. -/
theorem State.baselineHigh_said (s : State) (f : Feeder) (v b : Nat) :
    (s.baselineHigh f v b).baselineHighSaid f s.stamp v b := by
  obtain ⟨older, last⟩ := s.lastRecord_record f .protectionUnit (.baselineHigh v b)
  exact State.baselineHighSaid_of_mem (State.flagSet_setFlag _ _)
    (by rw [State.baselineHigh, State.setFlag_log, last]; exact List.mem_append_right _ (List.mem_singleton_self _))

/-- The record of a baseline beyond its limit outlasts the next append. -/
theorem State.baselineHigh_said_record (s : State) (f : Feeder) (v b : Nat) (d : Details) :
    (((s.baselineHigh f v b).record f .protectionUnit d).setFlag .measurement).baselineHighSaid f s.stamp v b := by
  obtain ⟨older, last⟩ := s.lastRecord_record f .protectionUnit (.baselineHigh v b)
  exact State.baselineHighSaid_of_mem (State.flagSet_setFlag _ _)
    (by
      rw [State.setFlag_log, State.record_log]
      exact Log.last_mem_appended (l := (s.baselineHigh f v b).log) last _ _ _ _)

theorem State.elementsTaken_baselineHighSaid {s : State} {f : Feeder} {x : Sample} (h : s.seedsHigh f x = true) :
    (s.elementsTaken f x).baselineHighSaid f s.stamp x.i0 (s.effective f).group.limit := by
  have said : s.seedingSaid f x =
      (s.setUnit f (s.unitTaken f x)).baselineHigh f x.i0 (s.effective f).group.limit := if_pos h
  unfold State.elementsTaken
  rw [said]
  split
  · exact State.baselineHigh_said_record _ f _ _ _
  · exact State.baselineHigh_said _ f _ _

theorem State.seedingSaid_stamp (s : State) (f : Feeder) (x : Sample) : (s.seedingSaid f x).stamp = s.stamp := by
  unfold State.seedingSaid
  split <;> simp [State.baselineHigh]

theorem State.elementsTaken_alarm {s : State} {f : Feeder} {x : Sample}
    (h : (s.unit f).raisesAlarm (s.effective f) x = true) :
    (s.elementsTaken f x).flagSet .measurement ∧
      (s.elementsTaken f x).lastRecord (some f) (.block .protectionUnit) s.stamp (s.alarmDetails f x) := by
  have taken : s.elementsTaken f x =
      ((s.seedingSaid f x).record f .protectionUnit (s.alarmDetails f x)).setFlag .measurement := if_pos h
  rw [taken, ← State.seedingSaid_stamp s f x]
  exact ⟨State.flagSet_setFlag _ _, State.lastRecord_congr rfl (State.lastRecord_record _ _ _ _)⟩

/-- Without such a seeding and without an alarm nothing is recorded. -/
theorem State.elementsTaken_silent {s : State} {f : Feeder} {x : Sample} (h : s.seedsHigh f x = false)
    (k : (s.unit f).raisesAlarm (s.effective f) x = false) :
    (s.elementsTaken f x).log = s.log ∧ (s.elementsTaken f x).ports = s.ports := by
  simp [State.elementsTaken, State.seedingSaid, h, k]

/-! ### Step 4 of R34 -/

theorem State.updateBaseline_same {s : State} {f : Feeder}
    (h : (s.unit f).sef.pickup = true ∨ (s.unit f).base.frozen = true) (x : Sample) : s.updateBaseline f x = s :=
  if_pos (by simpa using h)

/-- The unit with its baseline updated by a qualifying sample (R36). -/
def State.unitUpdated (s : State) (f : Feeder) (x : Sample) : Protection :=
  { s.unit f with base := (s.unit f).base.update x.i0 (s.effective f).group.shift (s.effective f).group.limit }

theorem State.updateBaseline_qualifying {s : State} {f : Feeder} (pickup : (s.unit f).sef.pickup = false)
    (frozen : (s.unit f).base.frozen = false) (x : Sample) :
    s.updateBaseline f x =
      if (s.unitUpdated f x).base.high && !(s.unit f).base.high then
        (s.setUnit f (s.unitUpdated f x)).baselineHigh f x.i0 (s.effective f).group.limit
      else s.setUnit f (s.unitUpdated f x) := by
  simp only [State.updateBaseline, pickup, frozen]
  rfl

/-- The update of a qualifying sample: the unit, the record of a baseline that goes beyond its limit, and else none. -/
theorem State.updateBaseline_spec {s : State} {f : Feeder} (pickup : (s.unit f).sef.pickup = false)
    (frozen : (s.unit f).base.frozen = false) (x : Sample) :
    s.unitBecomes f (s.unitUpdated f x) (s.updateBaseline f x) ∧
      ((s.unit f).base.high = false → ((s.updateBaseline f x).unit f).base.high = true →
        (s.updateBaseline f x).baselineHighSaid f s.stamp x.i0 (s.effective f).group.limit) ∧
      ((s.unit f).base.high = true ∨ ((s.updateBaseline f x).unit f).base.high = false →
        (s.updateBaseline f x).log = s.log ∧ (s.updateBaseline f x).ports = s.ports) := by
  have frame : s.Within [.protection, .log, .ports] (some f) (s.updateBaseline f x) :=
    (State.Within.refl _ _ _).updateBaseline (by simp) (by simp) (by simp) (by simp) x
  have unit : (s.updateBaseline f x).unit f = s.unitUpdated f x := by
    rw [State.updateBaseline_qualifying pickup frozen]
    split <;> simp
  refine ⟨State.unitBecomes_of_within frame unit, fun clear latched => ?_, fun kept => ?_⟩
  · rw [unit] at latched
    rw [State.updateBaseline_qualifying pickup frozen, if_pos (by simp [clear, latched])]
    exact State.baselineHigh_said (s.setUnit f _) f _ _
  · rw [unit] at kept
    rw [State.updateBaseline_qualifying pickup frozen, if_neg (by rcases kept with k | k <;> simp [k])]
    exact ⟨rfl, rfl⟩

/-! ### A sample whole -/

theorem State.takeSample_eq (s : State) (f : Feeder) (x : Sample) :
    s.takeSample f x =
      (if (s.unit f).base.seeded = false then s.evaluateSample f x
        else (s.evaluateSample f x).updateBaseline f x).windowSample f := by
  cases h : (s.unit f).base.seeded <;> simp [State.takeSample, h]

/-- The model takes a sample in the steps of R34. -/
theorem State.takeSample_sampled (s : State) (f : Feeder) (x : Sample) : s.sampled f x (s.takeSample f x) := by
  rw [State.takeSample_eq]
  refine ⟨s.elementsTaken f x, s.evaluateSample f x, _, s.elementsTaken_unitBecomes f x,
    fun unseeded clear beyond =>
      State.elementsTaken_baselineHighSaid ((s.seedsHigh_iff f x).2 ⟨unseeded, clear, beyond⟩),
    State.elementsTaken_alarm, fun within silent => State.elementsTaken_silent ?_ silent, ?_,
    fun still => ?_, fun seeded pickup frozen => ?_, rfl⟩
  · rw [Bool.eq_false_iff, ne_eq, State.seedsHigh_iff]
    rintro ⟨unseeded, clear, beyond⟩
    obtain seeded | latched | low := within
    · simp [unseeded] at seeded
    · simp [clear] at latched
    · exact absurd beyond (not_lt.2 low)
  · rcases cause : (s.unit f).causeOn (s.effective f) (s.curve (s.effective f).group.ocCurve)
      (s.curve (s.effective f).group.efCurve) x with _ | c
    · exact State.evaluateSample_noTrip cause
    · exact State.evaluateSample_trip cause
  · split
    · rfl
    · next seeded => exact State.updateBaseline_same (still.resolve_left seeded) x
  · rw [if_neg (by simp [seeded])]
    exact State.updateBaseline_spec pickup frozen x

/-- The samples that a frame hands over are taken in order. -/
theorem State.takesSamples_foldl (f : Feeder) (s : State) (l : List Sample) :
    State.takesSamples f s l (l.foldl (fun t x => t.takeSample f x) s) := by
  induction l generalizing s with
  | nil => rfl
  | cons x rest ih => exact ⟨s.takeSample f x, s.takeSample_sampled f x, ih _⟩

/-! ### What a sample leaves -/

theorem State.Spares.evaluateSample {s t : State} {f : Feeder} (h : s.Spares f t) (x : Sample) :
    s.Spares f (t.evaluateSample f x) := by
  have taken : s.Spares f (t.elementsTaken f x) :=
    h.within ((State.Within.refl _ _ _).elementsTaken (by decide) (by decide) (by decide) (by simp) x)
  rcases cause : t.causeTaken f x with _ | c
  · rw [State.evaluateSample_noTrip cause]; exact taken
  · rw [State.evaluateSample_trip cause]; exact taken.protectionTrip c

theorem State.Spares.windowSample {s t : State} {f : Feeder} (h : s.Spares f t) : s.Spares f (t.windowSample f) := by
  unfold State.windowSample
  dsimp only
  split
  · exact h
  split
  · exact (h.setUnit _).huntWindowReport _
  · exact h.setUnit _

theorem State.Spares.takeSample {s t : State} {f : Feeder} (h : s.Spares f t) (x : Sample) :
    s.Spares f (t.takeSample f x) := by
  rw [State.takeSample_eq]
  split
  · exact (h.evaluateSample x).windowSample
  · exact ((h.evaluateSample x).within
      ((State.Within.refl _ _ _).updateBaseline (by decide) (by decide) (by decide) (by simp) x)).windowSample

theorem State.Quiet.evaluateSample {s t : State} {f : Feeder} (h : s.Quiet t) (off : s.huntOn f = false) (x : Sample) :
    s.Quiet (t.evaluateSample f x) := by
  have taken : s.Quiet (t.elementsTaken f x) :=
    h.plain ((State.Within.refl _ _ _).elementsTaken (by decide) (by decide) (by decide) (by simp) x)
  rcases cause : t.causeTaken f x with _ | c
  · rw [State.evaluateSample_noTrip cause]; exact taken
  · rw [State.evaluateSample_trip cause]; exact taken.protectionTrip off c

theorem State.Quiet.setUnit {s t : State} {f : Feeder} (h : s.Quiet t) (x : Protection) : s.Quiet (t.setUnit f x) :=
  h.plain ((State.Within.refl _ _ _).setUnit (by decide) (by simp) x)

theorem State.Quiet.windowSample {s t : State} {f : Feeder} (h : s.Quiet t) (off : s.huntOn f = false) :
    s.Quiet (t.windowSample f) := by
  unfold State.windowSample
  dsimp only
  split
  · exact h
  split
  · rw [State.huntWindowReport_off ((h.setUnit _).huntOff off)]
    exact h.setUnit _
  · exact h.setUnit _

theorem State.Quiet.takeSample {s t : State} {f : Feeder} (h : s.Quiet t) (off : s.huntOn f = false) (x : Sample) :
    s.Quiet (t.takeSample f x) := by
  rw [State.takeSample_eq]
  split
  · exact (h.evaluateSample off x).windowSample off
  · exact ((h.evaluateSample off x).plain
      ((State.Within.refl _ _ _).updateBaseline (by decide) (by decide) (by decide) (by simp) x)).windowSample off

/-! ### The accepted frame -/

/-- The feeder's protection unit as the frame's samples find it: cleared at a discontinuity (R6). -/
def State.frameCleared (s : State) (m : Measured) : State :=
  if ((s.receiver m.feeder).samples m).1 then s.setUnit m.feeder (s.unit m.feeder).clearCounts else s

/-- The frame's samples taken (R5). -/
def State.frameSampled (s : State) (m : Measured) : State :=
  ((s.receiver m.feeder).samples m).2.foldl (fun t x => t.takeSample m.feeder x) (s.frameCleared m)

/-- The frame's samples taken and the receiver VALID (R4, R8). -/
def State.frameHeld (s : State) (m : Measured) : State :=
  (s.frameSampled m).setReceiver m.feeder (receiverAfter s.ms m)

theorem State.acceptFrame_lost {s : State} {m : Measured} (h : (s.receiver m.feeder).state = .lost) :
    s.acceptFrame m = ((s.frameHeld m).record m.feeder .frameReceiver .measurementRestored).setFlag .measurement :=
  if_pos h

theorem State.acceptFrame_notLost {s : State} {m : Measured} (h : (s.receiver m.feeder).state ≠ .lost) :
    s.acceptFrame m = s.frameHeld m := if_neg h

/-- After the receiver the frame adds a record and a flag at most. -/
theorem State.acceptFrame_within (s : State) (m : Measured) :
    (s.frameHeld m).Within [.log, .ports] (some m.feeder) (s.acceptFrame m) := by
  by_cases lost : (s.receiver m.feeder).state = .lost
  · rw [State.acceptFrame_lost lost]
    exact ((State.Within.refl _ _ _).record (by simp) (by simp) _ _ _).setFlag (by simp) _
  · rw [State.acceptFrame_notLost lost]
    exact .refl _ _ _

theorem State.acceptFrame_receiver (s : State) (m : Measured) :
    (s.acceptFrame m).receiver m.feeder = receiverAfter s.ms m := by
  have receivers := (s.acceptFrame_within m).parts .receivers (by simp)
  exact (congrArg (feederGet · m.feeder) receivers).trans (State.setReceiver_receiver_self _ _ _)

theorem State.frameSampled_spares (s : State) (m : Measured) : s.Spares m.feeder (s.frameSampled m) := by
  have cleared : s.Spares m.feeder (s.frameCleared m) := by
    unfold State.frameCleared
    split
    · exact (State.Spares.refl _ _).setUnit _
    · exact .refl _ _
  exact State.Spares.foldl (fun k x => k.takeSample x) cleared _

theorem State.frameSampled_quiet {s : State} {m : Measured} (off : s.huntOn m.feeder = false) (law : s.StoreLaw) :
    s.Quiet (s.frameSampled m) := by
  have cleared : s.Quiet (s.frameCleared m) := by
    unfold State.frameCleared
    split
    · exact (State.Quiet.refl law).setUnit _
    · exact .refl law
  exact State.Quiet.foldl (fun k x => k.takeSample off x) cleared _

/-- The other feeders' receivers and protection units stand. -/
theorem State.acceptFrame_others (s : State) (m : Measured) (g : Feeder) (other : g ≠ m.feeder) :
    (s.acceptFrame m).receiver g = s.receiver g ∧ (s.acceptFrame m).unit g = s.unit g := by
  obtain ⟨receiver, unit, _⟩ := (s.acceptFrame_within m).feeder g other
  have spared := s.frameSampled_spares m
  refine ⟨receiver.trans ?_, unit.trans (spared.units g other)⟩
  rw [State.frameHeld, State.setReceiver_receiver_ne _ other]
  exact congrArg (feederGet · g) spared.receivers

theorem State.acceptFrame_restored {s : State} {m : Measured} (lost : (s.receiver m.feeder).state = .lost) :
    (s.acceptFrame m).flagSet .measurement ∧
      (s.acceptFrame m).lastRecord (some m.feeder) (.block .frameReceiver) s.stamp .measurementRestored := by
  have spared := s.frameSampled_spares m
  have stamp : (s.frameHeld m).stamp = s.stamp := by
    simp [State.stamp, State.frameHeld, spared.time, spared.timeSet]
  rw [State.acceptFrame_lost lost, ← stamp]
  exact ⟨State.flagSet_setFlag _ _, State.lastRecord_congr rfl (State.lastRecord_record _ _ _ _)⟩

theorem State.acceptFrame_quiet {s : State} {m : Measured} (off : s.huntOn m.feeder = false) (law : s.StoreLaw) :
    s.changesOnly [.receivers, .protection, .breakers, .sequencers, .holds, .log, .store, .ports] (s.acceptFrame m) := by
  have sampled := (State.frameSampled_quiet (m := m) off law).1.parts
  have held : (s.frameSampled m).changesOnly [.receivers] (s.frameHeld m) :=
    ((State.Within.refl _ _ none).setReceiver (by simp) (by simp) _).parts
  exact State.changesOnly_trans (State.changesOnly_mono sampled (by decide))
    (State.changesOnly_trans (State.changesOnly_mono held (by decide))
      (State.changesOnly_mono (s.acceptFrame_within m).parts (by decide)))

/-- Settles O20: the clearing, the samples in order, the receiver, and the record of a measurement restored. -/
theorem acceptedFrameUpdatesReceiver : Obligations.AcceptedFrameUpdatesReceiver := by
  unfold Obligations.AcceptedFrameUpdatesReceiver
  intro bytes m s powered carried noFault
  have spared := s.frameSampled_spares m
  have after := (s.acceptFrame_within m).parts
  have receiver := s.acceptFrame_receiver m
  refine ⟨s.acceptFrame m, exec_measurementFrame_accepted powered carried noFault, receiver,
    ⟨s.frameCleared m, s.frameSampled m, fun same => ?_, fun cleared => ?_, State.takesSamples_foldl _ _ _,
      fun notLost => ?_, ?_⟩,
    s.acceptFrame_others m, (after .milliseconds (by simp)).trans spared.ms,
    (after .clock (by simp)).1.trans spared.time, (after .key (by simp)).trans spared.key,
    (congrArg FireController.requests (after .fire (by simp))).trans spared.requests,
    (after .image (by simp)).trans spared.image, State.acceptFrame_restored, State.acceptFrame_quiet⟩
  · simp [State.frameCleared, same]
  · simp only [State.frameCleared, cleared]
    rfl
  · rw [receiver, State.acceptFrame_notLost notLost]
    rfl
  · rw [receiver]
    exact after

end Sys2Proof.Machine
end

section
/-! SUPPORT. What every event but a sample, a loss of measurement, a change of settings and a reset leaves alone: the settings
in force, the hunt memory, the port writes that stand in the store's queue, the image, and the protection units but for their
windows and freeze marks. One lemma per operation, in the order of the model's definitions; no law of the state is needed. -/

namespace Sys2Proof.Machine

/-! ### The relation -/

/-- From s to t no setting moves, no port write joins the store's queue, the image stands, and every protection unit is as it
was but for its window and its freeze mark. -/
structure State.Steady (s t : State) : Prop where
  fire : ∃ m, t.fire = { s.fire with pendingMark := m }
  memory : t.hunt.memory = s.hunt.memory
  writes : ∀ e ∈ t.store.queue, ∀ p w, e.job = .port p w → ∃ x ∈ s.store.queue, x.job = .port p w
  image : t.image = s.image
  units : ∀ f, ∃ w m, t.unit f = { s.unit f with window := w, base := { (s.unit f).base with frozen := m } }

/-- The parts that hold no setting, no write and no protection unit. -/
def steadyParts : List Part :=
  [.supply, .milliseconds, .clock, .key, .receivers, .breakers, .sequencers, .holds, .bus, .log, .ports, .restart, .pending]

variable {s t u : State} {f g : Feeder}

theorem State.Steady.refl (s : State) : s.Steady s :=
  ⟨⟨_, rfl⟩, rfl, fun e mem _ _ job => ⟨e, mem, job⟩, rfl, fun _ => ⟨_, _, rfl⟩⟩

theorem State.Steady.trans (h : s.Steady t) (k : t.Steady u) : s.Steady u where
  fire := by
    obtain ⟨m, first⟩ := h.fire
    obtain ⟨n, second⟩ := k.fire
    exact ⟨n, by rw [second, first]⟩
  memory := k.memory.trans h.memory
  writes e mem p w job := by
    obtain ⟨x, mem', job'⟩ := k.writes e mem p w job
    exact h.writes x mem' p w job'
  image := k.image.trans h.image
  units f := by
    obtain ⟨w, m, first⟩ := h.units f
    obtain ⟨w', m', second⟩ := k.units f
    exact ⟨w', m', by rw [second, first]⟩

/-- A change of other parts alone. -/
theorem State.Steady.changesOnly (h : s.Steady t) (k : t.changesOnly steadyParts u) : s.Steady u := by
  have fire : u.fire = t.fire := k .fire (by decide)
  have hunt : u.hunt = t.hunt := k .hunt (by decide)
  have store : u.store = t.store := k .store (by decide)
  have units : u.protection = t.protection := k .protection (by decide)
  refine h.trans ⟨⟨t.fire.pendingMark, fire⟩, by rw [hunt], ?_, k .image (by decide),
    fun f => ⟨(t.unit f).window, (t.unit f).base.frozen, by simp [State.unit, units]⟩⟩
  rw [store]
  exact (State.Steady.refl t).writes

theorem State.Steady.within (h : s.Steady t) (k : t.Within steadyParts none u) : s.Steady u := h.changesOnly k.parts

/-- An operation folded over a list. -/
theorem State.Steady.foldl {α : Type} {op : State → α → State}
    (step : ∀ {u : State}, s.Steady u → ∀ x, s.Steady (op u x)) (h : s.Steady t) (l : List α) :
    s.Steady (l.foldl op t) := by
  induction l generalizing t with
  | nil => exact h
  | cons x rest ih => exact ih (step h x)

/-! ### Updates -/

theorem State.Steady.setReceiver (h : s.Steady t) (x : Receiver) : s.Steady (t.setReceiver g x) :=
  h.within ((State.Within.refl _ _ _).setReceiver (by decide) (by simp) x)

theorem State.Steady.setBreaker (h : s.Steady t) (x : Breaker) : s.Steady (t.setBreaker g x) :=
  h.within ((State.Within.refl _ _ _).setBreaker (by decide) (by simp) x)

theorem State.Steady.setSequencer (h : s.Steady t) (x : Sequencer) : s.Steady (t.setSequencer g x) :=
  h.within ((State.Within.refl _ _ _).setSequencer (by decide) (by simp) x)

theorem State.Steady.moveSequencer (h : s.Steady t) (k : Sequencer → Sequencer) : s.Steady (t.moveSequencer g k) :=
  h.setSequencer _

theorem State.Steady.setHoldTable (h : s.Steady t) (x : HoldTable) : s.Steady (t.setHoldTable g x) :=
  h.within ((State.Within.refl _ _ _).setHoldTable (by decide) (by simp) x)

theorem State.Steady.setBus (h : s.Steady t) (x : Bus) : s.Steady (t.setBus x) :=
  h.within ((State.Within.refl _ _ _).setBus (by decide) x)

theorem State.Steady.setPort (h : s.Steady t) (p : Port) (x : PortState) : s.Steady (t.setPort p x) :=
  h.within ((State.Within.refl _ _ _).setPort (by decide) p x)

theorem State.Steady.append (h : s.Steady t) (x : Option Feeder) (b : RecordSource) (d : Details) :
    s.Steady (t.append x b d) :=
  h.within ((State.Within.refl _ _ _).append (by decide) (by decide) x b d)

theorem State.Steady.record (h : s.Steady t) (x : Feeder) (b : Block) (d : Details) : s.Steady (t.record x b d) :=
  h.append _ _ _

theorem State.Steady.setFlag (h : s.Steady t) (fl : AttentionFlag) : s.Steady (t.setFlag fl) :=
  h.within ((State.Within.refl _ _ _).setFlag (by decide) fl)

theorem State.Steady.respond (h : s.Steady t) (p : Port) (st : Status) (d : List Byte) : s.Steady (t.respond p st d) :=
  h.within ((State.Within.refl _ _ _).respond (by decide) p st d)

theorem State.Steady.reply (h : s.Steady t) (p : Port) (st : Status) : s.Steady (t.reply p st) := h.respond p st []

/-- The hunt engine moves and its memory stands. -/
theorem State.Steady.setHunt (h : s.Steady t) (x : Hunt) (same : x.memory = t.hunt.memory := by rfl) :
    s.Steady (t.setHunt x) :=
  h.trans ⟨⟨_, rfl⟩, same, (State.Steady.refl t).writes, rfl, (State.Steady.refl t).units⟩

/-- A protection unit's window and freeze mark move. -/
theorem State.Steady.setUnit (h : s.Steady t) (w : Option Window) (m : Bool) :
    s.Steady (t.setUnit f { t.unit f with window := w, base := { (t.unit f).base with frozen := m } }) := by
  refine h.trans ⟨⟨_, rfl⟩, rfl, (State.Steady.refl t).writes, rfl, fun g => ?_⟩
  by_cases same : g = f
  · subst same
    exact ⟨w, m, by simp⟩
  · exact ⟨_, _, State.setUnit_unit_ne _ same _⟩

theorem State.Steady.setWindow (h : s.Steady t) (w : Option Window) :
    s.Steady (t.setUnit f { t.unit f with window := w }) := h.setUnit w (t.unit f).base.frozen

theorem State.Steady.setFreeze (h : s.Steady t) (m : Bool) : s.Steady (t.setFreeze g m) := h.setUnit (t.unit g).window m

/-- What happens because of a request is as steady as it is without. -/
theorem State.Steady.causedBy (p : Port) (op : State → State) (h : s.Steady (op t)) : s.Steady (t.causedBy p op) :=
  ⟨h.fire, h.memory, h.writes, h.image, h.units⟩

/-! ### Setting store (R104, R126, R146, R178) -/

/-- The store's queue holds no port write that it did not hold. -/
theorem State.Steady.setStore (h : s.Steady t) (x : Store)
    (old : ∀ e ∈ x.queue, ∀ p w, e.job = .port p w → ∃ y ∈ t.store.queue, y.job = .port p w) : s.Steady (t.setStore x) :=
  h.trans ⟨⟨_, rfl⟩, rfl, old, rfl, (State.Steady.refl t).units⟩

theorem State.Steady.setPendingMark (h : s.Steady t) (o : RetentionOwner) (m : Bool) : s.Steady (t.setPendingMark o m) := by
  cases o with
  | holds k => exact h.setHoldTable _
  | fireRequests => exact h.trans ⟨⟨m, rfl⟩, rfl, (State.Steady.refl t).writes, rfl, (State.Steady.refl t).units⟩
  | isolation => exact h.setBus _

theorem State.Steady.beginHead (h : s.Steady t) : s.Steady t.beginHead := by
  unfold State.beginHead
  split
  · exact h
  next e rest queue =>
  split
  · exact h
  split
  · next p w job =>
    refine h.setStore _ fun x mem q v job' => ?_
    rw [queue]
    obtain rfl | mem := List.mem_cons.1 mem
    · exact ⟨e, by simp, job'⟩
    · exact ⟨x, by simp [mem], job'⟩
  · refine (h.setStore _ fun x mem q v job' => ?_).setPendingMark _ _
    rw [queue]
    obtain rfl | mem := List.mem_cons.1 mem
    · cases job'
    · exact ⟨x, by simp [mem], job'⟩

/-- An internal write joins the queue. -/
theorem State.Steady.storeEnqueue_internal (h : s.Steady t) (o : RetentionOwner) (x : Option Retained) :
    s.Steady (t.storeEnqueue (.internal o x)) := by
  refine (h.setStore _ fun e mem p w job => ?_).beginHead
  obtain mem | mem := List.mem_append.1 mem
  · exact ⟨e, mem, job⟩
  · rw [List.mem_singleton.1 mem] at job
    cases job

theorem State.Steady.requestRetention (h : s.Steady t) (o : RetentionOwner) : s.Steady (t.requestRetention o) := by
  unfold State.requestRetention
  split
  · exact h
  split
  · exact h
  · exact (h.setPendingMark o true).storeEnqueue_internal o none

/-! ### Reclose sequencer (R66 to R85) -/

theorem State.Steady.lockout (h : s.Steady t) (r : LockoutReason) (c : Option CloseRefusal) : s.Steady (t.lockout g r c) :=
  h.within ((State.Within.refl _ _ _).lockout (by decide) (by decide) (by decide) (by simp) r c)

theorem State.Steady.sequencerPlacement (h : s.Steady t) : s.Steady (t.sequencerPlacement g) :=
  h.within ((State.Within.refl _ _ _).sequencerPlacement (by decide) (by decide) (by decide) (by simp))

theorem State.Steady.park (h : s.Steady t) : s.Steady (t.park g) := (h.moveSequencer _).setFreeze true

theorem State.Steady.unpark (h : s.Steady t) : s.Steady (t.unpark g) := (h.moveSequencer _).setFreeze false

/-! ### Hold list (R88 to R101) -/

theorem State.Steady.placed (h : s.Steady t) (e : Hold) (r : Bool) (p : Option Port) (a : Option Feeder) :
    s.Steady (t.placed g e r p a) := by
  have said := (h.append (some g) (sourceOf p .holdTable) (.holdPlaced e r p (t.holdTable g).list.length a)).setFlag .holds
  have told : s.Steady (if e.owner = .hunt then
      ((t.append (some g) (sourceOf p .holdTable) (.holdPlaced e r p (t.holdTable g).list.length a)).setFlag .holds).park g
      else ((t.append (some g) (sourceOf p .holdTable)
        (.holdPlaced e r p (t.holdTable g).list.length a)).setFlag .holds).sequencerPlacement g) := by
    split
    · exact said.park
    · exact said.sequencerPlacement
  unfold State.placed
  dsimp only
  split
  · exact told.requestRetention _
  · exact told

theorem State.Steady.placeHold (h : s.Steady t) (e : Hold) (p : Option Port) (a : Option Feeder) :
    s.Steady (t.placeHold g e p a) := (h.setHoldTable _).placed _ _ _ _

theorem State.Steady.refreshHold (h : s.Steady t) (old new : Hold) (p : Port) : s.Steady (t.refreshHold g old new p) :=
  (h.setHoldTable _).placed _ _ _ _

theorem State.Steady.takeOffHold (h : s.Steady t) (e : Hold) (c : RemovalCause) (p : Option Port) :
    s.Steady (t.takeOffHold g e c p) := by
  have off := ((h.setHoldTable (g := g) { t.holdTable g with list := (t.holdTable g).list.erase e }).append (some g)
    (sourceOf p .holdTable) (.holdRemoved e c p)).setFlag .holds
  unfold State.takeOffHold
  dsimp only
  split
  · exact off.unpark
  · exact off

theorem State.Steady.placeAutomatic (h : s.Steady t) (o : Owner) (k : HoldKind) (a : Option Feeder) :
    s.Steady (t.placeAutomatic g o k a) := by
  unfold State.placeAutomatic
  split
  · exact h
  · exact h.placeHold _ _ _

theorem State.Steady.placePatrol (h : s.Steady t) (a : Feeder) : s.Steady (t.placePatrol a) :=
  State.Steady.foldl (fun k _ => k.placeAutomatic _ _ _) (h.placeAutomatic _ _ _) _

theorem State.Steady.removeHunt (h : s.Steady t) : s.Steady (t.removeHunt g) := by
  unfold State.removeHunt
  split
  · exact h.takeOffHold _ _ _
  · exact h

theorem State.Steady.retainAfter (h : s.Steady t) (e : Hold) : s.Steady (t.retainAfter g e) := by
  unfold State.retainAfter
  split
  · exact h.requestRetention _
  · exact h

/-! ### Reports to the sequencer (R69 to R85) -/

theorem State.Steady.decideReclose (h : s.Steady t) : s.Steady (t.decideReclose g) :=
  h.within ((State.Within.refl _ _ _).decideReclose (by decide) (by decide) (by decide) (by simp))

theorem State.Steady.patrolIfDue (h : s.Steady t) : s.Steady (t.patrolIfDue g) := by
  unfold State.patrolIfDue
  split
  · exact h.placePatrol g
  · exact h

theorem State.Steady.confirmTrip (h : s.Steady t) : s.Steady (t.confirmTrip g) := by
  unfold State.confirmTrip
  dsimp only
  split
  · exact h.patrolIfDue.moveSequencer _
  · exact h.patrolIfDue.decideReclose

theorem State.Steady.protectionReport (h : s.Steady t) (c : Cause) : s.Steady (t.protectionReport g c) :=
  h.within ((State.Within.refl _ _ _).protectionReport (by decide) (by simp) c)

theorem State.Steady.seqTripConfirmed (h : s.Steady t) (b : Bool) (c : Option Cause) :
    s.Steady (t.seqTripConfirmed g b c) := by
  unfold State.seqTripConfirmed
  dsimp only
  split
  · exact (h.setSequencer _).confirmTrip
  split
  · split
    · exact h.patrolIfDue.lockout _ _
    · exact h.lockout _ _
  split
  · exact (h.setSequencer _).confirmTrip
  split
  · exact h.setSequencer _
  · exact h

theorem State.Steady.seqAlreadyOpen (h : s.Steady t) (b : Bool) (c : Option Cause) : s.Steady (t.seqAlreadyOpen g b c) := by
  unfold State.seqAlreadyOpen
  dsimp only
  split
  · exact h
  split
  · exact (h.setSequencer _).confirmTrip
  split
  · exact (h.setSequencer _).confirmTrip
  · exact h

theorem State.Steady.seqBreakerFail (h : s.Steady t) : s.Steady (t.seqBreakerFail g) :=
  h.within ((State.Within.refl _ _ _).seqBreakerFail (by decide) (by simp))

theorem State.Steady.seqLateOpen (h : s.Steady t) : s.Steady (t.seqLateOpen g) :=
  h.within ((State.Within.refl _ _ _).seqLateOpen (by decide) (by decide) (by decide) (by simp))

theorem State.Steady.seqCloseConfirmed (h : s.Steady t) (p : ClosePurpose) : s.Steady (t.seqCloseConfirmed g p) :=
  h.within ((State.Within.refl _ _ _).seqCloseConfirmed (by decide) (by simp) p)

theorem State.Steady.seqCloseFail (h : s.Steady t) (p : ClosePurpose) : s.Steady (t.seqCloseFail g p) :=
  h.within ((State.Within.refl _ _ _).seqCloseFail (by decide) (by decide) (by decide) (by simp) p)

theorem State.Steady.seqCut (h : s.Steady t) (p : ClosePurpose) : s.Steady (t.seqCut g p) :=
  h.within ((State.Within.refl _ _ _).seqCut (by decide) (by simp) p)

theorem State.Steady.seqGrant (h : s.Steady t) : s.Steady (t.seqGrant g) :=
  h.within ((State.Within.refl _ _ _).seqGrant (by decide) (by simp))

theorem State.Steady.seqRefused (h : s.Steady t) (r : CloseRefusal) : s.Steady (t.seqRefused g r) :=
  h.within ((State.Within.refl _ _ _).seqRefused (by decide) (by decide) (by decide) (by simp) r)

theorem State.Steady.seqUnexpected (h : s.Steady t) (b : Bool) : s.Steady (t.seqUnexpected g b) :=
  h.within ((State.Within.refl _ _ _).seqUnexpected (by decide) (by simp) b)

/-! ### Breaker interface (R53 to R62) -/

theorem State.Steady.tripRequest (h : s.Steady t) (r : TripRequest) : s.Steady (t.tripRequest g r).1 :=
  h.within ((State.Within.refl _ _ _).tripRequest (by decide) (by simp) r)

theorem State.Steady.closeRequest (h : s.Steady t) (p : ClosePurpose) (r : Requester) :
    s.Steady (t.closeRequest g p r).1 :=
  h.within ((State.Within.refl _ _ _).closeRequest (by decide) (by simp) p r)

theorem State.Steady.tellCut (h : s.Steady t) (op : CloseOp) : s.Steady (t.tellCut g op) :=
  h.within ((State.Within.refl _ _ _).tellCut (by decide) (by decide) (by simp) op)

theorem State.Steady.tripConfirmedRecord (h : s.Steady t) (op : TripOp) : s.Steady (t.tripConfirmedRecord g op) :=
  h.within ((State.Within.refl _ _ _).tripConfirmedRecord (by decide) (by decide) (by decide) (by simp) op)

theorem State.Steady.breakerFailRecord (h : s.Steady t) (op : TripOp) : s.Steady (t.breakerFailRecord g op) :=
  h.within ((State.Within.refl _ _ _).breakerFailRecord (by decide) (by decide) (by decide) (by simp) op)

theorem State.Steady.lateOpenRecord (h : s.Steady t) (x : FailedTrip) : s.Steady (t.lateOpenRecord g x) :=
  h.within ((State.Within.refl _ _ _).lateOpenRecord (by decide) (by decide) (by decide) (by simp) x)

theorem State.Steady.closeConfirmedRecord (h : s.Steady t) (op : CloseOp) : s.Steady (t.closeConfirmedRecord g op) :=
  h.within ((State.Within.refl _ _ _).closeConfirmedRecord (by decide) (by decide) (by decide) (by simp) op)

theorem State.Steady.closeFailRecord (h : s.Steady t) (op : CloseOp) : s.Steady (t.closeFailRecord g op) :=
  h.within ((State.Within.refl _ _ _).closeFailRecord (by decide) (by decide) (by decide) (by simp) op)

theorem State.Steady.unexpectedRecord (h : s.Steady t) (b : Bool) (x y : Decoded) :
    s.Steady (t.unexpectedRecord g b x y) :=
  h.within ((State.Within.refl _ _ _).unexpectedRecord (by decide) (by decide) g b x y)

theorem State.Steady.positionFault (h : s.Steady t) : s.Steady (t.positionFault g) :=
  h.within ((State.Within.refl _ _ _).positionFault (by decide) (by decide) (by decide) (by simp))

theorem State.Steady.clearPositionFault (h : s.Steady t) : s.Steady (t.clearPositionFault g) :=
  h.within ((State.Within.refl _ _ _).clearPositionFault (by decide) (by decide) (by decide) (by simp))

/-! ### Line bus (R131 to R146) -/

theorem State.Steady.enterBus (h : s.Steady t) (st : BusState) (c : List Byte) : s.Steady (t.enterBus st c) := h.setBus _

theorem State.Steady.mapQueue (h : s.Steady t) (k : List BusEntry → List BusEntry) : s.Steady (t.mapQueue k) := h.setBus _

theorem State.Steady.startPreamble (h : s.Steady t) : s.Steady t.startPreamble :=
  h.within ((State.Within.refl _ _ _).startPreamble (by decide))

theorem State.Steady.busEnqueue (h : s.Steady t) (e : BusEntry) : s.Steady (t.busEnqueue e) :=
  h.within ((State.Within.refl _ _ _).busEnqueue (by decide) e)

theorem State.Steady.unitHeard (h : s.Steady t) (a : Nat) (w : UnitWord) : s.Steady (t.unitHeard a w) :=
  h.within ((State.Within.refl _ _ _).unitHeard (by decide) (by decide) a w)

theorem State.Steady.takeReport (h : s.Steady t) (r : ReportTaken) : s.Steady (t.takeReport r).1 :=
  h.within ((State.Within.refl _ _ _).takeReport (by decide) (by decide) r)

theorem State.Steady.setIsolated (h : s.Steady t) (a : Nat) (v : Bool) : s.Steady (t.setIsolated a v) := by
  unfold State.setIsolated
  split
  · exact h
  · exact ((h.setBus _).setFlag _).requestRetention _

theorem State.Steady.busHandOn (h : s.Steady t) (e : BusEntry) (c : CompletionCode) : s.Steady (t.busHandOn e c) :=
  h.within ((State.Within.refl _ _ _).busHandOn (by decide) (by decide) (by decide) e c)

theorem State.Steady.endAttempt (h : s.Steady t) (c : CompletionCode) : s.Steady (t.endAttempt c).1 :=
  h.within ((State.Within.refl _ _ _).endAttempt (by decide) (by decide) (by decide) c)

theorem State.Steady.withdrawHunt (h : s.Steady t) : s.Steady t.withdrawHunt.1 :=
  h.within ((State.Within.refl _ _ _).withdrawHunt (by decide))

/-! ### The end of a hunt and the choice of a block (R162 to R166, R169) -/

theorem State.Steady.cancelWindow (h : s.Steady t) : s.Steady (t.cancelWindow g) := h.setWindow none

theorem State.Steady.huntRelease (h : s.Steady t) : s.Steady (t.huntRelease g) := by
  unfold State.huntRelease
  dsimp only
  split
  · exact (h.withdrawHunt.setHunt _).cancelWindow
  · exact h.withdrawHunt.cancelWindow

theorem State.Steady.huntFinish (h : s.Steady t) (r : EndReason) (d : EndDetail) : s.Steady (t.huntFinish g r d) :=
  ((h.huntRelease.removeHunt.setHunt _).record _ _ _).setFlag _

theorem State.Steady.huntAborted (h : s.Steady t) : s.Steady (t.huntAborted g) := by
  unfold State.huntAborted
  split
  · exact .causedBy _ _ (h.huntFinish _ _)
  · exact h.huntFinish _ _

theorem State.Steady.closePause (h : s.Steady t) (r : PauseReason) : s.Steady (t.closePause g r) :=
  ((h.setHunt _).record _ _ _).setFlag _

theorem State.Steady.proceed (h : s.Steady t) (b : Nat) : s.Steady (t.proceed b).1 := by
  unfold State.proceed
  split
  · exact h.setHunt _
  · exact h

theorem State.Steady.takeDetour (h : s.Steady t) (n : Nat) : s.Steady (t.takeDetour g n).1 := by
  unfold State.takeDetour
  dsimp only
  split
  · exact (h.setHunt _).huntFinish _ _
  · exact ((h.setHunt _).setHunt _).proceed _

theorem State.Steady.chooseNext (h : s.Steady t) (n : Nat) : s.Steady (t.chooseNext g n).1 := by
  unfold State.chooseNext
  dsimp only
  split
  · exact h.takeDetour n
  split
  · exact (h.setHunt _).proceed _
  split
  · exact h.huntFinish _ _
  · exact h.proceed n

theorem State.Steady.traceBlock (h : s.Steady t) (o : BlockOutcome) (b : Bool) : s.Steady (t.traceBlock g o b) := by
  unfold State.traceBlock
  dsimp only
  split
  · exact ((h.setHunt _).record _ _ _).setFlag _
  · exact h.setHunt _

theorem State.Steady.completeBlock (h : s.Steady t) (o : BlockOutcome) (b : Bool) : s.Steady (t.completeBlock g o b).1 :=
  (h.traceBlock o b).chooseNext _

theorem State.Steady.detourBlock (h : s.Steady t) : s.Steady (t.detourBlock g).1 :=
  (h.cancelWindow.setHunt _).completeBlock _ _

/-! ### Unit and breaker operations of the engine (R157, R158, R160) -/

theorem State.Steady.huntOffer (h : s.Steady t) (k : UnitCommandKind) : s.Steady (t.huntOffer g k).1 := by
  have offered : s.Steady (t.offerHunt g t.currentBlock.unit k).1 :=
    h.within ((State.Within.refl _ _ _).offerHunt (by decide) g _ k)
  unfold State.huntOffer
  dsimp only
  split
  · exact offered.setHunt _
  · exact offered
  · exact offered

theorem State.Steady.huntTrip (h : s.Steady t) : s.Steady (t.huntTrip g).1 := by
  unfold State.huntTrip
  dsimp only
  split
  · exact (h.tripRequest _).tellCut _
  · exact h.tripRequest _

theorem State.Steady.huntTripFailed (h : s.Steady t) : s.Steady (t.huntTripFailed g).1 := (h.huntFinish _ _).seqBreakerFail

theorem State.Steady.awaitTrip (h : s.Steady t) : s.Steady t.awaitTrip.1 := h.setHunt _

theorem State.Steady.huntSecure (h : s.Steady t) : s.Steady (t.huntSecure g).1 := by
  have securing := h.setHunt { t.hunt with phase := .securing, awaiting := .nothing }
  unfold State.huntSecure
  dsimp only
  split
  · split
    · exact securing.completeBlock _ _
    split
    · exact securing.huntOffer _
    · exact (securing.huntOffer _).huntFinish _ _
  split
  · exact securing.completeBlock _ _
  split
  · exact securing.huntTrip.awaitTrip
  · exact securing.huntTrip.awaitTrip
  · exact securing.huntTrip.awaitTrip
  · exact securing.huntTrip.completeBlock _ _
  · exact securing.huntTrip.huntTripFailed

theorem State.Steady.testDecided (h : s.Steady t) (b : Bool) : s.Steady (t.testDecided g b).1 := by
  unfold State.testDecided
  split
  · exact h.huntSecure
  · exact h.completeBlock _ _

/-! ### Observation (R159, R160) -/

theorem State.Steady.openWindow (h : s.Steady t) : s.Steady (t.openWindow g) := (h.setHunt _).setWindow _

theorem State.Steady.countWindow (h : s.Steady t) (n : Nat) : s.Steady (t.countWindow n) := h.setHunt _

theorem State.Steady.huntObserve (n : Nat) (h : s.Steady t) : s.Steady (huntObserve g n t).1 := by
  induction n generalizing t with
  | zero => exact h.testDecided _
  | succ n ih =>
    unfold Machine.huntObserve
    dsimp only
    split
    · split
      · exact (h.countWindow 0).testDecided _
      · exact ih (h.countWindow 0)
    · exact h.openWindow

theorem State.Steady.windowClosed (h : s.Steady t) (w : WindowReport) : s.Steady (t.windowClosed g w).1 := by
  unfold State.windowClosed
  dsimp only
  split
  · exact (h.countWindow _).testDecided _
  · exact (h.countWindow _).huntObserve _

/-! ### Acting (R156 to R158, R161, R165) -/

theorem State.Steady.actionEnded (h : s.Steady t) (o : BlockOutcome) : s.Steady (t.actionEnded g o).1 := by
  unfold State.actionEnded
  dsimp only
  split
  · exact (h.setHunt _).detourBlock
  · exact (h.setHunt _).huntObserve _

theorem State.Steady.unitFailed (h : s.Steady t) (c : FailCode) : s.Steady (t.unitFailed g c).1 := by
  unfold State.unitFailed
  dsimp only
  split
  · split
    · exact (h.setHunt _).detourBlock
    · exact (h.setHunt _).testDecided _
  · exact (h.setHunt _).huntFinish _ _

theorem State.Steady.actUnit (h : s.Steady t) (k : UnitCommandKind) : s.Steady (t.actUnit g k).1 := by
  unfold State.actUnit
  dsimp only
  split
  · exact h.unitFailed _
  split
  · exact h.huntOffer k
  · exact (h.huntOffer k).unitFailed _

theorem State.Steady.actOpenBreaker (h : s.Steady t) : s.Steady (t.actOpenBreaker g).1 := by
  unfold State.actOpenBreaker
  dsimp only
  split
  · exact h.huntTrip.awaitTrip
  · exact h.huntTrip.awaitTrip
  · exact h.huntTrip.awaitTrip
  · exact h.huntTrip.actionEnded _
  · exact h.huntTrip.huntTripFailed

theorem State.Steady.huntRefused (h : s.Steady t) (r : CloseRefusal) : s.Steady (t.huntRefused g r).1 := by
  cases r with
  | notOpen => exact h.actionEnded _
  | barred => exact h.closePause _
  | busy =>
    unfold State.huntRefused
    dsimp only
    split
    · exact h.actionEnded _
    · exact h.huntFinish _ _

theorem State.Steady.huntCloseTaken (h : s.Steady t) (c : CloseTaken) : s.Steady (t.huntCloseTaken g c).1 := by
  obtain same | ⟨_, _, ⟨_, granted⟩ | ⟨r, _, _, ⟨_, refused⟩ | ⟨_, aborted⟩⟩⟩ := t.huntCloseTaken_cases g c
  · rw [same]; exact h
  · rw [granted]; exact h.setHunt _
  · rw [refused]; exact h.huntRefused r
  · rw [aborted]; exact h.huntAborted

theorem State.Steady.takeHuntClose (h : s.Steady t) : s.Steady (t.takeHuntClose g).1 :=
  ((h.setBreaker _).closeRequest _ _).huntCloseTaken _

theorem State.Steady.actCloseBreaker (h : s.Steady t) : s.Steady (t.actCloseBreaker g).1 := by
  have sent : s.Steady (t.sendHuntClose g) := (h.setHunt _).setBreaker _
  unfold State.actCloseBreaker
  split
  · exact h.actionEnded _
  split
  · exact sent.takeHuntClose
  · exact sent

theorem State.Steady.actClose (h : s.Steady t) : s.Steady (t.actClose g).1 := by
  unfold State.actClose
  split
  · exact h.actUnit _
  · exact h.actUnit _
  · exact h.actCloseBreaker

theorem State.Steady.markUnit (h : s.Steady t) : s.Steady (t.markUnit g) := by
  unfold State.markUnit
  dsimp only
  split
  · exact h
  split
  · exact h.setIsolated _ _
  · exact (h.setHunt _).setIsolated _ _

theorem State.Steady.huntReturn (h : s.Steady t) : s.Steady (t.huntReturn g).1 := by
  unfold State.huntReturn
  dsimp only
  split
  · exact (h.traceBlock _ _).huntFinish _ _
  · exact ((h.traceBlock _ _).setHunt _).chooseNext _

theorem State.Steady.beginBlock (h : s.Steady t) (b : Nat) : s.Steady (t.beginBlock g b).1 := by
  have entered := h.setHunt (t.hunt.enterBlock b)
  unfold State.beginBlock
  dsimp only
  split
  · exact (entered.traceBlock _ _).huntFinish _ _
  · exact entered.huntReturn
  · exact entered.markUnit.completeBlock _ _
  · exact entered.huntObserve _
  · exact entered.actUnit _
  · exact entered.actOpenBreaker
  split
  · exact entered.closePause _
  · exact entered.actClose

theorem State.Steady.huntRun {go : Go} (h : s.Steady go.1) : s.Steady (State.huntRun go g) := by
  unfold State.huntRun
  generalize stepBudget - go.1.hunt.steps = n
  induction n generalizing go with
  | zero =>
    obtain ⟨t, _ | b⟩ := go
    · exact h
    · exact h.huntFinish _ _
  | succ n ih =>
    obtain ⟨t, _ | b⟩ := go
    · exact h
    · exact ih (h.beginBlock b)

/-! ### What the engine is told (R156 to R168) -/

theorem State.Steady.huntNote (h : s.Steady t) (k : StoppingNotes → StoppingNotes) : s.Steady (t.huntNote k) := h.setHunt _

theorem State.Steady.tripRunning (h : s.Steady t) : s.Steady (t.tripRunning g) := by
  unfold State.tripRunning
  dsimp only
  split
  · split
    · exact h.setHunt _
    · exact h.detourBlock.huntRun
  · exact h.setHunt _
  split
  · exact h
  split
  · split
    · exact ((h.setHunt _).actionEnded _).huntRun
    · exact ((h.setHunt _).actionEnded _).huntRun
  · split
    · exact h.setHunt _
    · exact h.setHunt _

theorem State.Steady.tripPaused (h : s.Steady t) : s.Steady (t.tripPaused g) := by
  unfold State.tripPaused
  dsimp only
  split
  · exact h.huntFinish _ _
  split
  · exact h.setHunt _
  · exact State.Steady.huntRun (h.setHunt _)

theorem State.Steady.huntTripTaken (h : s.Steady t) : s.Steady (t.huntTripTaken g) := by
  unfold State.huntTripTaken
  split
  · exact h.tripRunning
  split
  · exact h.tripPaused
  · exact h

theorem State.Steady.huntTripReport (h : s.Steady t) : s.Steady (t.huntTripReport g) := by
  unfold State.huntTripReport
  split
  · exact h.huntNote _
  · exact h.huntTripTaken

theorem State.Steady.huntUnexpected (h : s.Steady t) (b : Bool) : s.Steady (t.huntUnexpected g b) := by
  unfold State.huntUnexpected
  split
  · exact h.huntNote _
  split
  · exact h.huntTripTaken
  split
  · exact h.huntFinish _ _
  · exact h

theorem State.Steady.huntUnitMove (h : s.Steady t) (i : Nat) : s.Steady (t.huntUnitMove g i) := by
  unfold State.huntUnitMove
  split
  · exact h.huntNote _
  split
  · exact h.huntFinish _ _
  · exact h

theorem State.Steady.huntMeasurementLost (h : s.Steady t) : s.Steady (t.huntMeasurementLost g) := by
  unfold State.huntMeasurementLost
  split
  · exact h.huntNote _
  split
  · exact h.huntFinish _ _
  · exact h

theorem State.Steady.huntBreakerFail (h : s.Steady t) : s.Steady (t.huntBreakerFail g) := by
  unfold State.huntBreakerFail
  split
  · exact h.huntNote _
  split
  · exact h.huntFinish _ _
  · exact h

theorem State.Steady.huntTripAnswer (h : s.Steady t) : s.Steady (t.huntTripAnswer g) := by
  unfold State.huntTripAnswer
  split
  · exact h
  split
  · exact h.huntAborted
  split
  · split
    · exact (h.completeBlock _ _).huntRun
    · exact (h.actionEnded _).huntRun
  · exact h

theorem State.Steady.huntCloseAnswer (h : s.Steady t) (b : Bool) : s.Steady (t.huntCloseAnswer g b) := by
  unfold State.huntCloseAnswer
  split
  · exact h
  split
  · exact h.huntAborted
  split
  · split
    · exact (h.actionEnded _).huntRun
    · exact h.huntFinish _ _
  · exact h

theorem State.Steady.huntCloseCut (h : s.Steady t) : s.Steady (t.huntCloseCut g) := by
  unfold State.huntCloseCut
  split
  · exact h
  split
  · exact h.huntAborted
  split
  · split
    · exact (h.actionEnded _).huntRun
    · exact h.setHunt _
  · exact h

theorem State.Steady.huntWindowReport (h : s.Steady t) (w : WindowReport) : s.Steady (t.huntWindowReport g w) := by
  unfold State.huntWindowReport
  split
  · exact (h.windowClosed w).huntRun
  · exact h

theorem State.Steady.huntUnitDone (h : s.Steady t) (c : CompletionCode) : s.Steady (t.huntUnitDone c) := by
  unfold State.huntUnitDone
  split
  · exact h
  split
  · exact h.huntAborted
  split
  · split
    · split
      · exact (h.completeBlock _ _).huntRun
      · exact h.huntFinish _ _
    split
    · exact (h.actionEnded _).huntRun
    · exact (h.unitFailed _).huntRun
  · exact h.setHunt _

theorem State.Steady.huntAttemptFailed (h : s.Steady t) : s.Steady t.huntAttemptFailed := by
  unfold State.huntAttemptFailed
  split
  · exact h
  split
  · exact h.withdrawHunt.huntAborted
  split
  · exact h
  · exact h.withdrawHunt.setHunt _

theorem State.Steady.takeHuntCloses (h : s.Steady t) : s.Steady t.takeHuntCloses := by
  refine State.Steady.foldl (fun {u} k f => ?_) h _
  split
  · exact k.takeHuntClose.huntRun
  · exact k

theorem State.Steady.huntRecheck (h : s.Steady t) : s.Steady (t.huntRecheck g) := by
  unfold State.huntRecheck
  split
  · split
    · exact h.setHunt _
    · exact (h.setHunt _).actClose.huntRun
  · exact h

theorem State.Steady.huntResume (h : s.Steady t) : s.Steady (t.huntResume g) := State.Steady.huntRun (h.setHunt _)

theorem State.Steady.huntAbortBy (h : s.Steady t) (p : Port) : s.Steady (t.huntAbortBy g p) := by
  have stopping : s.Steady ((t.setHunt
      { t.hunt with
        state := .stopping, abortPort := some p, pauseTimer := none, pendingDetour := false
        insertion := none }).cancelWindow g) := (h.setHunt _).cancelWindow
  unfold State.huntAbortBy
  split
  · dsimp only
    split
    · split
      · exact stopping.withdrawHunt
      · exact stopping.withdrawHunt.huntAborted
    · exact stopping
    · exact stopping
    · exact stopping
    · exact stopping.huntAborted
  · exact h

/-! ### Movements of a breaker (R49 to R63) -/

theorem State.Steady.answerTripConfirmed (h : s.Steady t) (r : Requester) : s.Steady (t.answerTripConfirmed g r) := by
  cases r with
  | master p => exact h.reply _ _
  | hunt => exact h.huntTripAnswer
  | protection => exact h
  | sequencer => exact h

theorem State.Steady.answerBreakerFail (h : s.Steady t) (r : Requester) : s.Steady (t.answerBreakerFail g r) := by
  cases r with
  | master p => exact h.reply _ _
  | hunt => exact h.huntBreakerFail.huntTripAnswer
  | protection => exact h
  | sequencer => exact h

theorem State.Steady.tripConfirmed (h : s.Steady t) (op : TripOp) : s.Steady (t.tripConfirmed g op) :=
  (State.Steady.foldl (fun k r => k.answerTripConfirmed r) (h.tripConfirmedRecord op) _).seqTripConfirmed _ _

theorem State.Steady.lateOpen (h : s.Steady t) (x : FailedTrip) : s.Steady (t.lateOpen g x) :=
  (h.lateOpenRecord x).seqLateOpen

theorem State.Steady.closeConfirmed (h : s.Steady t) (op : CloseOp) : s.Steady (t.closeConfirmed g op) := by
  have said := h.closeConfirmedRecord (g := g) op
  unfold State.closeConfirmed
  dsimp only
  split
  · exact (said.reply _ _).seqCloseConfirmed _
  · exact (said.huntCloseAnswer _).seqCloseConfirmed _
  · exact said.seqCloseConfirmed _
  · exact said.seqCloseConfirmed _

theorem State.Steady.closeFailed (h : s.Steady t) (op : CloseOp) : s.Steady (t.closeFailed g op) := by
  have said := h.closeFailRecord (g := g) op
  unfold State.closeFailed
  cases op.requester with
  | master p => exact .causedBy _ _ ((said.reply _ _).seqCloseFail _)
  | hunt => exact (said.huntCloseAnswer _).seqCloseFail _
  | protection => exact said.seqCloseFail _
  | sequencer => exact said.seqCloseFail _

theorem State.Steady.closeCut (h : s.Steady t) (op : CloseOp) : s.Steady (t.closeCut g op) := by
  unfold State.closeCut
  split
  · exact h.huntCloseCut.seqCut _
  · exact h.tellCut op

theorem State.Steady.passTrip (h : s.Steady t) (p : Port) : s.Steady (t.passTrip g p) := by
  unfold State.passTrip
  dsimp only
  split
  · exact h.tripRequest _
  · exact h.tripRequest _
  · exact (h.tripRequest _).closeCut _
  · exact ((h.tripRequest _).reply _ _).seqAlreadyOpen _ _
  · exact ((h.tripRequest _).reply _ _).huntBreakerFail.seqBreakerFail

theorem State.Steady.failSequencer (h : s.Steady t) : s.Steady (t.failSequencer g) := by
  unfold State.failSequencer
  split
  · exact h
  · exact State.Steady.foldl (fun k p => k.passTrip p) h.seqBreakerFail _

theorem State.Steady.breakerFailed (h : s.Steady t) (op : TripOp) : s.Steady (t.breakerFailed g op) :=
  (State.Steady.foldl (fun k r => k.answerBreakerFail r) (h.breakerFailRecord op) _).huntBreakerFail.failSequencer

theorem State.Steady.unexpectedMovement (h : s.Steady t) (b : Bool) (x y : Decoded) :
    s.Steady (t.unexpectedMovement g b x y) := ((h.unexpectedRecord b x y).seqUnexpected b).huntUnexpected b

theorem State.Steady.readContacts (h : s.Steady t) (c : Contacts) : s.Steady (t.readContacts g c) := by
  unfold State.readContacts
  dsimp only
  split
  · exact (h.setBreaker _).clearPositionFault
  · exact h.setBreaker _

theorem State.Steady.changedToOpen (h : s.Steady t) (b : Bool) (x : Decoded) : s.Steady (t.changedToOpen g b x) := by
  unfold State.changedToOpen
  dsimp only
  split
  · split
    · split
      · exact (h.setBreaker _).lateOpen _
      · exact h.setBreaker _
    · exact h.tripConfirmed _
  · split
    · exact h.lateOpen _
    split
    · exact h.unexpectedMovement _ _ _
    · exact h

theorem State.Steady.changedToClosed (h : s.Steady t) (b : Bool) (x : Decoded) : s.Steady (t.changedToClosed g b x) := by
  unfold State.changedToClosed
  dsimp only
  split
  · exact h.closeConfirmed _
  · split
    · exact h
    split
    · exact h.setBreaker _
    · exact h.unexpectedMovement _ _ _
  · split
    · exact h
    · exact h.unexpectedMovement _ _ _

theorem State.Steady.contactChange (h : s.Steady t) (c : Contacts) : s.Steady (t.contactChange g c) := by
  have read := h.readContacts (g := g) c
  unfold State.contactChange
  dsimp only
  split
  · exact h
  split
  · exact read.changedToOpen _ _
  · exact read.changedToClosed _ _
  · exact read
  · exact read

theorem State.Steady.pulseEnd (h : s.Steady t) : s.Steady (t.pulseEnd g) := by
  unfold State.pulseEnd
  dsimp only
  split
  · exact h
  · split
    · split
      · exact h.tripConfirmed _
      · exact h.setBreaker _
    · exact h
    · exact h.setBreaker _
  · split
    · exact h.setBreaker _
    · exact h

theorem State.Steady.tripTimeEnd (h : s.Steady t) : s.Steady (t.tripTimeEnd g) := by
  unfold State.tripTimeEnd
  dsimp only
  split
  · split
    · exact h
    split
    · exact h.tripConfirmed _
    · exact h.breakerFailed _
  · exact h

theorem State.Steady.closeTimeEnd (h : s.Steady t) : s.Steady (t.closeTimeEnd g) := by
  unfold State.closeTimeEnd
  split
  · exact h.closeFailed _
  · exact h

/-- A standing RESTART moves. -/
theorem State.Steady.setRestart (h : s.Steady t) (r : Option RestartWait) : s.Steady { t with restart := r } :=
  ⟨h.fire, h.memory, h.writes, h.image, h.units⟩

theorem State.Steady.pollRestart (h : s.Steady t) : s.Steady t.pollRestart := by
  unfold State.pollRestart
  split
  · split
    · exact h.setRestart _
    · exact h
  · exact h

/-! ### A trip of the protection unit and a window (R25, R26, R45) -/

theorem State.Steady.protectionTrip (h : s.Steady t) (c : Cause) : s.Steady (t.protectionTrip g c) := by
  have told : ∀ {u}, s.Steady u → s.Steady ((u.protectionReport g c).huntTripReport g) :=
    fun k => (k.protectionReport c).huntTripReport
  unfold State.protectionTrip
  dsimp only
  split
  · exact told (h.tripRequest _)
  · exact told (h.tripRequest _)
  · exact told (h.tripRequest _).huntBreakerFail.failSequencer
  · exact told ((h.tripRequest _).closeCut _)
  · exact told ((h.tripRequest _).seqAlreadyOpen _ _)

theorem State.Steady.windowSample (h : s.Steady t) : s.Steady (t.windowSample g) := by
  unfold State.windowSample
  dsimp only
  split
  · exact h
  split
  · exact (h.setWindow _).huntWindowReport _
  · exact h.setWindow _

/-! ### Removals and the records of a level (R92, R99, R121, R122) -/

theorem State.Steady.removeHold (h : s.Steady t) (e : Hold) (c : RemovalCause) (p : Option Port) :
    s.Steady (t.removeHold g e c p) := (h.takeOffHold e c p).huntRecheck.retainAfter e

theorem State.Steady.reconcileFire (h : s.Steady t) (e : Effective) : s.Steady (t.reconcileFire g e) := by
  unfold State.reconcileFire State.removeFire
  split
  · exact h.placeAutomatic _ _ _
  split
  · exact h.removeHold _ _ _
  · exact h

theorem State.Steady.levelChanged (h : s.Steady t) (old new : Effective) (c : FireCause) :
    s.Steady (t.levelChanged g old new c) :=
  h.within ((State.Within.refl _ _ _).levelChanged (by decide) (by decide) g old new c)

end Sys2Proof.Machine
end

section
/-! SUPPORT. What a step can do to the settings and to the protection units: every command is a run of the few moves listed
here, between which all of them stand. A law of the settings or of the units is then a law of the moves. -/

namespace Sys2Proof.Machine

/-! ### Frames at a port (R184 to R188) -/

/-- All that a frame can meet before its checks: nothing, a change of its port, or its checks on the port that took it. -/
theorem State.takeFrame_cases (s : State) (p : Port) (n : Nat) (code : Byte) (m : Bool) (check : State → State) :
    s.takeFrame p n code m check = s ∨ (∃ q, s.takeFrame p n code m check = s.setPort p q) ∨
      ∃ q, s.takeFrame p n code m check = check (s.setPort p q) := by
  unfold State.takeFrame
  dsimp only
  split
  · exact .inl rfl
  split
  · exact .inr (.inl ⟨_, State.setPort_setPort _ _ _ _⟩)
  split
  · unfold State.noteBusy
    split
    · exact .inr (.inl ⟨_, State.setPort_setPort _ _ _ _⟩)
    · exact .inr (.inl ⟨_, rfl⟩)
  · exact .inr (.inr ⟨_, congrArg check (State.setPort_setPort _ _ _ _)⟩)

/-- All that a READ-class request can meet: nothing, a change of its port, or its owner. -/
theorem State.readRequest_cases (s : State) (p : Port) (code : Byte) (granted : Bool) (fr : Frame) (owner : State → State) :
    s.readRequest p code granted fr owner = s ∨ (∃ q, s.readRequest p code granted fr owner = s.setPort p q) ∨
      ∃ q, s.readRequest p code granted fr owner = owner (s.setPort p q) := by
  unfold State.readRequest
  obtain same | ⟨q, port⟩ | ⟨q, checked⟩ := s.takeFrame_cases p (frameSize fr) code (frameCheckMatches code fr) _
  · exact .inl same
  · exact .inr (.inl ⟨q, port⟩)
  · rw [checked]
    split
    · exact .inr (.inl ⟨_, (State.setPort_setPort _ _ _ _).trans (State.setPort_setPort _ _ _ _)⟩)
    split
    · exact .inr (.inl ⟨_, State.setPort_setPort _ _ _ _⟩)
    · exact .inr (.inr ⟨q, rfl⟩)

/-- All that a control-class request can meet: nothing, a change of its port, or its owner acting because of it. -/
theorem State.controlRequest_cases (s : State) (p : Port) (code : Byte) (granted : Bool) (fr : Frame)
    (owner : State → State) :
    s.controlRequest p code granted fr owner = s ∨ (∃ q, s.controlRequest p code granted fr owner = s.setPort p q) ∨
      ∃ q, s.controlRequest p code granted fr owner = (s.setPort p q).causedBy p owner := by
  unfold State.controlRequest
  obtain same | ⟨q, port⟩ | ⟨q, checked⟩ := s.takeFrame_cases p (frameSize fr) code (frameCheckMatches code fr) _
  · exact .inl same
  · exact .inr (.inl ⟨q, port⟩)
  · rw [checked]
    split
    · exact .inr (.inl ⟨_, (State.setPort_setPort _ _ _ _).trans (State.setPort_setPort _ _ _ _)⟩)
    split
    · exact .inr (.inl ⟨_, State.setPort_setPort _ _ _ _⟩)
    split
    · exact .inr (.inl ⟨_, State.setPort_setPort _ _ _ _⟩)
    · exact .inr (.inr ⟨_, congrArg (fun u : State => u.causedBy p owner) (State.setPort_setPort _ _ _ _)⟩)

/-- All that an event can do: its effect, or nothing. -/
theorem event_cases {s t : State} {g : State → State} (h : event s g = .next t) : t = g s ∨ t = s := by
  unfold event at h
  injection h with h
  split at h
  · exact .inl h.symm
  · exact .inr h.symm

/-! ### Moves of the settings and of the protection units -/

/-- The moves of the settings, of the protection units and of the store's writes. -/
inductive State.Move (s : State) : State → Prop where
  | steady {t : State} (h : s.Steady t) : s.Move t
  /-- The elements take a sample (R13, R34). -/
  | taken (f : Feeder) (x : Sample) : s.Move (s.setUnit f (s.unitTaken f x))
  /-- A qualifying sample updates a seeded baseline (R36). -/
  | updated (f : Feeder) (x : Sample) (seeded : (s.unit f).base.seeded = true) : s.Move (s.setUnit f (s.unitUpdated f x))
  /-- A discontinuity (R6). -/
  | cleared (f : Feeder) : s.Move (s.setUnit f (s.unit f).clearCounts)
  /-- An entry into LOST (R9). -/
  | lost (f : Feeder) : s.Move (s.setUnit f (s.unit f).clearLost)
  /-- The effective settings of a feeder are computed anew (R120). -/
  | recomputed (c : FireCause) (f : Feeder) : s.Move (State.recomputeFeeder c s f)
  /-- Fire requests, exposure classes and the site level move (R109, R112, R113). -/
  | fire (x : FireController) (curves : x.curves = s.fire.curves) (table : x.table = s.fire.table)
      (groups : x.groups = s.fire.groups) (effective : x.effective = s.fire.effective) : s.Move (s.setFire x)
  /-- A queued curve takes effect (R28). -/
  | curve (p : Port) (n : Nat) (c : Curve) (queued : ∃ e ∈ s.store.queue, e.job = .port p (.curve n c)) :
      s.Move (s.setFire { s.fire with curves := s.fire.curves.set (n - 1) c })
  /-- A queued group takes effect (R125). -/
  | group (p : Port) (f : Feeder) (l : Letter) (g : SettingGroup)
      (queued : ∃ e ∈ s.store.queue, e.job = .port p (.group f l g)) :
      s.Move (s.setFire
        { s.fire with
          groups := feederSet s.fire.groups f ((feederGet s.fire.groups f).set l { group := g, fallback := false }) })
  /-- A queued block of the fire action table takes effect (R116). -/
  | fields (p : Port) (start : Nat) (values : List Nat)
      (queued : ∃ e ∈ s.store.queue, e.job = .port p (.fireBlock start values)) :
      s.Move (s.setFire { s.fire with table := writeFields s.fire.table start values, replaced := false })
  /-- The fixed table is restored (R117). -/
  | restored : s.Move (s.setFire { s.fire with table := fixedTable, replaced := false })
  /-- Hunt blocks are written (R151). -/
  | blocks (first : Nat) (l : List HuntBlock) (valid : ∀ b ∈ l, huntBlockValid b = true) :
      s.Move (s.setHunt { s.hunt with memory := writeBlocks s.hunt.memory first l })
  /-- A write with values in their ranges is queued (R178). -/
  | queued (p : Port) (w : PortWrite) (valid : StoreEntry.inRange { job := .port p w, begun := false }) :
      s.Move (s.setStore { s.store with queue := s.store.queue ++ [{ job := .port p w, begun := false }] })
  /-- Records of the image are written (R178, R179, R105). -/
  | image (im : Image) : s.Move (s.setImage im)
  /-- Every block takes its power-on values (R176, R194). -/
  | rebuilt (pins : Pins) : s.Move (s.rebuild pins)

/-- A run of moves. -/
def State.Moves : State → State → Prop := Relation.ReflTransGen State.Move

variable {s t u : State} {f g : Feeder} {p : Port}

theorem State.Moves.refl (s : State) : s.Moves s := Relation.ReflTransGen.refl

theorem State.Moves.move (h : s.Moves t) (k : t.Move u) : s.Moves u := Relation.ReflTransGen.tail h k

theorem State.Moves.steady (h : s.Moves t) (k : t.Steady u) : s.Moves u := h.move (.steady k)

theorem State.Steady.moves (h : s.Steady t) : s.Moves t := (State.Moves.refl s).steady h

theorem State.Moves.trans (h : s.Moves t) (k : t.Moves u) : s.Moves u := Relation.ReflTransGen.trans h k

theorem State.Moves.foldl {α : Type} {op : State → α → State} (step : ∀ u x, State.Moves u (op u x)) (h : s.Moves t)
    (l : List α) : s.Moves (l.foldl op t) := by
  induction l generalizing t with
  | nil => exact h
  | cons x rest ih => exact ih (h.trans (step t x))

/-- A predicate that every move keeps is kept by a run of them. -/
theorem State.Moves.keeps {P : State → Prop} (move : ∀ {t u : State}, t.Move u → P t → P u) (h : s.Moves t) (k : P s) :
    P t := by
  unfold State.Moves at h
  induction h with
  | refl => exact k
  | tail _ step ih => exact move step ih

theorem State.Moves.causedBy {op : State → State} (h : s.Moves (op s)) : s.Moves (s.causedBy p op) :=
  h.steady ⟨⟨_, rfl⟩, rfl, (State.Steady.refl _).writes, rfl, (State.Steady.refl _).units⟩

theorem event_moves {op : State → State} (k : s.Moves (op s)) (h : event s op = .next t) : s.Moves t := by
  obtain rfl | rfl := event_cases h
  · exact k
  · exact .refl _

theorem event_steady {op : State → State} (k : s.Steady (op s)) (h : event s op = .next t) : s.Moves t :=
  event_moves k.moves h

theorem State.Moves.readRequest {code : Byte} {granted : Bool} {fr : Frame} {owner : State → State}
    (h : ∀ u, State.Steady u (owner u)) : s.Moves (s.readRequest p code granted fr owner) := by
  obtain same | ⟨q, port⟩ | ⟨q, owned⟩ := s.readRequest_cases p code granted fr owner
  · rw [same]; exact .refl s
  · rw [port]; exact ((State.Steady.refl s).setPort p q).moves
  · rw [owned]; exact ((State.Steady.refl s).setPort p q).moves.steady (h _)

theorem State.Moves.controlRequest {code : Byte} {granted : Bool} {fr : Frame} {owner : State → State}
    (h : ∀ u, State.Moves u (owner u)) : s.Moves (s.controlRequest p code granted fr owner) := by
  obtain same | ⟨q, port⟩ | ⟨q, owned⟩ := s.controlRequest_cases p code granted fr owner
  · rw [same]; exact .refl s
  · rw [port]; exact ((State.Steady.refl s).setPort p q).moves
  · rw [owned]; exact ((State.Steady.refl s).setPort p q).moves.trans (h _).causedBy

theorem State.Moves.controlRequest_steady {code : Byte} {granted : Bool} {fr : Frame} {owner : State → State}
    (h : ∀ u, State.Steady u (owner u)) : s.Moves (s.controlRequest p code granted fr owner) :=
  .controlRequest fun u => (h u).moves

/-- An effect that takes place or not. -/
theorem State.Steady.ite {c : Prop} [Decidable c] (h : s.Steady t) (k : s.Steady u) : s.Steady (if c then t else u) := by
  split
  · exact h
  · exact k

/-- An effect that takes place or not. -/
theorem State.Moves.ite {c : Prop} [Decidable c] (h : c → s.Moves t) (k : ¬ c → s.Moves u) :
    s.Moves (if c then t else u) := by
  split
  · exact h ‹_›
  · exact k ‹_›

/-! ### Line bus (R131 to R146) -/

theorem State.Steady.gapEnd (h : s.Steady t) : s.Steady t.gapEnd := by
  unfold State.gapEnd
  exact .ite ((h.mapQueue _).enterBus _ _) (h.mapQueue _).startPreamble

theorem State.Steady.activeSeen (h : s.Steady t) : s.Steady t.activeSeen := by
  obtain ⟨_, heard⟩ | ⟨_, anew⟩ | ⟨_, _, _, same⟩ := t.activeSeen_cases
  · rw [heard]; exact h.enterBus _ _
  · rw [anew]; exact h.setBus _
  · rw [same]; exact h

theorem State.Steady.attemptEnds (h : s.Steady t) (c : CompletionCode) : s.Steady (t.attemptEnds c) := by
  unfold State.attemptEnds
  dsimp only
  split
  · exact h.endAttempt c
  · exact .ite (h.endAttempt c).huntAttemptFailed (h.endAttempt c)
  · exact .ite ((h.endAttempt c).huntUnitDone _) (h.endAttempt c)

theorem State.Steady.takeReply (h : s.Steady t) (l : List Byte) (b : Bool) : s.Steady (t.takeReply l b) := by
  unfold State.takeReply
  dsimp only
  split
  · exact (h.unitHeard _ _).attemptEnds _
  · exact h.attemptEnds _

theorem State.Steady.hearFrame (h : s.Steady t) (l : List Byte) (b : Bool) : s.Steady (t.hearFrame l b) := by
  unfold State.hearFrame
  split
  · exact h.enterBus _ _
  · dsimp only
    split
    · exact ((h.takeReport _).setBus _).huntUnitMove _
    · exact (h.takeReport _).setBus _

theorem State.Steady.clampSeen (h : s.Steady t) : s.Steady t.clampSeen := ((h.mapQueue _).enterBus _ _).setBus _

theorem State.Steady.completeAll (h : s.Steady t) (c : CompletionCode) : s.Steady (t.completeAll c) :=
  State.Steady.foldl (fun k e => .ite ((k.busHandOn e c).huntUnitDone c) (k.busHandOn e c)) (h.mapQueue _) _

theorem State.Steady.linebusReset (h : s.Steady t) (p : Port) : s.Steady (t.linebusReset p) := by
  have clamped : s.Steady (if t.bus.state = .clampOut then t else t.enterBus .clampOut []) := .ite h (h.enterBus _ _)
  exact (clamped.completeAll _).setBus _

theorem State.Steady.clampOutEnd (h : s.Steady t) : s.Steady t.clampOutEnd :=
  State.Steady.foldl (fun k p => k.reply p _) ((h.enterBus _ _).setBus _) _

theorem State.Steady.becomeStuck (h : s.Steady t) : s.Steady t.becomeStuck :=
  ((((h.enterBus _ _).setBus _).completeAll _).append _ _ _).setFlag _

theorem State.Steady.busRestored (h : s.Steady t) : s.Steady t.busRestored := ((h.enterBus _ _).append _ _ _).setFlag _

theorem State.Steady.unitCommand (h : s.Steady t) (p : Port) (a : Nat) (k : UnitCommandKind) :
    s.Steady (t.unitCommand p a k) :=
  .ite (h.reply _ _) (.ite (h.reply _ _) (.ite (h.reply _ _) (.ite (h.reply _ _) ((h.busEnqueue _).respond _ _ _))))

/-! ### Hold tables (R93 to R102) -/

theorem State.Steady.answerHold (h : s.Steady t) (p : Port) (a : HoldAnswer) : s.Steady (t.answerHold p a) :=
  .ite (h.respond _ _ _) (h.reply _ _)

theorem State.Steady.placeMasterHold (h : s.Steady t) (p : Port) (k : HoldKind) (tag reason minutes : Nat) :
    s.Steady (t.placeMasterHold p g k tag reason minutes) := by
  unfold State.placeMasterHold
  dsimp only
  split
  · exact (h.refreshHold _ _ _).answerHold _ _
  · exact .ite (h.reply _ _) ((h.placeHold _ _ _).answerHold _ _)

theorem State.Steady.removeMasterHold (h : s.Steady t) (p : Port) (o : Owner) (tag : Nat) :
    s.Steady (t.removeMasterHold p g o tag) := by
  unfold State.removeMasterHold
  split
  · exact h.reply _ _
  split
  · exact (h.removeHold _ _ _).answerHold _ _
  · exact h.reply _ _

theorem State.Steady.holdExpires (h : s.Steady t) (p : Port) (tag : Nat) : s.Steady (t.holdExpires g p tag) := by
  unfold State.holdExpires
  split
  · exact .ite (h.removeHold _ _ _) h
  · exact h

theorem State.Steady.patrolClear (h : s.Steady t) (p : Port) : s.Steady (t.patrolClear p g) := by
  unfold State.patrolClear
  split
  · exact (h.removeHold _ _ _).answerHold _ _
  · exact h.reply _ _

/-! ### Hunt requests (R153 to R167) -/

theorem State.Steady.startHunt (h : s.Steady t) (p : Port) (a b : Nat) (m : Bool) : s.Steady (t.startHunt p g a b m) :=
  State.Steady.huntRun (((((h.setHunt _).placeAutomatic _ _ _).append _ _ _).setFlag _).reply _ _)

theorem State.Steady.insertHunt (h : s.Steady t) (a : Nat) : s.Steady (t.insertHunt g a) := by
  unfold State.insertHunt
  dsimp only
  split
  · exact h.setHunt _
  split
  · exact h.setHunt _
  · exact State.Steady.huntRun (h.setHunt _)

theorem State.Steady.pauseEnd (h : s.Steady t) : s.Steady t.pauseEnd := by
  unfold State.pauseEnd
  split
  · exact h
  · exact .ite (h.huntFinish _ _) h

/-! ### Reclose sequencer (R72 to R80) -/

theorem State.Steady.manualOpen (h : s.Steady t) (p : Port) : s.Steady (t.manualOpen g p) := by
  unfold State.manualOpen
  dsimp only
  split
  · exact (h.setSequencer _).passTrip p
  · exact (h.setSequencer _).passTrip p
  · exact (h.setSequencer _).passTrip p
  · exact .ite (h.setSequencer _) ((h.setSequencer _).passTrip p)
  · exact (h.setSequencer _).passTrip p
  · exact h.passTrip p
  · exact (h.huntAbortBy p).passTrip p
  · exact .ite (h.passTrip p) (h.reply _ _)

theorem State.Steady.manualClose (h : s.Steady t) (p : Port) : s.Steady (t.manualClose g p) := by
  unfold State.manualClose
  split
  · dsimp only
    split
    · exact (h.closeRequest _ _).moveSequencer _
    · exact (h.closeRequest _ _).respond _ _ _
  · exact h.reply _ _

theorem State.Steady.releaseOpens (h : s.Steady t) (l : List Port) : s.Steady (t.releaseOpens g l) :=
  State.Steady.foldl (fun k p => k.passTrip p) (h.moveSequencer _) _

theorem State.Steady.takeAutoClose (h : s.Steady t) : s.Steady (t.takeAutoClose g) := by
  unfold State.takeAutoClose
  dsimp only
  split
  · exact ((h.setBreaker _).closeRequest _ _).seqGrant.releaseOpens _
  · exact (((h.setBreaker _).closeRequest _ _).seqRefused _).releaseOpens _

theorem State.Steady.deadEnd (h : s.Steady t) : s.Steady (t.deadEnd g) :=
  .ite (h.lockout _ _) (.ite (h.lockout _ _) ((h.setSequencer _).setBreaker _))

theorem State.Steady.deadTimer (h : s.Steady t) (b : Bool) : s.Steady (t.deadTimer g b) :=
  .ite h.takeAutoClose (.ite (.ite h.deadEnd.takeAutoClose h.deadEnd) h)

/-! ### Time and ports (R11, R12, R175, R184 to R194) -/

/-- The clock moves. -/
theorem State.Steady.setTime (h : s.Steady t) (ms : Ms) (d : TimeOfDay) (b : Bool) :
    s.Steady { t with ms := ms, time := d, timeSet := b } := ⟨h.fire, h.memory, h.writes, h.image, h.units⟩

theorem State.Steady.tick (h : s.Steady t) : s.Steady t.tick := by
  have clock : s.Steady t.clock := h.setTime _ _ _
  have ack : s.Steady t.clock.openAck := .ite (clock.enterBus _ _) clock
  exact ack.takeHuntCloses

theorem State.Steady.answerData (h : s.Steady t) (p : Port) (l : List Byte) : s.Steady (t.answerData p l) := h.respond _ _ _

theorem State.Steady.badArgument (h : s.Steady t) (p : Port) : s.Steady (t.badArgument p) := h.reply _ _

theorem State.Steady.restartAsked (h : s.Steady t) (p : Port) : s.Steady (t.restartAsked p) := by
  unfold State.restartAsked
  split
  · exact (h.setRestart _).pollRestart
  · exact h

theorem State.Steady.readTransfer (h : s.Steady t) (p : Port) (n : Nat) : s.Steady (t.readTransfer p n) := by
  unfold State.readTransfer
  dsimp only
  split
  · exact h
  split
  · exact .ite ((h.setPort _ _).setPort _ _) (h.setPort _ _)
  · split
    · exact (h.setPort _ _).setPort _ _
    · exact h.setPort _ _
  · exact h.setPort _ _

/-! ### Owners that leave the settings -/

section

variable (p : Port) (pl : List Byte) (s : State)

theorem ownerSetTime_steady : s.Steady (ownerSetTime p pl s) :=
  .ite ((((State.Steady.refl s).setTime _ _ _).append _ _ _).reply _ _) ((State.Steady.refl s).badArgument p)

theorem ownerLinebusReset_steady : s.Steady (ownerLinebusReset p pl s) :=
  .ite (.ite ((State.Steady.refl s).reply _ _) ((State.Steady.refl s).linebusReset p)) ((State.Steady.refl s).badArgument p)

theorem ownerUnitCommand_steady : s.Steady (ownerUnitCommand p pl s) := by
  unfold ownerUnitCommand
  dsimp only
  split
  · exact .ite ((State.Steady.refl s).unitCommand _ _ _) ((State.Steady.refl s).badArgument p)
  · exact (State.Steady.refl s).badArgument p

theorem ownerClearIsolation_steady : s.Steady (ownerClearIsolation p pl s) :=
  .ite (.ite (((State.Steady.refl s).setIsolated _ _).reply _ _) ((State.Steady.refl s).reply _ _))
    ((State.Steady.refl s).badArgument p)

theorem ownerPlaceHold_steady : s.Steady (ownerPlaceHold p pl s) := by
  unfold ownerPlaceHold
  split
  · exact .ite ((State.Steady.refl s).placeMasterHold _ _ _ _ _) ((State.Steady.refl s).badArgument p)
  · exact (State.Steady.refl s).badArgument p

theorem ownerRemoveHold_steady : s.Steady (ownerRemoveHold p pl s) := by
  unfold ownerRemoveHold
  split
  · exact .ite ((State.Steady.refl s).removeMasterHold _ _ _) ((State.Steady.refl s).badArgument p)
  · exact (State.Steady.refl s).badArgument p

theorem ownerPatrolClear_steady : s.Steady (ownerPatrolClear p pl s) := by
  unfold ownerPatrolClear
  split
  · exact (State.Steady.refl s).patrolClear p
  · exact (State.Steady.refl s).badArgument p

theorem ownerStartHunt_steady : s.Steady (ownerStartHunt p pl s) := by
  unfold ownerStartHunt
  dsimp only
  split
  · refine .ite (.ite ((State.Steady.refl s).reply _ _) (.ite ((State.Steady.refl s).reply _ _) ?_))
      ((State.Steady.refl s).badArgument p)
    split
    · exact (State.Steady.refl s).respond _ _ _
    split
    · exact (State.Steady.refl s).respond _ _ _
    · exact (State.Steady.refl s).startHunt _ _ _ _
  · exact (State.Steady.refl s).badArgument p

theorem ownerHuntInsert_steady : s.Steady (ownerHuntInsert p pl s) := by
  unfold ownerHuntInsert
  dsimp only
  refine .ite ?_ ((State.Steady.refl s).badArgument p)
  split
  · exact (State.Steady.refl s).reply _ _
  refine .ite ((State.Steady.refl s).reply _ _) (.ite ((State.Steady.refl s).reply _ _) ?_)
  split
  · exact (State.Steady.refl s).respond _ _ _
  split
  · exact (State.Steady.refl s).respond _ _ _
  · exact ((State.Steady.refl s).reply _ _).insertHunt _

theorem ownerHuntStepMode_steady : s.Steady (ownerHuntStepMode p pl s) := by
  have moded : ∀ m, s.Steady ((s.setHunt { s.hunt with stepMode := m }).reply p .accepted) :=
    fun m => ((State.Steady.refl s).setHunt _).reply _ _
  unfold ownerHuntStepMode
  split
  · refine .ite ?_ ((State.Steady.refl s).badArgument p)
    split
    · exact (State.Steady.refl s).reply _ _
    · exact .ite (.ite (moded _).huntResume (moded _)) ((State.Steady.refl s).reply _ _)
  · exact (State.Steady.refl s).badArgument p

theorem ownerHuntContinue_steady : s.Steady (ownerHuntContinue p pl s) := by
  unfold ownerHuntContinue
  refine .ite ?_ ((State.Steady.refl s).badArgument p)
  split
  · exact (State.Steady.refl s).reply _ _
  · exact .ite ((State.Steady.refl s).reply _ _).huntResume ((State.Steady.refl s).reply _ _)

theorem ownerHuntAbort_steady : s.Steady (ownerHuntAbort p pl s) := by
  unfold ownerHuntAbort
  refine .ite ?_ ((State.Steady.refl s).badArgument p)
  split
  · exact (State.Steady.refl s).reply _ _
  · exact .ite (((State.Steady.refl s).huntAbortBy p).reply _ _) ((State.Steady.refl s).reply _ _)

theorem ownerReadLog_steady : s.Steady (ownerReadLog p pl s) :=
  .ite (((State.Steady.refl s).setPort _ _).answerData _ _) ((State.Steady.refl s).badArgument p)

theorem ownerLogSeek_steady : s.Steady (ownerLogSeek p pl s) := by
  unfold ownerLogSeek
  refine .ite ?_ ((State.Steady.refl s).badArgument p)
  split
  · exact ((State.Steady.refl s).setPort _ _).answerData _ _
  · exact (State.Steady.refl s).reply _ _

theorem ownerManualOpen_steady : s.Steady (ownerManualOpen p pl s) := by
  unfold ownerManualOpen
  split
  · exact (State.Steady.refl s).manualOpen p
  · exact (State.Steady.refl s).badArgument p

theorem ownerManualClose_steady : s.Steady (ownerManualClose p pl s) := by
  unfold ownerManualClose
  split
  · exact (State.Steady.refl s).manualClose p
  · exact (State.Steady.refl s).badArgument p

theorem ownerSetAttentionMask_steady : s.Steady (ownerSetAttentionMask p pl s) :=
  .ite (((State.Steady.refl s).setPort _ _).reply _ _) ((State.Steady.refl s).badArgument p)

theorem ownerRestart_steady : s.Steady (ownerRestart p pl s) :=
  .ite ((State.Steady.refl s).restartAsked p) ((State.Steady.refl s).badArgument p)

theorem ownerReadCurve_steady : s.Steady (ownerReadCurve p pl s) :=
  .ite ((State.Steady.refl s).answerData _ _) ((State.Steady.refl s).badArgument p)

/-- A row that answers with what it reads of the feeder its payload names. -/
theorem readFeeder_steady (bytes : Feeder → List Byte) :
    s.Steady (match oneFeeder pl with | some f => s.answerData p (bytes f) | none => s.badArgument p) := by
  cases oneFeeder pl with
  | some f => exact (State.Steady.refl s).answerData _ _
  | none => exact (State.Steady.refl s).badArgument p

/-- A row without a payload that answers with what it reads. -/
theorem readAll_steady (bytes : List Byte) : s.Steady (if pl = [] then s.answerData p bytes else s.badArgument p) :=
  .ite ((State.Steady.refl s).answerData _ _) ((State.Steady.refl s).badArgument p)

theorem ownerReadGroup_steady : s.Steady (ownerReadGroup p pl s) := by
  unfold ownerReadGroup
  refine .ite ?_ ((State.Steady.refl s).badArgument p)
  split
  · exact (State.Steady.refl s).answerData _ _
  · exact (State.Steady.refl s).badArgument p

theorem ownerReadUnits_steady : s.Steady (ownerReadUnits p pl s) :=
  .ite ((State.Steady.refl s).answerData _ _) ((State.Steady.refl s).badArgument p)

theorem ownerReadHuntTrace_steady : s.Steady (ownerReadHuntTrace p pl s) :=
  .ite ((State.Steady.refl s).answerData _ _) ((State.Steady.refl s).badArgument p)

theorem ownerReadHuntBlocks_steady : s.Steady (ownerReadHuntBlocks p pl s) :=
  .ite ((State.Steady.refl s).answerData _ _) ((State.Steady.refl s).badArgument p)

theorem ownerReadAttention_steady : s.Steady (ownerReadAttention p pl s) :=
  .ite (((State.Steady.refl s).setPort _ _).answerData _ _) ((State.Steady.refl s).badArgument p)

end

/-! ### Writes of settings (R27, R103, R113, R115, R117, R124, R144, R151, R182) -/

theorem State.Moves.storeEnqueue (h : s.Moves t) (w : PortWrite)
    (valid : StoreEntry.inRange { job := .port p w, begun := false }) : s.Moves (t.storeEnqueue (.port p w)) :=
  (h.move (.queued p w valid)).steady (State.Steady.refl _).beginHead

theorem State.Moves.queueWrite (h : s.Moves t) (w : PortWrite)
    (valid : StoreEntry.inRange { job := .port p w, begun := false }) : s.Moves (t.queueWrite p w) :=
  .ite (fun _ => h.steady ((State.Steady.refl t).reply _ _)) fun _ => h.storeEnqueue w valid

/-- The block that a payload carries is within R149's ranges. -/
theorem huntBlockAt_valid {pl : List Byte} {i : Nat} {b : HuntBlock} (h : huntBlockAt pl i = some b) :
    huntBlockValid b = true := by
  have byte : ∀ j, byteAt pl j ≤ 255 := fun j => Nat.le_of_lt_succ (pl.getD j 0).isLt
  unfold huntBlockAt at h
  split at h
  · cases h
  · dsimp only at h
    split at h
    · next range =>
      obtain ⟨unit, window, -, -⟩ := range
      cases h
      have := byte (i + 6)
      have := byte (i + 7)
      simp only [huntBlockValid, within, Bool.and_eq_true, decide_eq_true_eq]
      omega
    · cases h

theorem huntBlocksAt_valid {pl : List Byte} {i n : Nat} {l : List HuntBlock} (h : huntBlocksAt pl i n = some l) :
    ∀ b ∈ l, huntBlockValid b = true := by
  induction n generalizing i l with
  | zero =>
    cases h
    simp
  | succ n ih =>
    unfold huntBlocksAt at h
    split at h
    · next b bs first rest =>
      cases h
      exact List.forall_mem_cons.2 ⟨huntBlockAt_valid first, ih rest⟩
    · cases h

section

variable (p : Port) (pl : List Byte) (s : State)

theorem ownerWriteCurve_moves : s.Moves (ownerWriteCurve p pl s) := by
  refine .ite (fun good => ?_) fun _ => ((State.Steady.refl s).badArgument p).moves
  obtain ⟨-, -, low, high, valid⟩ := good
  exact .ite (fun _ => ((State.Steady.refl s).reply _ _).moves) fun _ =>
    (State.Moves.refl s).queueWrite _ ⟨low, high, valid⟩

theorem ownerWriteCorridor_moves : s.Moves (ownerWriteCorridor p pl s) := by
  unfold ownerWriteCorridor
  dsimp only
  split
  · exact .ite (fun _ => (State.Moves.refl s).queueWrite _ trivial) fun _ => ((State.Steady.refl s).badArgument p).moves
  · exact ((State.Steady.refl s).badArgument p).moves

theorem ownerWriteExposure_moves : s.Moves (ownerWriteExposure p pl s) := by
  unfold ownerWriteExposure
  refine .ite (fun _ => ?_) fun _ => ((State.Steady.refl s).badArgument p).moves
  split
  · exact (State.Moves.refl s).queueWrite _ trivial
  · exact ((State.Steady.refl s).badArgument p).moves

theorem ownerWriteFireBlock_moves : s.Moves (ownerWriteFireBlock p pl s) :=
  .ite (fun good => .ite (fun _ => ((State.Steady.refl s).reply _ _).moves) fun low =>
    (State.Moves.refl s).queueWrite _ ⟨not_lt.1 low, rfl, good.2⟩) fun _ => ((State.Steady.refl s).badArgument p).moves

theorem ownerRestoreFireTable_moves : s.Moves (ownerRestoreFireTable p pl s) :=
  .ite (fun _ => (State.Moves.refl s).queueWrite _ trivial) fun _ => ((State.Steady.refl s).badArgument p).moves

theorem ownerWriteGroup_moves : s.Moves (ownerWriteGroup p pl s) := by
  unfold ownerWriteGroup
  refine .ite (fun good => ?_) fun _ => ((State.Steady.refl s).badArgument p).moves
  split
  · exact .ite (fun _ => ((State.Steady.refl s).reply _ _).moves) fun _ => (State.Moves.refl s).queueWrite _ good.2
  · exact ((State.Steady.refl s).badArgument p).moves

theorem ownerWriteUnitList_moves : s.Moves (ownerWriteUnitList p pl s) := by
  unfold ownerWriteUnitList
  dsimp only
  split
  · exact .ite (fun _ => .ite (fun _ => ((State.Steady.refl s).reply _ _).moves) fun _ =>
      .ite (fun _ => ((State.Steady.refl s).reply _ _).moves) fun _ =>
        State.Moves.storeEnqueue ((State.Steady.refl s).setBus _).moves _ trivial)
      fun _ => ((State.Steady.refl s).badArgument p).moves
  · exact ((State.Steady.refl s).badArgument p).moves

theorem ownerWriteHuntBlocks_moves : s.Moves (ownerWriteHuntBlocks p pl s) := by
  unfold ownerWriteHuntBlocks
  dsimp only
  split
  · next l carried =>
    exact .ite (fun _ => .ite (fun _ => ((State.Steady.refl s).reply _ _).moves) fun _ =>
      .ite (fun _ => ((State.Steady.refl s).reply _ _).moves) fun _ =>
        ((State.Moves.refl s).move (.blocks _ _ (huntBlocksAt_valid carried))).storeEnqueue _ trivial)
      fun _ => ((State.Steady.refl s).badArgument p).moves
  · exact ((State.Steady.refl s).badArgument p).moves

theorem ownerStoreRepair_moves : s.Moves (ownerStoreRepair p pl s) :=
  .ite (fun _ => .ite (fun _ => ((State.Steady.refl s).reply _ _).moves) fun _ =>
    .ite (fun _ => ((State.Steady.refl s).reply _ _).moves) fun _ => (State.Moves.refl s).storeEnqueue _ trivial)
    fun _ => ((State.Steady.refl s).badArgument p).moves

end

/-! ### Fire requests and recomputation (R109 to R113, R120) -/

theorem State.Moves.findSite (h : s.Moves t) : s.Moves t.findSite := h.move (.fire _ rfl rfl rfl rfl)

theorem State.Moves.recomputeAll (h : s.Moves t) (c : FireCause) : s.Moves (t.recomputeAll c) :=
  State.Moves.foldl (fun u f => (State.Moves.refl u).move (.recomputed c f)) h.findSite _

theorem State.Moves.recomputeOne (h : s.Moves t) (c : FireCause) : s.Moves (t.recomputeOne g c) :=
  h.findSite.move (.recomputed c g)

theorem State.Moves.fireRequestChanged (h : s.Moves t) (p : Port) (r : Option FireRequest) (c : LevelCause) :
    s.Moves (t.fireRequestChanged p r c) := by
  have changed : s.Moves (t.setRequest p r) := h.move (.fire _ rfl rfl rfl rfl)
  exact (changed.recomputeAll { cause := some c, port := some p }).steady ((State.Steady.refl _).requestRetention _)

theorem ownerSetFireRequest_moves (p : Port) (pl : List Byte) (s : State) : s.Moves (ownerSetFireRequest p pl s) := by
  unfold ownerSetFireRequest
  split
  · exact .ite (fun _ => ((State.Moves.refl s).fireRequestChanged _ _ _).steady ((State.Steady.refl _).respond _ _ _))
      fun _ => ((State.Steady.refl s).badArgument p).moves
  · exact ((State.Steady.refl s).badArgument p).moves

theorem ownerWithdrawFireRequest_moves (p : Port) (pl : List Byte) (s : State) :
    s.Moves (ownerWithdrawFireRequest p pl s) :=
  .ite (fun _ => .ite (fun _ => ((State.Steady.refl s).reply _ _).moves) fun _ =>
    ((State.Moves.refl s).fireRequestChanged _ _ _).steady ((State.Steady.refl _).reply _ _))
    fun _ => ((State.Steady.refl s).badArgument p).moves

/-! ### Samples and losses (R1 to R9, R34) -/

theorem State.Moves.elementsTaken (h : s.Moves t) (f : Feeder) (x : Sample) : s.Moves (t.elementsTaken f x) := by
  have taken : s.Moves (t.setUnit f (t.unitTaken f x)) := h.move (.taken f x)
  have seeding : s.Moves (t.seedingSaid f x) :=
    .ite (fun _ => taken.steady (((State.Steady.refl _).record _ _ _).setFlag _)) fun _ => taken
  exact .ite (fun _ => seeding.steady (((State.Steady.refl _).record _ _ _).setFlag _)) fun _ => seeding

/-- After a sample's elements and its trip the units are as the elements left them but for windows and freeze marks. -/
theorem State.elementsTaken_steady_evaluateSample (s : State) (f : Feeder) (x : Sample) :
    (s.elementsTaken f x).Steady (s.evaluateSample f x) := by
  rcases cause : s.causeTaken f x with _ | c
  · rw [State.evaluateSample_noTrip cause]; exact .refl _
  · rw [State.evaluateSample_trip cause]; exact (State.Steady.refl _).protectionTrip c

@[simp] theorem State.unitTaken_seeded (s : State) (f : Feeder) (x : Sample) : (s.unitTaken f x).base.seeded = true := by
  unfold State.unitTaken Protection.afterElements Protection.baseFor
  dsimp only
  split
  · assumption
  · rfl

theorem State.evaluateSample_seeded (s : State) (f : Feeder) (x : Sample) :
    ((s.evaluateSample f x).unit f).base.seeded = true := by
  obtain ⟨w, m, unit⟩ := (s.elementsTaken_steady_evaluateSample f x).units f
  simp [unit]

theorem State.Moves.updateBaseline (h : s.Moves t) (seeded : (t.unit f).base.seeded = true) (x : Sample) :
    s.Moves (t.updateBaseline f x) := by
  by_cases still : (t.unit f).sef.pickup = true ∨ (t.unit f).base.frozen = true
  · rw [State.updateBaseline_same still]; exact h
  · rw [not_or, Bool.not_eq_true, Bool.not_eq_true] at still
    rw [State.updateBaseline_qualifying still.1 still.2]
    have updated := h.move (.updated f x seeded)
    exact .ite (fun _ => updated.steady (((State.Steady.refl _).record _ _ _).setFlag _)) fun _ => updated

theorem State.takeSample_moves (s : State) (f : Feeder) (x : Sample) : s.Moves (s.takeSample f x) := by
  have evaluated : s.Moves (s.evaluateSample f x) :=
    ((State.Moves.refl s).elementsTaken f x).steady (s.elementsTaken_steady_evaluateSample f x)
  rw [State.takeSample_eq]
  refine State.Moves.steady (State.Moves.ite (fun _ => evaluated) fun _ => ?_) (State.Steady.refl _).windowSample
  exact evaluated.updateBaseline (s.evaluateSample_seeded f x) x

theorem State.acceptFrame_moves (s : State) (m : Measured) : s.Moves (s.acceptFrame m) := by
  have cleared : s.Moves (s.frameCleared m) := .ite (fun _ => (State.Moves.refl s).move (.cleared _)) fun _ => .refl s
  have sampled : s.Moves (s.frameSampled m) := State.Moves.foldl (fun u x => u.takeSample_moves m.feeder x) cleared _
  have held := sampled.steady ((State.Steady.refl _).setReceiver (g := m.feeder) (receiverAfter s.ms m))
  exact .ite (fun _ => held.steady (((State.Steady.refl _).record _ _ _).setFlag _)) fun _ => held

theorem State.measurementTransfer_moves (s : State) (l : List Byte) : s.Moves (s.measurementTransfer l) := by
  unfold State.measurementTransfer
  split
  · exact .ite (fun _ => .refl s) fun _ => s.acceptFrame_moves _
  · exact .refl s

theorem State.watchdogEnd_moves (s : State) (f : Feeder) : s.Moves (s.watchdogEnd f) := by
  have gone := ((State.Steady.refl s).setReceiver (g := f) { s.receiver f with state := .lost, watchdog := none }).moves
  exact (gone.move (.lost f)).steady (((State.Steady.refl _).record _ _ _).setFlag _).huntMeasurementLost

/-! ### Completions of the store (R178, R179) -/

theorem State.Moves.append (h : s.Moves t) (x : Option Feeder) (b : RecordSource) (d : Details) :
    s.Moves (t.append x b d) := h.steady ((State.Steady.refl t).append x b d)

theorem State.Moves.reply (h : s.Moves t) (p : Port) (st : Status) : s.Moves (t.reply p st) :=
  h.steady ((State.Steady.refl t).reply p st)

theorem State.repaired_steady (s : State) : s.Steady (s.repaired p) := by
  have mended := (((State.Steady.refl s).setStore { s.store with fault := none, damaged := [] }
    (State.Steady.refl s).writes).append none (.block .settingStore) .storeFaultCleared).setFlag .store
  have holds := State.Steady.foldl (fun k f => k.requestRetention (.holds f)) mended allFeeders
  exact ((holds.requestRetention .fireRequests).requestRetention .isolation).reply p .accepted

/-- The owner's part in the completion of a write that stands in the queue. -/
theorem State.portWriteDone_moves (s : State) (p : Port) (w : PortWrite)
    (queued : ∃ e ∈ s.store.queue, e.job = .port p w) : s.Moves (s.portWriteDone p w) := by
  cases w with
  | curve n c =>
    exact ((((State.Moves.refl s).move (.curve p n c queued)).append none (.port p)
      (.settingsWritten (.curve n) p)).recomputeAll noCause).reply p .accepted
  | group f l g =>
    exact ((((State.Moves.refl s).move (.group p f l g queued)).append (some f) (.port p)
      (.settingsWritten (.group f l) p)).recomputeOne noCause).reply p .accepted
  | fireBlock start values =>
    exact ((((State.Moves.refl s).move (.fields p start values queued)).append none (.port p)
      (.fireTableWritten start ((s.fire.table.drop start).take values.length) values p)).recomputeAll noCause).reply p
        .accepted
  | restoreTable =>
    exact ((((State.Moves.refl s).move .restored).append none (.port p) (.fireTableRestored p)).recomputeAll noCause).reply
      p .accepted
  | exposure f e =>
    have exposed : s.Moves (s.setFire { s.fire with exposure := feederSet s.fire.exposure f e }) :=
      (State.Moves.refl s).move (.fire _ rfl rfl rfl rfl)
    exact ((exposed.append (some f) (.port p) (.settingsWritten (.exposure f) p)).recomputeOne
      { cause := some .exposure, port := some p }).reply p .accepted
  | corridor f c =>
    exact (((State.Steady.refl s).setHoldTable (g := f) { s.holdTable f with corridor := c }).moves.append (some f) (.port p)
      (.settingsWritten (.corridor f) p)).reply p .accepted
  | unitList f l => exact ((State.Moves.refl s).append (some f) (.port p) (.settingsWritten (.unitList f) p)).reply p .accepted
  | huntBlocks first l =>
    exact ((State.Moves.refl s).append none (.port p) (.settingsWritten (.huntMemory first l.length) p)).reply p .accepted
  | repair => exact s.repaired_steady.moves

theorem State.Steady.dropHead (h : s.Steady t) : s.Steady t.dropHead :=
  h.setStore _ fun e mem _ _ job => ⟨e, List.mem_of_mem_tail mem, job⟩

theorem State.Steady.countFixed (h : s.Steady t) : s.Steady t.countFixed := by
  unfold State.countFixed
  split
  · exact h.setRestart _
  · exact h

theorem State.Steady.dropFixed (h : s.Steady t) : s.Steady t.dropFixed := by
  unfold State.dropFixed
  split
  · exact h.setRestart _
  · exact h

theorem State.Steady.jobFailed (h : s.Steady t) (e : StoreEntry) : s.Steady (t.jobFailed e) := by
  unfold State.jobFailed
  split
  · exact h.reply _ _
  · exact h.reply _ _
  · exact h.reply _ _
  · exact h.setPendingMark _ _

theorem State.writeDone_moves (s : State) (e : StoreEntry) (mem : e ∈ s.store.queue) : s.Moves (s.writeDone e) := by
  have written : s.Moves (s.setImage (s.writeRecords e.job e.job.records.length)) := (State.Moves.refl s).move (.image _)
  have done : s.Moves ((s.setImage (s.writeRecords e.job e.job.records.length)).jobDone e.job) := by
    unfold State.jobDone
    split
    · next p w job =>
      have owned := (s.setImage (s.writeRecords e.job e.job.records.length)).portWriteDone_moves p w ⟨e, mem, job⟩
      exact written.trans owned.causedBy
    · exact written
  exact done.steady (State.Steady.refl _).dropHead.countFixed.beginHead

theorem State.writeFailed_moves (s : State) (e : StoreEntry) (n : Nat) (bad : RecordId) :
    s.Moves (s.writeFailed e n bad) := by
  refine ((State.Moves.refl s).move (.image _)).steady (State.Steady.dropFixed (State.Steady.foldl
    (fun k e => k.jobFailed e) (State.Steady.setFlag (State.Steady.append (State.Steady.setStore (.refl _) _ ?_) _ _ _) _)
    _))
  simp

theorem execStoreWriteCompletion_moves {bad : Option Nat} (h : execStoreWriteCompletion bad s = .next t) : s.Moves t := by
  unfold execStoreWriteCompletion at h
  split at h
  · cases h; exact .refl s
  split at h
  · cases h; exact .refl s
  next e rest queue =>
  split at h
  · cases h; exact .refl s
  split at h
  · cases h; exact s.writeDone_moves e (by simp [queue])
  split at h
  · cases h; exact s.writeFailed_moves e _ _
  · cases h

/-! ### Resets and supply (R105, R176, R194) -/

/-- Fields that hold neither settings nor protection units move. -/
theorem State.Steady.of_fields (h : s.Steady t) (fire : u.fire = t.fire) (hunt : u.hunt = t.hunt)
    (store : u.store = t.store) (image : u.image = t.image) (protection : u.protection = t.protection) : s.Steady u := by
  refine h.trans ⟨⟨t.fire.pendingMark, fire⟩, by rw [hunt], ?_, image,
    fun f => ⟨(t.unit f).window, (t.unit f).base.frozen, by simp [State.unit, protection]⟩⟩
  rw [store]
  exact (State.Steady.refl t).writes

theorem State.Steady.setPorts (h : s.Steady t) (x : PerPort PortState) : s.Steady { t with ports := x } :=
  ⟨h.fire, h.memory, h.writes, h.image, h.units⟩

theorem State.Steady.setPowered (h : s.Steady t) (b : Bool) : s.Steady { t with powered := b } :=
  ⟨h.fire, h.memory, h.writes, h.image, h.units⟩

theorem State.Steady.setLog (h : s.Steady t) (x : Log) : s.Steady (t.setLog x) :=
  ⟨h.fire, h.memory, h.writes, h.image, h.units⟩

theorem State.powerOn_moves (s : State) (pins : Pins) : s.Moves (s.powerOn pins) := by
  have started := (((((State.Steady.refl s).setPowered true).setTime 0 timeZero false).setPorts
    (portMap (fun q : PortState => { portStart with inReset := q.inReset }) s.ports)).setLog { records := [], next := 0 })
  unfold State.powerOn
  refine State.Moves.move ?_ (.rebuilt pins)
  exact (started.append _ _ _).moves

theorem State.reinitialise_moves (s : State) (p : Port) (pins : Pins) : s.Moves (s.reinitialise p pins) := by
  have said := (State.Steady.refl s).append none (.port p) .restart
  unfold State.reinitialise
  refine State.Moves.move ?_ (.rebuilt pins)
  exact (said.setPorts _).moves

theorem State.powerLoss_moves (s : State) (n : Nat) : s.Moves (s.powerLoss n) := by
  have off : s.Moves { s with powered := false } := ((State.Steady.refl s).setPowered false).moves
  unfold State.powerLoss
  dsimp only
  split
  · exact off
  split
  · refine off.move ?_
    exact .image _
  · exact off

theorem execRestartReinitialisation_moves {pins : Pins} (h : execRestartReinitialisation pins s = .next t) :
    s.Moves t := by
  refine event_moves ?_ h
  split
  · exact .ite (fun _ => s.reinitialise_moves _ _) fun _ => .refl s
  · exact .refl s

/-! ### Requests by their code (R197) -/

theorem State.unknownFrame_moves (s : State) (p : Port) (code : Byte) (fr : Frame) : s.Moves (s.unknownFrame p code fr) := by
  unfold State.unknownFrame
  obtain same | ⟨q, port⟩ | ⟨q, checked⟩ := s.takeFrame_cases p (frameSize fr) code (frameCheckMatches code fr) _
  · rw [same]; exact .refl s
  · rw [port]; exact ((State.Steady.refl s).setPort p q).moves
  · rw [checked]; exact ((((State.Steady.refl s).setPort p q).setPort _ _).reply _ _).moves

theorem State.shortFrame_moves (s : State) (p : Port) (n : Nat) (code : Byte) : s.Moves (s.shortFrame p n code) := by
  unfold State.shortFrame
  obtain same | ⟨q, port⟩ | ⟨q, checked⟩ := s.takeFrame_cases p n code false _
  · rw [same]; exact .refl s
  · rw [port]; exact ((State.Steady.refl s).setPort p q).moves
  · rw [checked]; exact ((((State.Steady.refl s).setPort p q).setPort _ _).reply _ _).moves

theorem State.frameByCode_moves (s : State) (p : Port) (code : Byte) (fr : Frame) : s.Moves (s.frameByCode p code fr) := by
  unfold State.frameByCode
  split
  · exact .controlRequest_steady (ownerSetTime_steady p _)
  · exact .readRequest fun u => readFeeder_steady p _ u _
  · exact .readRequest (ownerReadCurve_steady p _)
  · exact .controlRequest (ownerWriteCurve_moves p _)
  · exact .readRequest fun u => readFeeder_steady p _ u _
  · exact .controlRequest_steady (ownerManualOpen_steady p _)
  · exact .controlRequest_steady (ownerManualClose_steady p _)
  · exact .readRequest fun u => readFeeder_steady p _ u _
  · exact .controlRequest_steady (ownerPlaceHold_steady p _)
  · exact .controlRequest_steady (ownerRemoveHold_steady p _)
  · exact .controlRequest_steady (ownerPatrolClear_steady p _)
  · exact .controlRequest (ownerWriteCorridor_moves p _)
  · exact .readRequest fun u => readFeeder_steady p _ u _
  · exact .controlRequest (ownerSetFireRequest_moves p _)
  · exact .controlRequest (ownerWithdrawFireRequest_moves p _)
  · exact .controlRequest (ownerWriteExposure_moves p _)
  · exact .controlRequest (ownerWriteFireBlock_moves p _)
  · exact .controlRequest (ownerRestoreFireTable_moves p _)
  · exact .controlRequest (ownerWriteGroup_moves p _)
  · exact .readRequest fun u => readAll_steady p _ u _
  · exact .readRequest fun u => readAll_steady p _ u _
  · exact .readRequest (ownerReadGroup_steady p _)
  · exact .controlRequest_steady (ownerUnitCommand_steady p _)
  · exact .controlRequest (ownerWriteUnitList_moves p _)
  · exact .controlRequest_steady (ownerClearIsolation_steady p _)
  · exact .controlRequest_steady (ownerLinebusReset_steady p _)
  · exact .readRequest fun u => readAll_steady p _ u _
  · exact .readRequest (ownerReadUnits_steady p _)
  · exact .controlRequest (ownerWriteHuntBlocks_moves p _)
  · exact .controlRequest_steady (ownerStartHunt_steady p _)
  · exact .controlRequest_steady (ownerHuntInsert_steady p _)
  · exact .controlRequest_steady (ownerHuntContinue_steady p _)
  · exact .controlRequest_steady (ownerHuntStepMode_steady p _)
  · exact .controlRequest_steady (ownerHuntAbort_steady p _)
  · exact .readRequest fun u => readAll_steady p _ u _
  · exact .readRequest (ownerReadHuntTrace_steady p _)
  · exact .readRequest (ownerReadHuntBlocks_steady p _)
  · exact .controlRequest_steady (ownerReadLog_steady p _)
  · exact .controlRequest_steady (ownerLogSeek_steady p _)
  · exact .controlRequest (ownerStoreRepair_moves p _)
  · exact .readRequest fun u => readAll_steady p _ u _
  · exact .readRequest (ownerReadAttention_steady p _)
  · exact .readRequest fun u => readAll_steady p _ u _
  · exact .controlRequest_steady (ownerSetAttentionMask_steady p _)
  · exact .controlRequest_steady (ownerRestart_steady p _)
  · exact s.unknownFrame_moves p code fr

theorem State.rawFrame_moves (s : State) (p : Port) (l : List Byte) : s.Moves (s.rawFrame p l) := by
  unfold State.rawFrame
  split
  · exact .refl s
  · split
    · exact s.frameByCode_moves _ _ _
    · exact s.shortFrame_moves _ _ _

end Sys2Proof.Machine
end

section
/-! SUPPORT. Every command, and every step, is a run of moves of the settings and of the protection units. -/

namespace Sys2Proof.Machine

variable {s t : State}

/-- A request row runs its frame by its code (R197). -/
theorem exec_request {i : Instr} {p : Port} {fr : Frame} {code : Byte} (frame : requestFrameOf i = some (p, fr))
    (row : requestCode i = some code) (s : State) : exec i s = event s (fun s => s.frameByCode p code fr) := by
  cases i <;> cases frame <;> cases row <;> rfl

theorem exec_request_moves {i : Instr} {p : Port} {fr : Frame} {code : Byte} (frame : requestFrameOf i = some (p, fr))
    (row : requestCode i = some code) (h : exec i s = .next t) : s.Moves t :=
  event_moves (s.frameByCode_moves p code fr) ((exec_request frame row s).symm.trans h)

/-- A command that is no request is an event, or a power-on. -/
theorem exec_moves {i : Instr} (h : exec i s = .next t) : s.Moves t := by
  have same := State.Steady.refl s
  have ran := h
  unfold exec at h
  cases i with
  | powerOn pins => cases h; exact s.powerOn_moves pins
  | restartReinitialisation pins => exact execRestartReinitialisation_moves h
  | portReset p => exact event_steady (same.setPort _ _) h
  | portResetRelease p => exact event_steady (same.setPort _ _) h
  | keySwitchChange k =>
    exact event_steady (op := fun s => { s with key := k }) ⟨same.fire, same.memory, same.writes, same.image, same.units⟩ h
  | millisecondTick => exact event_steady same.tick h
  | measurementFrame bytes => exact event_moves (s.measurementTransfer_moves bytes) h
  | frameWatchdogExpiry f => exact event_moves (.ite (fun _ => s.watchdogEnd_moves f) fun _ => .refl s) h
  | positionContactChange f c => exact event_steady (same.contactChange c).pollRestart h
  | positionFaultTimerExpiry f => exact event_steady (.ite same.positionFault same) h
  | pulseTimerExpiry f => exact event_steady (.ite same.pulseEnd.pollRestart same) h
  | tripConfirmTimeExpiry f => exact event_steady (.ite same.tripTimeEnd.pollRestart same) h
  | closeConfirmTimeExpiry f => exact event_steady (.ite same.closeTimeEnd.pollRestart same) h
  | deadTimerExpiry f taken => exact event_steady (same.deadTimer taken) h
  | reclaimTimerExpiry f => exact event_steady (.ite (same.setSequencer _) same) h
  | holdExpiry f owner tag => exact event_steady (same.holdExpires owner tag.toNat) h
  | fireRequestExpiry p => exact event_moves (.ite (fun _ => (State.Moves.refl s).fireRequestChanged _ _ _) fun _ => .refl s) h
  | storeWriteCompletion bad => exact execStoreWriteCompletion_moves h
  | quietGapEnd => exact event_steady (.ite same.gapEnd same) h
  | activeSeen => exact event_steady same.activeSeen h
  | lostArbitration => exact event_steady (.ite ((same.mapQueue _).enterBus _ _) same) h
  | preambleWon => exact event_steady (.ite ((same.mapQueue _).enterBus _ _) same) h
  | checkSent => exact event_steady (.ite (same.enterBus _ _) same) h
  | echoMismatch => exact event_steady (.ite (same.setBus _) same) h
  | echoFail => exact event_steady (.ite (.ite (same.attemptEnds _) (.ite (same.enterBus _ _) same)) same) h
  | reply chars framing => exact event_steady (.ite (same.takeReply _ _) same) h
  | replyWindowClose => exact event_steady (.ite (same.attemptEnds _) same) h
  | replyIncomplete => exact event_steady (.ite (same.attemptEnds _) same) h
  | report chars framing => exact event_steady (.ite (same.hearFrame _ _) same) h
  | ackSent => exact event_steady (.ite (same.enterBus _ _) same) h
  | heardFrameEnd => exact event_steady (.ite (same.enterBus _ _) same) h
  | clampSeen => exact event_steady (.ite same.clampSeen same) h
  | clampEnd => exact event_steady (.ite (same.enterBus _ _) same) h
  | clampOutEnd => exact event_steady (.ite same.clampOutEnd same) h
  | linebusStuck => exact event_steady (.ite same.becomeStuck same) h
  | linebusRestored => exact event_steady (.ite same.busRestored same) h
  | pauseTimeout => exact event_steady same.pauseEnd h
  | requestFrame p bytes => exact event_moves (s.rawFrame_moves p bytes) h
  | responseRead p count => exact event_steady (same.readTransfer p count) h
  | powerLoss written => exact event_moves (s.powerLoss_moves written) h
  | _ => exact exec_request_moves rfl rfl ran

theorem step_moves (h : step s = .next t) : s.Moves t := by
  unfold step at h
  split at h
  · cases h; exact .refl s
  · next rest _ =>
    have queued : s.Steady (s.withPending rest) := (State.Steady.refl s).of_fields rfl rfl rfl rfl rfl
    exact queued.moves.trans (exec_moves h)

end Sys2Proof.Machine
end

section
/-! Every step keeps the bounds of the protection units (R19, R23, R33, R37, R39, R44). -/

namespace Sys2Proof.Machine

/-! ### The elements (R15 to R24, R39) -/

theorem Inverse.sample_acc_le {x : Inverse} (h : x.acc ≤ fullScale) (m : Nat) (c : Curve) (tms d : Nat) :
    (x.sample m c tms d).1.acc ≤ fullScale := by
  unfold Inverse.sample
  split
  · exact min_le_left _ _
  · change resetAcc x.acc d ≤ fullScale
    unfold resetAcc
    split
    · exact Nat.zero_le _
    · exact (Nat.sub_le _ _).trans h

theorem HighSet.sample_count_le (x : HighSet) (m h n : Nat) : (x.sample m h n).1.count ≤ 50 := by
  unfold HighSet.sample
  split
  · exact min_le_left _ _
  · exact Nat.zero_le _

theorem Sef.sample_count_le {x : Sef} {ds : Nat} (h : x.count ≤ 2 * ds) (e ps : Nat) (frozen : Bool) :
    (x.sample e ps ds frozen).1.count ≤ 2 * ds := by
  unfold Sef.sample
  split
  · exact min_le_left _ _
  · exact (Nat.sub_le _ _).trans h

/-! ### The baseline (R33 to R38) -/

theorem Baseline.seed_value_le (b : Baseline) (i0 k limit : Nat) : (b.seed i0 k limit).value k ≤ limit :=
  (Nat.mul_div_cancel _ (Nat.two_pow_pos k)).trans_le (min_le_right _ _)

theorem Baseline.limited_value_le (b : Baseline) (acc k limit : Nat) : (b.limited acc k limit).value k ≤ limit := by
  unfold Baseline.limited
  split
  · exact (Nat.mul_div_cancel _ (Nat.two_pow_pos k)).le
  · next within => exact not_lt.1 within

@[simp] theorem Baseline.limited_seeded (b : Baseline) (acc k limit : Nat) :
    (b.limited acc k limit).seeded = b.seeded := by
  unfold Baseline.limited
  split <;> rfl

@[simp] theorem Baseline.update_seeded (b : Baseline) (i0 k limit : Nat) : (b.update i0 k limit).seeded = b.seeded :=
  b.limited_seeded _ _ _

@[simp] theorem Baseline.push_seeded (b : Baseline) (j k limit : Nat) : (b.push j k limit).seeded = b.seeded := by
  unfold Baseline.push
  split
  · exact b.limited_seeded _ _ _
  · rfl

/-- An unseeded baseline with its accumulator at 0 is within every limit. -/
theorem Baseline.push_value_le {b : Baseline} (h : b.seeded = false → b.acc = 0) (j k limit : Nat) :
    (b.push j k limit).value k ≤ limit := by
  unfold Baseline.push
  split
  · exact b.limited_value_le _ _ _
  · next unseeded => simp [Baseline.value, h (Bool.eq_false_iff.2 unseeded)]

theorem Baseline.push_acc {b : Baseline} (h : b.seeded = false → b.acc = 0) (j k limit : Nat) :
    (b.push j k limit).seeded = false → (b.push j k limit).acc = 0 := by
  intro unseeded
  rw [Baseline.push_seeded] at unseeded
  simp [Baseline.push, unseeded, h unseeded]

/-! ### The unit -/

variable {u : Protection} {e : Effective}

theorem Protection.bounded.afterElements (h : u.bounded e) (oc ef : Curve) (x : Sample) :
    (u.afterElements e oc ef x).bounded e := by
  obtain ⟨ocFull, efFull, -, sefFull, limited, unseeded⟩ := h
  refine ⟨Inverse.sample_acc_le ocFull _ _ _ _, Inverse.sample_acc_le efFull _ _ _ _, HighSet.sample_count_le _ _ _ _,
    Sef.sample_count_le sefFull _ _ _, ?_, ?_⟩
  · change (u.baseFor e x).value e.group.shift ≤ e.group.limit
    unfold Protection.baseFor
    split
    · exact limited
    · exact Baseline.seed_value_le _ _ _ _
  · change (u.baseFor e x).seeded = false → (u.baseFor e x).acc = 0
    unfold Protection.baseFor
    split
    · exact unseeded
    · intro seeded
      exact absurd seeded (by simp [Baseline.seed])

/-- A seeded baseline that moves under the limit (R36, R37). -/
theorem Protection.bounded.updated (h : u.bounded e) (seeded : u.base.seeded = true) (i0 : Nat) :
    ({ u with base := u.base.update i0 e.group.shift e.group.limit } : Protection).bounded e := by
  obtain ⟨ocFull, efFull, hsFull, sefFull, -, -⟩ := h
  refine ⟨ocFull, efFull, hsFull, sefFull, Baseline.limited_value_le _ _ _ _, fun unseeded => ?_⟩
  simp [seeded] at unseeded

theorem Protection.bounded.clearCounts (h : u.bounded e) : u.clearCounts.bounded e := by
  obtain ⟨-, -, -, -, limited, unseeded⟩ := h
  exact ⟨Nat.zero_le _, Nat.zero_le _, Nat.zero_le _, Nat.zero_le _, limited, unseeded⟩

/-- A unit with nothing counted and an empty baseline is bounded under every setting. -/
theorem Protection.bounded_of_zero (oc : u.oc.acc = 0) (ef : u.ef.acc = 0) (hs : u.hs.count = 0) (sef : u.sef.count = 0)
    (base : u.base.acc = 0) : u.bounded e := by
  simp [Protection.bounded, Baseline.value, oc, ef, hs, sef, base]

theorem Protection.clearLost_bounded (u : Protection) (e : Effective) : u.clearLost.bounded e :=
  Protection.bounded_of_zero rfl rfl rfl rfl rfl

theorem protectionStart_bounded (e : Effective) : protectionStart.bounded e :=
  Protection.bounded_of_zero rfl rfl rfl rfl rfl

/-- The bounds do not speak of the window and the freeze mark. -/
theorem Protection.bounded.window_frozen (h : u.bounded e) (w : Option Window) (m : Bool) :
    ({ u with window := w, base := { u.base with frozen := m } } : Protection).bounded e := h

/-- What a push leaves of a unit (R38, R44). -/
def Protection.pushed (u : Protection) (old new : Effective) : Protection :=
  { u with
    base := u.base.push old.group.shift new.group.shift new.group.limit
    sef := u.sef.push old.sefTrip new.sefTrip new.sefDelay }

/-- A push brings a unit within the bounds of the new settings (R38, R44). -/
theorem Protection.bounded.pushed (h : u.bounded e) (new : Effective) : (u.pushed e new).bounded new := by
  obtain ⟨ocFull, efFull, hsFull, -, -, unseeded⟩ := h
  exact ⟨ocFull, efFull, hsFull, min_le_right _ _, Baseline.push_value_le unseeded _ _ _, Baseline.push_acc unseeded _ _ _⟩

/-! ### Moves -/

variable {s t : State} {f : Feeder}

theorem State.setEffective_effective (s : State) (f g : Feeder) (e : Effective) :
    (s.setEffective f e).effective g = if g = f then e else s.effective g := feederGet_set _ _ _ _

theorem State.Steady.effective (h : s.Steady t) (f : Feeder) : t.effective f = s.effective f := by
  obtain ⟨m, fire⟩ := h.fire
  simp [State.effective, fire]

theorem State.Steady.bounded (h : s.Steady t) {e : Effective} (k : (s.unit f).bounded e) : (t.unit f).bounded e := by
  obtain ⟨w, m, unit⟩ := h.units f
  rw [unit]
  exact k.window_frozen w m

theorem State.Steady.keepsProtection (h : s.Steady t) (law : s.ProtectionLaw) : t.ProtectionLaw := fun f => by
  rw [h.effective]
  exact h.bounded (law f)

/-- A unit that keeps its bounds is replaced. -/
theorem State.ProtectionLaw.setUnit (law : s.ProtectionLaw) {u : Protection} (h : u.bounded (s.effective f)) :
    (s.setUnit f u).ProtectionLaw := fun g => by
  rw [State.setUnit_unit, State.setUnit_effective]
  split
  · next same => rw [same]; exact h
  · exact law g

theorem State.ProtectionLaw.push (bounded : (s.unit f).bounded e) (law : ∀ g, g ≠ f → (s.unit g).bounded (s.effective g)) :
    (s.push f e (s.effective f)).ProtectionLaw := by
  have pushed : (s.setUnit f ((s.unit f).pushed e (s.effective f))).ProtectionLaw := fun g => by
    rw [State.setUnit_unit, State.setUnit_effective]
    split
    · next same => rw [same]; exact bounded.pushed _
    · next other => exact law g other
  unfold State.push
  dsimp only
  split
  · exact State.Steady.keepsProtection (((State.Steady.refl _).record _ _ _).setFlag _) pushed
  · exact pushed

/-- New effective settings reach the unit by the push (R120). -/
theorem State.ProtectionLaw.recomputeFeeder (law : s.ProtectionLaw) (c : FireCause) (f : Feeder) :
    (State.recomputeFeeder c s f).ProtectionLaw := by
  have settled : (s.setEffective f (s.computeEffective f)).Steady
      (((s.setEffective f (s.computeEffective f)).levelChanged f (s.effective f) (s.computeEffective f) c).reconcileFire f
        (s.computeEffective f)) := ((State.Steady.refl _).levelChanged _ _ _).reconcileFire _
  have new := settled.effective f
  rw [State.setEffective_effective, if_pos rfl] at new
  have pushed := State.ProtectionLaw.push (settled.bounded (f := f) (law f)) fun g other => by
    rw [settled.effective, State.setEffective_effective, if_neg other]
    exact settled.bounded (law g)
  rw [new] at pushed
  exact (State.Steady.refl _).huntRecheck.keepsProtection pushed

/-- A position alarm at a start is the last of a rebuild (R51). -/
theorem State.Steady.startAlarm (h : s.Steady t) (f : Feeder) : s.Steady (t.startAlarm f) := .ite h.positionFault h

@[simp] theorem State.loadFault_queue (s : State) (l : List RecordId) : (s.loadFault l).store.queue = [] := by
  unfold State.loadFault
  dsimp only
  split
  · rfl
  · simp

/-- What a rebuild puts in place of the units, the settings and the store (R22, R43, R152, R180). -/
theorem State.rebuild_settings (s : State) (pins : Pins) :
    ∃ t : State, t.Steady (s.rebuild pins) ∧ t.protection = forFeeders protectionStart ∧
      (∃ e, t.fire = (loadStore s.image s.stamp).fire e) ∧
      t.hunt.memory = (loadStore s.image s.stamp).hunt.map Loaded.value ∧
      t.store = (s.loadFault (loadStore s.image s.stamp).damaged).store := by
  unfold State.rebuild
  dsimp only
  generalize s.loadFault (loadStore s.image s.stamp).damaged = loaded
  exact ⟨_, State.Steady.foldl (fun k f => k.startAlarm f) (.refl _) allFeeders, rfl, ⟨_, rfl⟩, rfl, rfl⟩

theorem State.rebuild_protectionLaw (s : State) (pins : Pins) : (s.rebuild pins).ProtectionLaw := by
  obtain ⟨t, rebuilt, units, -⟩ := s.rebuild_settings pins
  refine rebuilt.keepsProtection fun f => ?_
  have unit : t.unit f = protectionStart := by
    rw [State.unit, units]
    cases f <;> rfl
  rw [unit]
  exact protectionStart_bounded _

theorem State.Move.keepsProtection (h : s.Move t) (law : s.ProtectionLaw) : t.ProtectionLaw := by
  cases h with
  | steady h => exact h.keepsProtection law
  | taken f x => exact law.setUnit ((law f).afterElements _ _ x)
  | updated f x seeded => exact law.setUnit ((law f).updated seeded _)
  | cleared f => exact law.setUnit (law f).clearCounts
  | lost f => exact law.setUnit (Protection.clearLost_bounded _ _)
  | recomputed c f => exact law.recomputeFeeder c f
  | fire x _ _ _ effective =>
    intro f
    have same : (s.setFire x).effective f = s.effective f := by simp [State.effective, effective]
    rw [same]
    exact law f
  | curve | group | fields | restored | blocks | queued | image => exact law
  | rebuilt pins => exact s.rebuild_protectionLaw pins

/-- Settles O9: every step is a run of moves, and every move keeps the bounds. -/
theorem stepKeepsProtectionLaw : Obligations.StepKeepsProtectionLaw :=
  fun _ _ law ran => (step_moves ran).keeps State.Move.keepsProtection law

end Sys2Proof.Machine
end

section
/-! Every step keeps every setting of the working set within its range (R16, R114, R123, R149). -/

namespace Sys2Proof.Machine

/-! ### The fire action table (R114, R116) -/

/-- Values for a run of fields are in range when each is in the range of its field. -/
theorem fireValuesValid_iff {start : Nat} {l : List Nat} :
    fireValuesValid start l = true ↔
      ∀ i v, l[i]? = some v → 35 < start + i ∨ fireFieldValid ((start + i) % 9) v = true := by
  induction l generalizing start with
  | nil => simp [fireValuesValid]
  | cons x rest ih =>
    simp only [fireValuesValid, Bool.and_eq_true, Bool.or_eq_true, decide_eq_true_eq, ih]
    constructor
    · rintro ⟨first, others⟩ i v at_i
      cases i with
      | zero => cases at_i; exact first
      | succ i => simpa [Nat.add_comm, Nat.add_left_comm] using others i v at_i
    · exact fun all => ⟨all 0 x rfl, fun i v at_i => by simpa [Nat.add_comm, Nat.add_left_comm] using all (i + 1) v at_i⟩

theorem fireTableValid_set {t : List Nat} (h : fireTableValid t = true) {i v : Nat}
    (inRange : 35 < i ∨ fireFieldValid (i % 9) v = true) : fireTableValid (t.set i v) = true := by
  simp only [fireTableValid, Bool.and_eq_true, beq_iff_eq, fireValuesValid_iff, List.length_set, Nat.zero_add] at h ⊢
  obtain ⟨length, valid⟩ := h
  refine ⟨length, fun j w at_j => ?_⟩
  rw [List.getElem?_set] at at_j
  split at at_j
  · next same =>
    subst same
    split at at_j
    · cases at_j; exact inRange
    · cases at_j
  · exact valid j w at_j

theorem fireTableValid_writeFields {t l : List Nat} {start : Nat} (h : fireTableValid t = true)
    (values : fireValuesValid start l = true) : fireTableValid (writeFields t start l) = true := by
  induction l generalizing t start with
  | nil => exact h
  | cons v rest ih =>
    simp only [fireValuesValid, Bool.and_eq_true, Bool.or_eq_true, decide_eq_true_eq] at values
    exact ih (fireTableValid_set h values.1) values.2

/-! ### The hunt memory (R149, R151) -/

@[simp] theorem writeBlocks_length (m : List HuntBlock) (first : Nat) (l : List HuntBlock) :
    (writeBlocks m first l).length = m.length := by
  induction l generalizing m first with
  | nil => rfl
  | cons b rest ih => exact (ih _ _).trans List.length_set

theorem huntBlockValid_writeBlocks {m l : List HuntBlock} {first : Nat} (memory : ∀ b ∈ m, huntBlockValid b = true)
    (blocks : ∀ b ∈ l, huntBlockValid b = true) : ∀ b ∈ writeBlocks m first l, huntBlockValid b = true := by
  induction l generalizing m first with
  | nil => exact memory
  | cons b rest ih =>
    obtain ⟨new, others⟩ := List.forall_mem_cons.1 blocks
    refine ih (fun x mem => ?_) others
    obtain old | rfl := List.mem_or_eq_of_mem_set mem
    · exact memory x old
    · exact new

/-! ### Loading (R180) -/

theorem loadRecord_valid {α : Type} {fmt : RecordFormat α} {valid : α → Bool} {fallback : α} (h : valid fallback = true)
    (i : Nat) (x : Stored α) : valid (loadRecord fmt valid fallback i x).value = true := by
  unfold loadRecord
  split
  · next good => exact (Bool.and_eq_true _ _ ▸ good).2
  · exact h

theorem loadIndexed_valid {α : Type} {fmt : RecordFormat α} {valid : α → Bool} {fallback : α}
    (h : valid fallback = true) (l : List (Stored α)) (i : Nat) :
    valid (loadIndexed fmt valid fallback l i).value = true := by
  unfold loadIndexed
  split
  · exact loadRecord_valid h _ _
  · exact h

theorem loadStore_curves_valid (im : Image) (now : Stamp) :
    ∀ c ∈ (loadStore im now).curves.map Loaded.value, curveValid c = true := by
  simp only [loadStore, List.map_map, List.forall_mem_map, Function.comp_apply]
  exact fun i _ => loadIndexed_valid (by decide) _ i

theorem loadStore_hunt_valid (im : Image) (now : Stamp) :
    ∀ b ∈ (loadStore im now).hunt.map Loaded.value, huntBlockValid b = true := by
  simp only [loadStore, List.map_map, List.forall_mem_map, Function.comp_apply]
  exact fun i _ => loadIndexed_valid (by decide) _ i

theorem fixedTable_valid : fireTableValid fixedTable = true := by decide

theorem loadStore_table_valid (im : Image) (now : Stamp) : fireTableValid (loadStore im now).table.value = true :=
  loadRecord_valid fixedTable_valid _ _

theorem loadedGroups_valid (im : Image) (now : Stamp) (f : Feeder) (l : Letter) :
    groupValid ((loadedGroups (loadStore im now) f).get l).group = true := by
  have fallback : groupValid fallbackGroup = true := by decide
  cases l <;> cases f <;> exact loadRecord_valid fallback _ _

/-! ### Moves -/

variable {s t u : State} {f : Feeder}

/-- From s to t no setting moves and no port write joins the store's queue. -/
structure State.SameSettings (s t : State) : Prop where
  curves : t.fire.curves = s.fire.curves
  table : t.fire.table = s.fire.table
  groups : t.fire.groups = s.fire.groups
  memory : t.hunt.memory = s.hunt.memory
  writes : ∀ e ∈ t.store.queue, ∀ p w, e.job = .port p w → ∃ x ∈ s.store.queue, x.job = .port p w

theorem State.Steady.sameSettings (h : s.Steady t) : s.SameSettings t := by
  obtain ⟨m, fire⟩ := h.fire
  exact ⟨by rw [fire], by rw [fire], by rw [fire], h.memory, h.writes⟩

theorem State.SameSettings.trans (h : s.SameSettings t) (k : t.SameSettings u) : s.SameSettings u where
  curves := k.curves.trans h.curves
  table := k.table.trans h.table
  groups := k.groups.trans h.groups
  memory := k.memory.trans h.memory
  writes e mem p w job := by
    obtain ⟨x, mem', job'⟩ := k.writes e mem p w job
    exact h.writes x mem' p w job'

theorem State.SameSettings.steady (h : s.SameSettings t) (k : t.Steady u) : s.SameSettings u := h.trans k.sameSettings

theorem State.SameSettings.setUnit (h : s.SameSettings t) (x : Protection) : s.SameSettings (t.setUnit f x) :=
  ⟨h.curves, h.table, h.groups, h.memory, h.writes⟩

theorem State.SameSettings.push (h : s.SameSettings t) (old new : Effective) : s.SameSettings (t.push f old new) := by
  unfold State.push
  dsimp only
  split
  · exact (h.setUnit _).steady (((State.Steady.refl _).record _ _ _).setFlag _)
  · exact h.setUnit _

theorem State.recomputeFeeder_sameSettings (c : FireCause) (s : State) (f : Feeder) :
    s.SameSettings (State.recomputeFeeder c s f) := by
  have put : s.SameSettings (s.setEffective f (s.computeEffective f)) :=
    ⟨rfl, rfl, rfl, rfl, (State.Steady.refl s).writes⟩
  exact ((put.steady (((State.Steady.refl _).levelChanged _ _ _).reconcileFire _)).push _ _).steady
    (State.Steady.refl _).huntRecheck

/-- An entry with the job of one in range is in range. -/
theorem StoreEntry.inRange_congr {e x : StoreEntry} (h : e.job = x.job) (k : x.inRange) : e.inRange := by
  unfold StoreEntry.inRange at k ⊢
  rw [h]
  exact k

/-- An entry of an internal write carries no setting. -/
theorem StoreEntry.inRange_internal {e : StoreEntry} {o : RetentionOwner} {v : Option Retained}
    (h : e.job = .internal o v) : e.inRange := by
  unfold StoreEntry.inRange
  rw [h]
  trivial

theorem State.SameSettings.keepsSettings (h : s.SameSettings t) (law : s.SettingsLaw) : t.SettingsLaw := by
  obtain ⟨four, curves, table, groups, places, blocks, queue⟩ := law
  refine ⟨by rw [h.curves]; exact four, by rw [h.curves]; exact curves, by rw [h.table]; exact table,
    fun f l => ?_, by rw [h.memory]; exact places, by rw [h.memory]; exact blocks, fun e mem => ?_⟩
  · rw [State.workingGroup, h.groups]
    exact groups f l
  · rcases job : e.job with ⟨p, w⟩ | ⟨o, v⟩
    · obtain ⟨x, old, same⟩ := h.writes e mem p w job
      exact StoreEntry.inRange_congr (job.trans same.symm) (queue x old)
    · exact StoreEntry.inRange_internal job

theorem GroupPair.get_set (g : GroupPair) (k l : Letter) (w : WorkingGroup) :
    (g.set k w).get l = if l = k then w else g.get l := by
  cases k <;> cases l <;> rfl

/-- A group takes its place in the working set. -/
theorem groupValid_set {groups : PerFeeder GroupPair} (h : ∀ f l, groupValid ((feederGet groups f).get l).group = true)
    {w : WorkingGroup} (new : groupValid w.group = true) (f : Feeder) (l : Letter) (g : Feeder) (k : Letter) :
    groupValid ((feederGet (feederSet groups f ((feederGet groups f).set l w)) g).get k).group = true := by
  rw [feederGet_set]
  split
  · rw [GroupPair.get_set]
    split
    · exact new
    · exact h f k
  · exact h g k

theorem State.rebuild_settingsLaw (s : State) (pins : Pins) : (s.rebuild pins).SettingsLaw := by
  obtain ⟨t, rebuilt, -, ⟨e, fire⟩, memory, store⟩ := s.rebuild_settings pins
  refine rebuilt.sameSettings.keepsSettings ⟨?_, ?_, ?_, fun f l => ?_, ?_, ?_, ?_⟩
  · simp [fire, LoadedStore.fire, loadStore]
  · rw [fire]; exact loadStore_curves_valid s.image s.stamp
  · rw [fire]; exact loadStore_table_valid s.image s.stamp
  · rw [State.workingGroup, fire]
    cases f <;> exact loadedGroups_valid s.image s.stamp _ l
  · simp [memory, loadStore]
  · rw [memory]; exact loadStore_hunt_valid s.image s.stamp
  · simp [store]

theorem State.Move.keepsSettings (h : s.Move t) (law : s.SettingsLaw) : t.SettingsLaw := by
  cases h with
  | steady h => exact h.sameSettings.keepsSettings law
  | taken | updated | cleared | lost => exact ((State.Steady.refl s).sameSettings.setUnit _).keepsSettings law
  | recomputed c f => exact (s.recomputeFeeder_sameSettings c f).keepsSettings law
  | fire x curves table groups _ =>
    exact State.SameSettings.keepsSettings ⟨curves, table, groups, rfl, (State.Steady.refl s).writes⟩ law
  | curve p n c queued =>
    obtain ⟨four, curves, others⟩ := law
    obtain ⟨e, mem, job⟩ := queued
    obtain ⟨-, -, valid⟩ : StoreEntry.inRange { job := .port p (.curve n c), begun := false } :=
      StoreEntry.inRange_congr job.symm (others.2.2.2.2 e mem)
    refine ⟨List.length_set.trans four, fun x at_x => ?_, others⟩
    obtain old | rfl := List.mem_or_eq_of_mem_set at_x
    · exact curves x old
    · exact valid
  | group p f l g queued =>
    obtain ⟨four, curves, table, groups, places, blocks, queue⟩ := law
    obtain ⟨e, mem, job⟩ := queued
    have valid : groupValid g = true :=
      StoreEntry.inRange_congr (e := { job := .port p (.group f l g), begun := false }) job.symm (queue e mem)
    exact ⟨four, curves, table,
      groupValid_set (groups := s.fire.groups) (w := { group := g, fallback := false }) groups valid f l, places, blocks,
      queue⟩
  | fields p start values queued =>
    obtain ⟨four, curves, table, groups, places, blocks, queue⟩ := law
    obtain ⟨e, mem, job⟩ := queued
    obtain ⟨-, -, valid⟩ : StoreEntry.inRange { job := .port p (.fireBlock start values), begun := false } :=
      StoreEntry.inRange_congr job.symm (queue e mem)
    exact ⟨four, curves, fireTableValid_writeFields table valid, groups, places, blocks, queue⟩
  | restored =>
    obtain ⟨four, curves, -, others⟩ := law
    exact ⟨four, curves, fixedTable_valid, others⟩
  | blocks first l valid =>
    obtain ⟨four, curves, table, groups, places, blocks, queue⟩ := law
    exact ⟨four, curves, table, groups, (writeBlocks_length _ _ _).trans places, huntBlockValid_writeBlocks blocks valid,
      queue⟩
  | queued p w valid =>
    obtain ⟨four, curves, table, groups, places, blocks, queue⟩ := law
    refine ⟨four, curves, table, groups, places, blocks, fun e mem => ?_⟩
    obtain old | new := List.mem_append.1 mem
    · exact queue e old
    · rw [List.mem_singleton.1 new]; exact valid
  | image im => exact law
  | rebuilt pins => exact s.rebuild_settingsLaw pins

/-- Settles O10: every step is a run of moves, and every move keeps the settings within their ranges. -/
theorem stepKeepsSettingsLaw : Obligations.StepKeepsSettingsLaw :=
  fun _ _ law ran => (step_moves ran).keeps State.Move.keepsSettings law

end Sys2Proof.Machine
end

section
/-! The overcurrent elements: curve, increment, reset, operation and high-set counting (R15 to R23, R30). -/

namespace Sys2Proof.Machine

/-! ### Curves (R16, R17) -/

theorem curveRate_single (a : Point) (m : Nat) : curveRate [a] m = a.rate := rfl

theorem curveRate_within {a b : Point} {rest : Curve} {m : Nat} (h : m < b.ratio) :
    curveRate (a :: b :: rest) m = rateBetween a b m := if_pos h

theorem curveRate_beyond {a b : Point} {rest : Curve} {m : Nat} (h : b.ratio ≤ m) :
    curveRate (a :: b :: rest) m = curveRate (b :: rest) m := if_neg (not_lt.2 h)

theorem rateBetween_self (a b : Point) : rateBetween a b a.ratio = a.rate := by simp [rateBetween]

theorem pointsRise_cons {a b : Point} {rest : Curve} :
    pointsRise (a :: b :: rest) = true ↔ a.ratio < b.ratio ∧ a.rate ≤ b.rate ∧ pointsRise (b :: rest) = true := by
  simp [pointsRise, and_assoc]

/-- The first point has the lowest ratio. -/
theorem pointsRise_head_le {a : Point} {k : Curve} (rise : pointsRise (a :: k) = true) : ∀ x ∈ a :: k, a.ratio ≤ x.ratio := by
  induction k generalizing a with
  | nil => simp
  | cons b rest ih =>
    obtain ⟨above, -, tail⟩ := pointsRise_cons.1 rise
    exact List.forall_mem_cons.2 ⟨le_rfl, fun x mem => above.le.trans (ih tail x mem)⟩

/-- At or beyond the last point the rate is the last point's. -/
theorem curveRate_last {k : Curve} {m : Nat} (rise : pointsRise k = true) {z : Point} (last : k.getLast? = some z)
    (beyond : z.ratio ≤ m) : curveRate k m = z.rate := by
  induction k with
  | nil => cases last
  | cons a k ih =>
    cases k with
    | nil => cases last; rfl
    | cons b rest =>
      obtain ⟨-, -, tail⟩ := pointsRise_cons.1 rise
      rw [List.getLast?_cons_cons] at last
      rw [curveRate_beyond ((pointsRise_head_le tail z (List.mem_of_getLast? last)).trans beyond)]
      exact ih tail last

/-- Between two points the rate is interpolated. -/
theorem curveRate_between {k : Curve} {m j : Nat} (rise : pointsRise k = true) {a b : Point} (low : k[j]? = some a)
    (high : k[j + 1]? = some b) (above : a.ratio ≤ m) (below : m < b.ratio) : curveRate k m = rateBetween a b m := by
  induction k generalizing j with
  | nil => cases low
  | cons c k ih =>
    cases k with
    | nil => cases high
    | cons d rest =>
      cases j with
      | zero =>
        cases low
        cases high
        exact curveRate_within below
      | succ j =>
        obtain ⟨-, -, tail⟩ := pointsRise_cons.1 rise
        rw [curveRate_beyond ((pointsRise_head_le tail a (List.mem_of_getElem? low)).trans above)]
        exact ih tail low high

/-- A point's ratio has that point's rate. -/
theorem curveRate_point {k : Curve} (rise : pointsRise k = true) {a : Point} (mem : a ∈ k) :
    curveRate k a.ratio = a.rate := by
  induction k with
  | nil => cases mem
  | cons c k ih =>
    cases k with
    | nil => rw [List.mem_singleton.1 mem]; rfl
    | cons d rest =>
      obtain ⟨above, -, tail⟩ := pointsRise_cons.1 rise
      obtain rfl | later := List.mem_cons.1 mem
      · rw [curveRate_within above, rateBetween_self]
      · rw [curveRate_beyond (pointsRise_head_le tail a later)]
        exact ih tail later

/-- A ratio at or above the first point's is at or beyond the last, or between two points. -/
theorem curve_brackets {a : Point} {k : Curve} {m : Nat} (above : a.ratio ≤ m) :
    (∃ z, (a :: k).getLast? = some z ∧ z.ratio ≤ m) ∨
      ∃ j b c, (a :: k)[j]? = some b ∧ (a :: k)[j + 1]? = some c ∧ b.ratio ≤ m ∧ m < c.ratio := by
  induction k generalizing a with
  | nil => exact .inl ⟨a, rfl, above⟩
  | cons b rest ih =>
    by_cases below : m < b.ratio
    · exact .inr ⟨0, a, b, rfl, rfl, above, below⟩
    · obtain ⟨z, last, beyond⟩ | ⟨j, c, d, low, high, bracket⟩ := ih (not_lt.1 below)
      · exact .inl ⟨z, List.getLast?_cons_cons.trans last, beyond⟩
      · exact .inr ⟨j + 1, c, d, low, high, bracket⟩

/-- What R16 says of a curve: its first point has ratio 16, its points rise, and their values are in range. -/
theorem curveValid_points {k : Curve} (h : curveValid k = true) :
    ∃ a rest, k = a :: rest ∧ a.ratio = 16 ∧ pointsRise k = true ∧
      ∀ q ∈ k, q.ratio ≤ 640 ∧ 1 ≤ q.rate ∧ q.rate ≤ 1048576 := by
  cases k with
  | nil => simp [curveValid] at h
  | cons a rest =>
    simp only [curveValid, List.head?_cons, Option.map_some, Bool.and_eq_true, decide_eq_true_eq, beq_iff_eq,
      Option.some.injEq, List.all_eq_true, and_assoc] at h
    obtain ⟨-, -, first, rise, range⟩ := h
    exact ⟨a, rest, rfl, first, rise, range⟩

/-- An element that is not picked up uses no curve (R17, R20). -/
theorem Inverse.sample_reset {m : Nat} (h : m < 16) (x : Inverse) (c : Curve) (tms d : Nat) :
    x.sample m c tms d =
      ({ ratio := m, pickup := false, acc := resetAcc x.acc d,
         operated := x.operated && resetAcc x.acc d == fullScale }, false) := if_neg (not_le.2 h)

/-- Settles O25, by induction along the curve's points. -/
theorem rateInterpolatesCurve : Obligations.RateInterpolatesCurve := by
  refine ⟨fun k m valid low high => ?_, fun x m tms d k k' below => ?_⟩
  · obtain ⟨first, rest, rfl, sixteen, rise, range⟩ := curveValid_points valid
    refine ⟨fun z => curveRate_last rise, fun j a b at_j next above below => ⟨curveRate_between rise at_j next above below, ?_⟩,
      fun a mem same => same ▸ curveRate_point rise mem, curve_brackets (sixteen.trans_le low)⟩
    have lowest := pointsRise_head_le rise a (List.mem_of_getElem? at_j)
    have rateLow := (range a (List.mem_of_getElem? at_j)).2.1
    have rateHigh := (range b (List.mem_of_getElem? next)).2.2
    exact Nat.mul_le_mul (by omega) (by omega)
  · rw [Inverse.sample_reset below, Inverse.sample_reset below]

/-! ### Increment and reset (R18, R20) -/

theorem Protection.evaluate_oc (u : Protection) (e : Effective) (oc ef : Curve) (x : Sample) :
    (u.evaluate e oc ef x).unit.oc = (u.oc.sample (currentRatio x.imax e.group.ocPickup) oc e.ocTms e.group.ocReset).1 :=
  rfl

theorem Protection.evaluate_ef (u : Protection) (e : Effective) (oc ef : Curve) (x : Sample) :
    (u.evaluate e oc ef x).unit.ef = (u.ef.sample (currentRatio x.i0 e.group.efPickup) ef e.efTms e.group.efReset).1 :=
  rfl

/-- A picked-up element counts (R19, R21). -/
theorem Inverse.sample_pickup {m : Nat} (h : 16 ≤ m) (x : Inverse) (c : Curve) (tms d : Nat) :
    x.sample m c tms d =
      ({ ratio := m, pickup := true, acc := min fullScale (x.acc + increment (curveRate c m) tms),
         operated := min fullScale (x.acc + increment (curveRate c m) tms) == fullScale },
        min fullScale (x.acc + increment (curveRate c m) tms) == fullScale && !x.operated) := if_pos h

theorem increment_le {rate tms : Nat} (full : rate ≤ 1048576) (low : 5 ≤ tms) : increment rate tms ≤ 20971520 := by
  have quotient : rate * 100 / tms ≤ rate * 100 / 5 := Nat.div_le_div_left low (by decide)
  exact max_le (by decide) (quotient.trans (by omega))

/-- Settles O26, from the equation of a picked-up sample. -/
theorem incrementIsRateOverMultiplier : Obligations.IncrementIsRateOverMultiplier := by
  refine ⟨fun u e oc ef x => ⟨u.evaluate_oc e oc ef x, u.evaluate_ef e oc ef x⟩, fun x m tms d c picked => ?_,
    fun rate tms full low _ => ⟨by omega, le_max_left _ _, increment_le full low⟩, by decide, by decide⟩
  rw [Inverse.sample_pickup picked]
  rfl

/-- Settles O27, from the equation of a sample that is not picked up. -/
theorem accumulatorResetsByDecrement : Obligations.AccumulatorResetsByDecrement := by
  refine ⟨fun u e oc ef x => ⟨u.evaluate_oc e oc ef x, u.evaluate_ef e oc ef x⟩, fun x m tms d c below => ?_⟩
  rw [Inverse.sample_reset below]
  dsimp only [resetAcc]
  split
  · next none => simp [none]
  · next some => exact ⟨fun none => absurd none some, fun _ => Nat.sub_add_cancel, fun _ more => by omega, by omega⟩

/-! ### Operation (R19, R21, R30) -/

/-- A full accumulator whose mark is set operates no more while the element is picked up. -/
theorem Inverse.run_operated {x : Inverse} (full : x.acc = fullScale) (mark : x.operated = true) (c : Curve) (tms d : Nat)
    {ms : List Nat} (picked : ∀ m ∈ ms, 16 ≤ m) : Inverse.run c tms d x ms = List.replicate ms.length false := by
  induction ms generalizing x with
  | nil => rfl
  | cons m rest ih =>
    obtain ⟨first, others⟩ := List.forall_mem_cons.1 picked
    have still : min fullScale (x.acc + increment (curveRate c m) tms) = fullScale := min_eq_left (by omega)
    rw [Inverse.run, Inverse.sample_pickup first, still, ih rfl (beq_self_eq_true _) others, mark]
    rfl

/-- On the fallback curve at a time multiplier of 100 every picked-up sample counts 8,192 (R30). -/
theorem increment_fallbackCurve (m : Nat) : increment (curveRate fallbackCurve m) 100 = 8192 := by
  have rate : curveRate fallbackCurve m = 8192 := by
    simp [fallbackCurve, curveRate, rateBetween]
  rw [rate]
  decide

/-- After k samples of a pickup on the fallback curve, 128 less k are left to the operation (R30). -/
theorem Inverse.run_fallbackCurve {x : Inverse} {k : Nat} (count : x.acc = 8192 * k) (below : k < 128)
    (mark : x.operated = false) (d : Nat) {ms : List Nat} (picked : ∀ m ∈ ms, 16 ≤ m) :
    Inverse.run fallbackCurve 100 d x ms = (List.range ms.length).map (fun i => k + i + 1 == 128) := by
  induction ms generalizing x k with
  | nil => rfl
  | cons m rest ih =>
    obtain ⟨first, others⟩ := List.forall_mem_cons.1 picked
    rw [Inverse.run, Inverse.sample_pickup first, increment_fallbackCurve, count, mark, List.length_cons,
      List.range_succ_eq_map, List.map_cons, List.map_map]
    have acc : min fullScale (8192 * k + 8192) = 8192 * (k + 1) := by
      unfold fullScale
      omega
    rw [acc]
    by_cases last : k = 127
    · subst last
      rw [Inverse.run_operated rfl rfl _ _ _ others]
      refine congrArg₂ List.cons (by simp [fullScale]) (List.eq_replicate_iff.2 ⟨by simp, ?_⟩).symm
      simp only [List.forall_mem_map, Function.comp_apply, beq_eq_false_iff_ne]
      omega
    · have short : (8192 * (k + 1) == fullScale) = false := beq_false_of_ne (by unfold fullScale; omega)
      rw [short, ih rfl (by omega) rfl others]
      refine congrArg₂ List.cons (by simp [last]) (List.map_congr_left fun i _ => ?_)
      rw [Function.comp_apply, Nat.succ_eq_add_one, Nat.add_right_comm k 1 i, Nat.add_assoc k i 1]

/-- Settles O28, from the two equations of a sample and the runs of a pickup. -/
theorem inverseElementOperatesOnce : Obligations.InverseElementOperatesOnce := by
  refine ⟨fun x y op m tms d c sampled => ?_, fun x tms d c ms picked full mark => x.run_operated full mark c tms d picked,
    fun x d ms picked empty mark => ?_⟩
  · by_cases picked : 16 ≤ m
    · rw [Inverse.sample_pickup picked] at sampled
      cases sampled
      refine ⟨?_, fun _ => ⟨rfl, beq_iff_eq⟩, fun below => by omega⟩
      simp [picked, fullScale]
    · have below := not_le.1 picked
      rw [Inverse.sample_reset below] at sampled
      cases sampled
      refine ⟨?_, fun above => absurd above picked, fun _ => ⟨rfl, ?_⟩⟩
      · simp [picked]
      · simp [fullScale]
  · rw [Inverse.run_fallbackCurve (k := 0) (by omega) (by decide) mark d fun m mem => (picked m mem).1]
    simp

/-! ### High-set (R15, R23) -/

theorem HighSet.sample_below {m h : Nat} (below : m < h) (x : HighSet) (n : Nat) :
    x.sample m h n = ({ count := 0, operated := false }, false) := if_neg (not_le.2 below)

theorem HighSet.sample_above {m h : Nat} (above : h ≤ m) (x : HighSet) (n : Nat) :
    x.sample m h n =
      ({ count := min 50 (x.count + 1), operated := x.operated || (decide (n ≤ min 50 (x.count + 1)) && !x.operated) },
        decide (n ≤ min 50 (x.count + 1)) && !x.operated) := if_pos above

/-- A ratio is 16 or more from the pickup on (R15). -/
theorem currentRatio_picked {i p : Nat} (positive : 1 ≤ p) : 16 ≤ currentRatio i p ↔ p ≤ i := by
  unfold currentRatio ratioCap
  rw [le_min_iff, Nat.le_div_iff_mul_le positive]
  omega

theorem currentRatio_le (i p : Nat) : currentRatio i p ≤ 640 := min_le_left _ _

theorem currentRatio_overrange {p : Nat} (positive : 1 ≤ p) (low : p ≤ 1638) : currentRatio 65535 p = 640 := by
  unfold currentRatio ratioCap
  rw [min_eq_left]
  rw [Nat.le_div_iff_mul_le positive]
  omega

/-- Settles O29, from the two equations of a sample and the ratio of R15. -/
theorem highSetCountsFrames : Obligations.HighSetCountsFrames := by
  refine ⟨fun x y op m h n sampled => ?_, fun i p positive => ⟨currentRatio_picked positive, currentRatio_le i p⟩,
    fun p => currentRatio_overrange⟩
  by_cases above : h ≤ m
  · rw [HighSet.sample_above above] at sampled
    cases sampled
    refine ⟨fun below => by omega, fun _ => ⟨rfl, by simp, ?_⟩⟩
    cases x.operated <;> simp
  · have below := not_le.1 above
    rw [HighSet.sample_below below] at sampled
    cases sampled
    exact ⟨fun _ => ⟨rfl, rfl⟩, fun high => absurd high above⟩

end Sys2Proof.Machine
end

section
/-! Writes of settings, checked and queued with the store or refused (R27, R103, R113, R115, R117, R124, R144, R151, R182). -/

namespace Sys2Proof.Machine

variable {s : State} {p : Port} {fr : Frame} {code : Byte} {i : Instr} {owner : State → State}

/-! ### Queueing (R178) -/

@[simp] theorem State.setPendingMark_log (s : State) (o : RetentionOwner) (m : Bool) : (s.setPendingMark o m).log = s.log := by
  cases o <;> rfl

@[simp] theorem State.beginHead_log (s : State) : s.beginHead.log = s.log := by
  unfold State.beginHead
  split
  · rfl
  split
  · rfl
  split
  · rfl
  · simp

@[simp] theorem State.storeEnqueue_log (s : State) (j : StoreJob) : (s.storeEnqueue j).log = s.log := by
  simp [State.storeEnqueue]

theorem State.queueWrite_healthy (s : State) (h : s.store.fault = none) (p : Port) (w : PortWrite) :
    s.queueWrite p w = s.storeEnqueue (.port p w) := by simp [State.queueWrite, h]

theorem State.queueWrite_faulted (s : State) (h : s.store.fault ≠ none) (p : Port) (w : PortWrite) :
    s.queueWrite p w = s.reply p .storeFault := if_pos (Option.isSome_iff_ne_none.2 h)

/-! ### Control requests of the station and the remote -/

/-- A control request whose owner appends no record leaves what its owner leaves. -/
theorem exec_control (taken : s.controlTaken p code fr) (granted : p ≠ .panel) {t : State}
    (row : exec i s = event s fun s => s.controlRequest p code (grantStationRemote p) fr owner)
    (owned : owner (s.controlInFlight p code fr) = t) (silent : t.log = s.log) : exec i s = .next t := by
  obtain ⟨⟨⟨powered, _⟩, _⟩, _⟩ := id taken
  rw [row, event_powered _ _ powered, State.controlRequest_taken taken (grantStationRemote_of_ne granted),
    State.causedBy_same (by rw [owned, silent]; rfl), owned]

/-- An owner that answers at once. -/
theorem exec_control_answers (taken : s.controlTaken p code fr) (granted : p ≠ .panel) {st : Status}
    (row : exec i s = event s fun s => s.controlRequest p code (grantStationRemote p) fr owner)
    (owned : owner (s.controlInFlight p code fr) = (s.controlInFlight p code fr).reply p st) :
    exec i s = .next (s.controlAnswered p code fr st []) :=
  exec_control taken granted row (owned.trans (State.controlInFlight_reply taken.1.1 st)) rfl

/-- An owner that queues a change of the state with the store, or refuses it in the fault state. -/
theorem exec_control_enqueues (taken : s.controlTaken p code fr) (granted : p ≠ .panel) {t : State} {j : StoreJob}
    (row : exec i s = event s fun s => s.controlRequest p code (grantStationRemote p) fr owner)
    (owned : owner (s.controlInFlight p code fr) =
      if s.store.fault = none then t.storeEnqueue j else (s.controlInFlight p code fr).reply p .storeFault)
    (silent : t.log = s.log) :
    exec i s = .next (if s.store.fault = none then t.storeEnqueue j else s.controlAnswered p code fr .storeFault []) := by
  rw [State.controlInFlight_reply taken.1.1] at owned
  refine exec_control taken granted row owned ?_
  split
  · rw [State.storeEnqueue_log, silent]
  · rfl

/-- An owner that queues a write. -/
theorem exec_control_queues (taken : s.controlTaken p code fr) (granted : p ≠ .panel) {w : PortWrite}
    (row : exec i s = event s fun s => s.controlRequest p code (grantStationRemote p) fr owner)
    (owned : owner (s.controlInFlight p code fr) = (s.controlInFlight p code fr).queueWrite p w) :
    exec i s = .next
      (if s.store.fault = none then (s.controlInFlight p code fr).storeEnqueue (.port p w)
      else s.controlAnswered p code fr .storeFault []) := by
  refine exec_control_enqueues taken granted row ?_ rfl
  rw [owned]
  split
  · next healthy => exact State.queueWrite_healthy (s.controlInFlight p code fr) healthy p w
  · next faulted => exact State.queueWrite_faulted (s.controlInFlight p code fr) faulted p w

/-! ### Curves, corridors, exposure classes and the fire table -/

section Owners

variable {pl : List Byte} {f : Feeder}

/-- A curve that passes its checks. -/
theorem ownerWriteCurve_checked (s : State) (p : Port) (most : 2 ≤ pl.length) (length : pl.length = 2 + 6 * byteAt pl 1)
    (low : 1 ≤ byteAt pl 0) (high : byteAt pl 0 ≤ 4) (valid : curveValid (pointsAt pl 2 (byteAt pl 1)) = true) :
    ownerWriteCurve p pl s =
      if allFeeders.any (s.curveActive (byteAt pl 0)) then s.reply p .inUse
      else s.queueWrite p (.curve (byteAt pl 0) (pointsAt pl 2 (byteAt pl 1))) :=
  if_pos ⟨most, length, low, high, valid⟩

theorem ownerWriteCorridor_checked (s : State) (p : Port) (length : pl.length = 2) (names : feederOf (byteAt pl 0) = some f)
    (bits : byteAt pl 1 < 16) (other : feederGet (feederSetOf (byteAt pl 1)) f = false) :
    ownerWriteCorridor p pl s = s.queueWrite p (.corridor f (feederSetOf (byteAt pl 1))) := by
  simp [ownerWriteCorridor, names, length, bits, other]

theorem ownerWriteExposure_checked (s : State) (p : Port) {e : Exposure} (length : pl.length = 2)
    (names : feederOf (byteAt pl 0) = some f) (value : exposureOf (byteAt pl 1) = some e) :
    ownerWriteExposure p pl s = s.queueWrite p (.exposure f e) := by
  simp [ownerWriteExposure, length, names, value]

theorem ownerWriteFireBlock_checked (s : State) (p : Port) (length : pl.length = 5)
    (valid : fireValuesValid (byteAt pl 0) [byteAt pl 1, byteAt pl 2, byteAt pl 3, byteAt pl 4] = true) :
    ownerWriteFireBlock p pl s =
      if 32 < byteAt pl 0 then s.reply p .range
      else s.queueWrite p (.fireBlock (byteAt pl 0) [byteAt pl 1, byteAt pl 2, byteAt pl 3, byteAt pl 4]) :=
  if_pos ⟨length, valid⟩

/-! ### Groups, unit lists and hunt blocks -/

theorem ownerWriteGroup_checked (s : State) (p : Port) {l : Letter} (length : pl.length = 58)
    (names : feederOf (byteAt pl 0) = some f) (letter : letterOf (byteAt pl 1) = some l)
    (valid : groupValid (groupAt pl 2) = true) :
    ownerWriteGroup p pl s =
      if (s.effective f).letter = l then s.reply p .inUse else s.queueWrite p (.group f l (groupAt pl 2)) := by
  simp [ownerWriteGroup, length, names, letter, valid]

theorem ownerWriteUnitList_checked (s : State) (p : Port) (most : 2 ≤ pl.length) (length : pl.length = 2 + byteAt pl 1)
    (names : feederOf (byteAt pl 0) = some f)
    (valid : unitListValid (addressesAt pl 2 (byteAt pl 1)) (s.otherAddresses f) = true) :
    ownerWriteUnitList p pl s =
      if s.huntOn f then s.reply p .huntActive
      else if s.store.fault = none then
        (s.setUnitList f (addressesAt pl 2 (byteAt pl 1))).storeEnqueue (.port p (.unitList f (addressesAt pl 2 (byteAt pl 1))))
      else s.reply p .storeFault := by
  simp only [ownerWriteUnitList, names, if_pos (And.intro most (And.intro length valid))]
  cases s.store.fault <;> rfl

theorem ownerWriteHuntBlocks_checked (s : State) (p : Port) {blocks : List HuntBlock}
    (carried : huntBlocksAt pl 2 (byteAt pl 1) = some blocks) (most : 2 ≤ pl.length)
    (length : pl.length = 2 + 8 * byteAt pl 1) (first : 1 ≤ byteAt pl 0) (some : 1 ≤ byteAt pl 1) (few : byteAt pl 1 ≤ 8)
    (within : byteAt pl 0 + byteAt pl 1 ≤ 256) :
    ownerWriteHuntBlocks p pl s =
      if (List.range (byteAt pl 1)).any (fun i => s.hunt.lockSet.contains (byteAt pl 0 + i)) then s.reply p .inUse
      else if s.store.fault = none then
        (s.setHunt { s.hunt with memory := writeBlocks s.hunt.memory (byteAt pl 0) blocks }).storeEnqueue
          (.port p (.huntBlocks (byteAt pl 0) blocks))
      else s.reply p .storeFault := by
  simp only [ownerWriteHuntBlocks, carried, if_pos (show _ ∧ _ ∧ _ ∧ _ ∧ _ ∧ _ from ⟨most, length, first, some, few, within⟩)]
  cases s.store.fault <;> rfl

end Owners

/-- A place of the lock set lies in a run of places. -/
theorem lockSet_any {l : List Nat} {first n : Nat} :
    (List.range n).any (fun i => l.contains (first + i)) = true ↔ ∃ i ∈ l, first ≤ i ∧ i < first + n := by
  simp only [List.any_eq_true, List.mem_range, List.contains_iff_mem]
  constructor
  · rintro ⟨i, below, mem⟩
    exact ⟨first + i, mem, by omega, by omega⟩
  · rintro ⟨i, mem, low, high⟩
    exact ⟨i - first, by omega, by rwa [Nat.add_sub_cancel' low]⟩

/-- Settles O46: each row by its owner's equation on the port with the request in flight. -/
theorem settingWritesAreQueued : Obligations.SettingWritesAreQueued := by
  intro p f fr s row
  refine ⟨?curve, ?corridor, ?exposure, ?fireBlock, ?restore, ?group, ?unitList, ?huntBlocks, ?repair⟩
  case curve =>
    rintro n c taken most length rfl rfl low high valid
    have checked := ownerWriteCurve_checked (s.controlInFlight p 0x04 fr) p most length low high valid
    refine ⟨fun used => exec_control_answers taken row rfl (checked.trans (if_pos ((allFeeders_any _).2 used))),
      fun unused => exec_control_queues taken row rfl (checked.trans (if_neg fun used => ?_))⟩
    obtain ⟨g, active⟩ := (allFeeders_any _).1 used
    exact absurd active (Bool.eq_false_iff.1 (unused g))
  case corridor =>
    intro taken length names bits other
    exact exec_control_queues taken row rfl (ownerWriteCorridor_checked _ p length names bits other)
  case exposure =>
    intro e taken length names value
    exact exec_control_queues taken row rfl (ownerWriteExposure_checked _ p length names value)
  case fireBlock =>
    rintro start values taken length rfl rfl valid
    have checked := ownerWriteFireBlock_checked (s.controlInFlight p 0x11 fr) p length valid
    exact ⟨fun beyond => exec_control_answers taken row rfl (checked.trans (if_pos beyond)),
      fun low => exec_control_queues taken row rfl (checked.trans (if_neg (not_lt.2 low)))⟩
  case restore =>
    intro taken empty
    exact exec_control_queues taken row rfl (if_pos empty)
  case group =>
    rintro l g taken length names letter rfl valid
    have checked := ownerWriteGroup_checked (s.controlInFlight p 0x13 fr) p length names letter valid
    exact ⟨fun active => exec_control_answers taken row rfl (checked.trans (if_pos active)),
      fun idle => exec_control_queues taken row rfl (checked.trans (if_neg idle))⟩
  case unitList =>
    rintro l taken most length names rfl valid
    have checked := ownerWriteUnitList_checked (s.controlInFlight p 0x18 fr) p most length names valid
    exact ⟨fun on => exec_control_answers taken row rfl (checked.trans (if_pos on)),
      fun off => exec_control_enqueues taken row rfl (checked.trans (if_neg (Bool.eq_false_iff.1 off))) rfl⟩
  case huntBlocks =>
    rintro first n blocks taken most length rfl rfl carried low some few within
    have checked := ownerWriteHuntBlocks_checked (s.controlInFlight p 0x1D fr) p carried most length low some few within
    refine ⟨fun locked => exec_control_answers taken row rfl (checked.trans (if_pos (lockSet_any.2 locked))),
      fun free => exec_control_enqueues taken row rfl (checked.trans (if_neg fun locked => ?_)) rfl⟩
    obtain ⟨i, mem, above, below⟩ := lockSet_any.1 locked
    obtain under | beyond := free i mem
    · exact absurd above (not_le.2 under)
    · exact absurd below (not_lt.2 beyond)
  case repair =>
    intro taken empty
    have checked : ownerStoreRepair p fr.payload (s.controlInFlight p 0x28 fr) = _ := if_pos empty
    split
    · next healthy => exact exec_control_answers taken row rfl (checked.trans (if_pos (Option.isNone_iff_eq_none.2 healthy)))
    · next faulted =>
      have fault : ¬ s.store.fault.isNone = true := fun none => faulted (Option.isNone_iff_eq_none.1 none)
      split
      · next waiting => exact exec_control_answers taken row rfl (checked.trans ((if_neg fault).trans (if_pos waiting)))
      · next free =>
        exact exec_control taken row rfl (checked.trans ((if_neg fault).trans (if_neg free))) (State.storeEnqueue_log _ _)

end Sys2Proof.Machine
end

section
/-! SUPPORT. The bytes of the responses, read field by field (R197, R198): one equation per layout. -/

namespace Sys2Proof.Machine

/-! ### Fields -/

@[simp] theorem fieldBytes_one (n : Nat) (l : Fields) : fieldBytes ((1, n) :: l) = u8 n ++ fieldBytes l := by
  rw [fieldBytes_cons, widthBytes_one]

@[simp] theorem fieldBytes_two (n : Nat) (l : Fields) : fieldBytes ((2, n) :: l) = u16 n ++ fieldBytes l := by
  rw [fieldBytes_cons, widthBytes_two]

@[simp] theorem fieldBytes_four (n : Nat) (l : Fields) : fieldBytes ((4, n) :: l) = u32 n ++ fieldBytes l := by
  rw [fieldBytes_cons, widthBytes_four]

/-- One field of a byte for each item of a list. -/
theorem fieldBytes_map_one {α : Type} (l : List α) (g : α → Nat) :
    fieldBytes (l.map fun x => (1, g x)) = l.flatMap fun x => u8 (g x) := by
  induction l with
  | nil => rfl
  | cons x l ih => simp [ih]

theorem u8_feederField (f : Feeder) : u8 (feederField f) = u8 (feederNumber f) := by cases f <;> rfl

theorem u8_portField (p : Port) : u8 (portField (some p)) = u8 (portNumber p) := by cases p <;> rfl

theorem optCode_portField (p : Option Port) : u8 (portField p) = optCode p portNumber := by
  rcases p with _ | _ | _ | _ <;> rfl

theorem optCode_causeField (c : Option Cause) : u8 (causeField c) = optCode c Cause.code := by
  rcases c with _ | _ | _ | _ | _ <;> rfl

theorem fieldBytes_timeFields (t : TimeOfDay) : fieldBytes (timeFields t) = timeBytes t := by
  simp [timeFields, timeBytes]

theorem fieldBytes_stampFields (x : Stamp) : fieldBytes (stampFields x) = stampBytes x := by
  simp [stampFields, stampBytes, fieldBytes_append, fieldBytes_timeFields, u8_yesNo]

/-! ### READ-CURVE, READ-GROUP and READ-HUNT-BLOCKS -/

theorem fieldBytes_curveFields (c : Curve) : fieldBytes (curveFields c) = curveBytes c := by
  simp [curveFields, curveBytes, listBytes, fieldBytes_flatMap]

theorem fieldBytes_groupFields (g : SettingGroup) : fieldBytes (groupFields g) = groupBytes g := by
  delta groupFields groupBytes
  simp only [fieldBytes_one, fieldBytes_two, fieldBytes_four, fieldBytes_nil, List.append_assoc, List.append_nil]

theorem blockFields_tests (t : Conditions) :
    yesNo t.sefSeen + 2 * yesNo t.ocSeen + 4 * yesNo t.trip + 8 * yesNo t.fpi + 16 * yesNo t.unitFail = t.code := by
  obtain ⟨a, b, c, d, e⟩ := t
  cases a <;> cases b <;> cases c <;> cases d <;> cases e <;> rfl

theorem blockFields_head (n : Nat) (a b : Bool) :
    n + 16 * yesNo a + 128 * yesNo b = n + (if a then 16 else 0) + (if b then 128 else 0) := by
  cases a <;> cases b <;> rfl

theorem fieldBytes_blockFields (b : HuntBlock) : fieldBytes (blockFields b) = huntBlockBytes b := by
  simp [blockFields, huntBlockBytes, blockFields_tests, blockFields_head]

/-! ### READ-PROTECTION -/

theorem fieldBytes_windowFields (w : Option Window) : fieldBytes (windowFields w) = windowBytes w := by
  cases w with
  | none => rfl
  | some w => simp [windowFields, windowBytes, padded, bit]

theorem State.fieldBytes_protectionFields (s : State) (f : Feeder) :
    fieldBytes (s.protectionFields f) = s.protectionBytes f := by
  delta State.protectionFields State.protectionBytes
  simp only [fieldBytes_append, fieldBytes_windowFields, fieldBytes_one, fieldBytes_two, fieldBytes_four, fieldBytes_nil,
    u8_yesNo, Inverse.bytes, sefActionBytes, List.append_assoc, List.append_nil]
  cases (s.unit f).last with
  | none => rfl
  | some x =>
    simp only [padded, fieldBytes_two, fieldBytes_nil, List.append_assoc, List.append_nil]
    rfl

/-! ### READ-BREAKER -/

theorem tripPurposes_code (p : TripPurposes) :
    yesNo p.protection + 2 * yesNo p.manual + 4 * yesNo p.hunt = p.code := by
  obtain ⟨a, b, c⟩ := p
  cases a <;> cases b <;> cases c <;> rfl

theorem requesterField_code (r : Requester) : requesterField r = r.code := by
  rcases r with (_ | _ | _) | _ | _ | _ <;> rfl

theorem purposeField_code (c : ClosePurpose) : purposeField c = c.code := by cases c <;> rfl

theorem fieldBytes_slotFields (now : Ms) (x : Slot) : fieldBytes (slotFields now x) = x.bytes now := by
  cases x with
  | empty => rfl
  | trip op =>
    simp only [slotFields, Slot.bytes, fieldBytes_append, fieldBytes_one, fieldBytes_two, fieldBytes_nil, listBytes,
      fieldBytes_map_one, tripPurposes_code, optCode_causeField, requesterField_code, List.append_assoc, List.append_nil]
    cases op.cut with
    | none => rfl
    | some c =>
      simp only [fieldBytes_one, fieldBytes_nil, purposeField_code]
      rfl
  | close op =>
    simp only [slotFields, Slot.bytes, fieldBytes_one, fieldBytes_two, fieldBytes_nil, purposeField_code,
      requesterField_code]
    rfl

theorem fieldBytes_outcomeFields (o : Option TimedOutcome) :
    fieldBytes (outcomeFields o) = padded o 7 TimedOutcome.bytes := by
  cases o with
  | none => rfl
  | some o =>
    simp only [outcomeFields, fieldBytes_one, fieldBytes_timeFields]
    rfl

/-- The trip coil is energised in every phase of a trip but one (R52). -/
theorem tripPhase_coil (p : TripPhase) : (p != .confirmWait) = (p == .pulse || p == .failPulse) := by cases p <;> rfl

theorem State.fieldBytes_breakerFields (s : State) (f : Feeder) : fieldBytes (s.breakerFields f) = s.breakerBytes f := by
  delta State.breakerFields State.breakerBytes
  simp only [fieldBytes_append, fieldBytes_slotFields, fieldBytes_outcomeFields, fieldBytes_one, fieldBytes_two,
    fieldBytes_nil, u8_yesNo, List.append_assoc, List.append_nil, Breaker.tripCoil, Breaker.closeCoil]
  cases (s.breaker f).slot with
  | empty => rfl
  | trip op =>
    simp only [u8_yesNo, tripPhase_coil]
    rfl
  | close op =>
    simp only [u8_yesNo]
    rfl

/-! ### READ-SEQUENCER -/

theorem Sequencer.nextDeadTime_eq (g : SettingGroup) (q : Sequencer) :
    g.nextDeadTime q =
      match q.shotsBeforeNext with | 1 => g.dead2 | 2 => g.dead3 | 3 => g.dead4 | _ => g.dead1 := by
  change g.deadTime (if q.shotsBeforeNext < 4 then q.shotsBeforeNext else 0) = _
  rcases q.shotsBeforeNext with _ | _ | _ | _ | n <;> rfl

theorem optCode_closePhase (x : Option ClosePhase) :
    optCode x ClosePhase.code = u8 (match x with | none => 0 | some .asked => 1 | some .granted => 2) := by
  rcases x with _ | _ | _ <;> rfl

theorem optCode_lockoutReason (x : Option LockoutReason) :
    optCode x LockoutReason.code =
      u8 (match x with
        | none => 0 | some .switchOnToFault => 1 | some .patrol => 2 | some .hold => 3 | some .shots => 4
        | some .cause => 5 | some .shotsAtExpiry => 6 | some .causeAtExpiry => 7 | some .holdInDead => 8
        | some .closeRefused => 9 | some .closeFail => 10 | some .breakerFail => 11) := by
  rcases x with _ | x
  · rfl
  · cases x <;> rfl

theorem State.fieldBytes_sequencerFields (s : State) (f : Feeder) :
    fieldBytes (s.sequencerFields f) = s.sequencerBytes f := by
  delta State.sequencerFields State.sequencerBytes
  simp only [fieldBytes_append, fieldBytes_one, fieldBytes_four, fieldBytes_nil, u8_yesNo, optCode_portField,
    optCode_causeField, List.append_assoc, List.append_nil, optCode_closePhase, optCode_lockoutReason,
    Sequencer.nextDeadTime_eq]
  cases (s.sequencer f).timer with
  | none => rfl
  | some t =>
    simp only [fieldBytes_four, fieldBytes_nil, List.append_assoc, List.append_nil]
    rfl

/-! ### READ-HOLDS -/

theorem ownerField_code (o : Owner) : ownerField o = o.code := by rcases o with (_ | _ | _) | _ | _ | _ <;> rfl

theorem kindField_severity (k : HoldKind) : kindField k = k.severity := by cases k <;> rfl

theorem fieldBytes_holdFields (now : Ms) (h : Hold) : fieldBytes (holdFields now h) = h.bytes now := by
  simp only [holdFields, Hold.bytes, fieldBytes_append, fieldBytes_stampFields, fieldBytes_one, fieldBytes_two,
    fieldBytes_four, fieldBytes_nil, ownerField_code, kindField_severity, List.append_assoc, List.append_nil]
  cases h.expiry with
  | none =>
    simp only [padded]
    rfl
  | some e => rfl

theorem fieldBytes_permissionFields (l : List Hold) (c : ClosePurpose) :
    fieldBytes (permissionFields l c.ceiling) = permissionBytes l c := by
  have found : l.find? (fun h => decide (c.ceiling ≤ kindField h.kind)) = barring l c := by
    simp only [barring, kindField_severity]
  rw [permissionFields, permissionBytes, found]
  cases barring l c with
  | none => rfl
  | some h => simp [padded, ownerField_code, kindField_severity]

theorem feederSetField_code (c : PerFeeder Bool) : feederSetField c = feederSetCode c := by
  obtain ⟨a, b, c, d⟩ := c
  cases a <;> cases b <;> cases c <;> cases d <;> rfl

theorem State.fieldBytes_holdsFields (s : State) (f : Feeder) : fieldBytes (s.holdsFields f) = s.holdsBytes f := by
  have auto := fieldBytes_permissionFields (s.holdTable f).list .auto
  have remote := fieldBytes_permissionFields (s.holdTable f).list .remote
  have localClose := fieldBytes_permissionFields (s.holdTable f).list .localClose
  have hunt := fieldBytes_permissionFields (s.holdTable f).list .hunt
  simp only [ClosePurpose.ceiling] at auto remote localClose hunt
  delta State.holdsFields State.holdsBytes
  simp only [fieldBytes_append, fieldBytes_flatMap, fieldBytes_holdFields, fieldBytes_one, fieldBytes_nil, u8_yesNo,
    List.cons_append, auto, ← hunt, ← remote, localClose, kindField_severity, feederSetField_code, listBytes, List.append_assoc, List.append_nil]
  rfl

/-! ### READ-FIRE-TABLE and READ-FIRE -/

theorem State.fieldBytes_fireTableFields (s : State) : fieldBytes s.fireTableFields = s.fireTableBytes := by
  simp only [State.fireTableFields, State.fireTableBytes, fieldBytes_append,
    fieldBytes_map_one s.fire.table fun x => x, fieldBytes_map_one, fieldBytes_one,
    fieldBytes_nil, u8_yesNo, List.append_assoc, List.append_nil, bit, beq_iff_eq]

theorem levelField_number (l : Level) : levelField l = l.number := by cases l <;> rfl

theorem letterField_code (l : Letter) : letterField l = l.code := by cases l <;> rfl

theorem fieldBytes_requestFields (now : Ms) (r : Option FireRequest) :
    fieldBytes (requestFields now r) = slotBytes now r := by
  cases r with
  | none => rfl
  | some r =>
    simp only [requestFields, slotBytes, padded, List.cons_append, fieldBytes_append, fieldBytes_stampFields,
      fieldBytes_one, fieldBytes_two, fieldBytes_nil, levelField_number, u8_yesNo, List.append_assoc, List.append_nil]
    cases r.expiry with
    | none =>
      dsimp only
      rfl
    | some e => rfl

theorem State.fieldBytes_feederFireFields (s : State) (f : Feeder) :
    fieldBytes (s.feederFireFields f) = u8 (feederGet s.fire.exposure f).code ++ (s.effective f).bytes := by
  delta State.feederFireFields Effective.bytes
  simp only [fieldBytes_one, fieldBytes_two, fieldBytes_four, fieldBytes_nil, levelField_number, letterField_code, u8_yesNo,
    sefActionBytes, List.append_assoc, List.append_nil]
  rfl

theorem State.fieldBytes_fireFields (s : State) : fieldBytes s.fireFields = s.fireBytes := by
  simp only [State.fireFields, State.fireBytes, fieldBytes_append, fieldBytes_flatMap, fieldBytes_requestFields,
    State.fieldBytes_feederFireFields, fieldBytes_one, fieldBytes_nil, levelField_number, u8_yesNo, List.append_assoc,
    List.append_nil]
  rfl

/-! ### READ-STORE -/

theorem classField_code (c : RecordClass) : classField c = c.code := by cases c <;> rfl

theorem fieldBytes_storeEntry (e : StoreEntry) :
    fieldBytes
        ((match e.job with
          | .port p _ => [(1, 1), (1, portField (some p))]
          | .internal (.holds f) _ => [(1, 2), (1, feederField f)]
          | .internal .fireRequests _ => [(1, 2), (1, 5)]
          | .internal .isolation _ => [(1, 2), (1, 6)]) ++ [(1, yesNo e.begun)]) =
      e.bytes := by
  rw [fieldBytes_append, fieldBytes_one, u8_yesNo, fieldBytes_nil, List.append_nil, StoreEntry.bytes]
  rcases e.job with ⟨p, w⟩ | ⟨f | _ | _, x⟩
  · cases p <;> rfl
  · cases f <;> rfl
  · rfl
  · rfl

theorem optCode_storeFault (x : Option StoreFault) :
    fieldBytes (match x with | none => [(1, 0), (1, 0)] | some .load => [(1, 1), (1, 1)] | some .write => [(1, 1), (1, 2)]) =
      bit x.isSome ++ optCode x StoreFault.code := by
  rcases x with _ | _ | _ <;> rfl

theorem State.fieldBytes_storeFields (s : State) : fieldBytes s.storeFields = s.storeBytes := by
  have entries : StoreEntry.bytes = fun e => _ := funext fun e => (fieldBytes_storeEntry e).symm
  delta State.storeFields State.storeBytes
  rw [entries]
  simp only [fieldBytes_append, List.cons_append, fieldBytes_flatMap, fieldBytes_one, fieldBytes_nil, fieldBytes_map_one,
    classField_code, u8_yesNo, List.append_assoc, List.append_nil, listBytes, List.length_take, ← optCode_storeFault]
  rfl

/-! ### READ-LINEBUS and READ-UNITS -/

theorem entrySourceField_code (e : EntrySource) : entrySourceField e = e.code := by rcases e with _ | _ | _ | _ <;> rfl

theorem commandField_code (k : UnitCommandKind) : commandField k = k.code := by cases k <;> rfl

theorem busPriority_eq (e : EntrySource) (k : UnitCommandKind) :
    (if e = .hunt then 1 else if k = .query then 5 else 3) = busPriority e k := by
  rcases e with _ | p <;> cases k <;> rfl

theorem fieldBytes_busEntry (now : Ms) (e : BusEntry) :
    fieldBytes
        [(1, entrySourceField e.source), (1, e.address), (1, commandField e.kind),
          (1, if e.source = .hunt then 1 else if e.kind = .query then 5 else 3), (1, e.attempts),
          (1, yesNo e.clampWait), (4, (now - e.queuedAt).toNat), (1, yesNo (e.phase == .inFlight))] =
      e.bytes now := by
  simp only [fieldBytes_one, fieldBytes_four, fieldBytes_nil, entrySourceField_code, commandField_code, busPriority_eq,
    u8_yesNo, List.append_nil, BusEntry.bytes, List.append_assoc]
  rfl

theorem masterEntries_eq (q : List BusEntry) : masterEntries q = q.countP fun e => e.source != .hunt := by
  refine List.countP_congr fun e _ => ?_
  unfold BusEntry.isHunt
  cases e.source <;> simp

theorem State.fieldBytes_linebusFields (s : State) : fieldBytes s.linebusFields = s.linebusBytes := by
  have entries : BusEntry.bytes s.ms = fun e => _ := funext fun e => (fieldBytes_busEntry s.ms e).symm
  delta State.linebusFields State.linebusBytes
  rw [entries]
  simp only [fieldBytes_append, List.cons_append, fieldBytes_flatMap, fieldBytes_one, fieldBytes_four, fieldBytes_nil,
    fieldBytes_map_one _ fun x => x, u8_yesNo, List.append_assoc, List.append_nil, listBytes, masterEntries_eq]
  rfl

theorem completionField_code (c : CompletionCode) : completionField c = c.code := by cases c <;> rfl

theorem unitPlace_bytes (x : Option UnitPlace) :
    bit x.isSome ++ padded x 2 placeBytes = fieldBytes
      (match x with | none => zeroFields [1, 1, 1] | some x => [(1, 1), (1, feederField x.feeder), (1, x.index)]) := by
  cases x with
  | none => rfl
  | some x =>
    simp only [fieldBytes_one, fieldBytes_nil, u8_feederField]
    rfl

theorem lastContact_bytes (x : Option Stamp) :
    padded x 7 stampBytes = fieldBytes (match x with | none => zeroFields [2, 4, 1] | some x => stampFields x) := by
  cases x with
  | none => rfl
  | some x => exact (fieldBytes_stampFields x).symm

theorem lastCommand_bytes (x : Option LastCommand) :
    padded x 9 (fun c => u8 c.source.code ++ u8 c.kind.code ++ u8 c.code.code ++ timeBytes c.time) = fieldBytes
      (match x with
        | none => zeroFields [1, 1, 1, 2, 4]
        | some c =>
          [(1, entrySourceField c.source), (1, commandField c.kind), (1, completionField c.code)] ++ timeFields c.time) := by
  cases x with
  | none => rfl
  | some c =>
    simp only [padded, fieldBytes_append, fieldBytes_timeFields, fieldBytes_one, fieldBytes_nil, entrySourceField_code,
      commandField_code, completionField_code, List.append_assoc, List.append_nil]

theorem UnitRecord.health_code (r : UnitRecord) :
    r.health.code = if r.silent then 1 else if r.localLock then 2 else 3 := by
  unfold UnitRecord.health
  split
  · rfl
  · split <;> rfl

theorem fieldBytes_unitFields (r : UnitRecord) : fieldBytes (unitFields r) = r.bytes := by
  rw [UnitRecord.bytes, unitPlace_bytes, lastContact_bytes, lastCommand_bytes, UnitRecord.health_code]
  simp only [unitFields, fieldBytes_append, fieldBytes_one, fieldBytes_nil, u8_yesNo, List.append_assoc, List.append_nil]
  rfl

/-! ### READ-HUNT and READ-HUNT-TRACE -/

theorem failField_code (c : FailCode) : failField c = c.code := by
  rcases c with c | _ | _
  · exact completionField_code c
  · rfl
  · rfl

theorem endField_code (d : EndDetail) : endField d = d.code := by
  rcases d with _ | c | o | p | i | b
  · rfl
  · exact failField_code c
  · cases o <;> rfl
  · cases p <;> rfl
  · cases i <;> rfl
  · rfl

theorem stoppingNotes_code (n : StoppingNotes) :
    yesNo n.trip + 2 * yesNo n.unexpectedMove + 4 * yesNo n.unitReport + 8 * yesNo n.measurementLoss +
      16 * yesNo n.breakerFail = n.code := by
  obtain ⟨a, b, c, d, e⟩ := n
  cases a <;> cases b <;> cases c <;> cases d <;> cases e <;> rfl

theorem fieldBytes_resultFields (r : HuntResult) : fieldBytes (resultFields r) = r.bytes := by
  delta resultFields HuntResult.bytes
  simp only [fieldBytes_append, fieldBytes_flatMap, fieldBytes_timeFields, fieldBytes_one, fieldBytes_nil, u8_feederField,
    endField_code, stoppingNotes_code, listBytes, List.append_assoc, List.append_nil]
  rfl

theorem traceOutcome_bytes (o : BlockOutcome) :
    o.bytes = fieldBytes
      (match o with
        | .done => [(1, 1), (1, 0)]
        | .unitFail c => [(1, 2), (1, failField c)]
        | .cut => [(1, 3), (1, 0)]
        | .detour => [(1, 4), (1, 0)]) := by
  cases o with
  | unitFail c =>
    simp only [fieldBytes_one, fieldBytes_nil, failField_code]
    rfl
  | _ => rfl

theorem fieldBytes_traceFields (r : TraceRecord) : fieldBytes (traceFields r) = r.bytes := by
  rw [TraceRecord.bytes, traceOutcome_bytes]
  simp only [traceFields, fieldBytes_append, fieldBytes_timeFields, fieldBytes_one, fieldBytes_two, fieldBytes_nil, u8_yesNo,
    List.append_assoc, List.append_nil] <;> rfl

theorem optCode_feederField (f : Option Feeder) :
    optCode f feederNumber = u8 (match f with | none => 0 | some f => feederField f) := by
  rcases f with _ | f
  · rfl
  · cases f <;> rfl

theorem huntPhase_bytes (running : Prop) [Decidable running] (x : HuntPhase) :
    (if running then u8 x.code else u8 0) =
      u8 (if running then (match x with | .acting => 1 | .observing => 2 | .securing => 3) else 0) := by
  split
  · cases x <;> rfl
  · rfl

theorem huntPause_bytes (s : State) (paused : Prop) [Decidable paused] (x : PauseReason) (t : Option Timer) :
    (if paused then u8 x.code ++ u16 (ceilDiv (s.timeLeft t) 1000) else u8 0 ++ u16 0) =
      u8 (if paused then (match x with | .fire => 1 | .hold => 2 | .step => 3) else 0) ++
        u16 (if paused then
            (match t with | none => 0 | some t => (t.length - (s.ms - t.start).toNat + 999) / 1000)
          else 0) := by
  have left : ceilDiv (s.timeLeft t) 1000 =
      match t with | none => 0 | some t => (t.length - (s.ms - t.start).toNat + 999) / 1000 := by
    cases t with
    | none => simp [State.timeLeft, ceilDiv]
    | some t => rfl
  rw [left]
  split
  · cases x <;> rfl
  · rfl

theorem huntReturn_bytes (x : Option ReturnSlot) :
    padded x 2 (fun x => u8 x.block ++ u8 x.kind.code) = fieldBytes
      (match x with
        | none => zeroFields [1, 1]
        | some x => [(1, x.block), (1, match x.kind with | .detour => 1 | .insertion => 2)]) := by
  cases x with
  | none => rfl
  | some x =>
    simp only [fieldBytes_one, fieldBytes_nil]
    rfl

theorem huntWindow_bytes (n : Nat) (x : Option Window) :
    u8 (if x.isSome then n + 1 else 0) ++ windowBytes x = fieldBytes
      (match x with | none => zeroFields [1, 1, 2, 2, 2, 2] | some w => (1, n + 1) :: windowFields (some w)) := by
  cases x with
  | none => rfl
  | some w =>
    simp only [fieldBytes_one, fieldBytes_windowFields]
    rfl

theorem huntResult_bytes (x : Option HuntResult) (l : List Byte) :
    bit x.isSome ++ (optBytes x HuntResult.bytes ++ l) = fieldBytes
      (match x with | none => [(1, 0)] | some r => (1, 1) :: resultFields r) ++ l := by
  cases x with
  | none => rfl
  | some r =>
    simp only [fieldBytes_one, fieldBytes_resultFields, List.append_assoc]
    rfl

theorem huntInsertion_value (x : Option Nat) : x.getD 0 = match x with | none => 0 | some b => b := by cases x <;> rfl

theorem State.fieldBytes_huntFields (s : State) : fieldBytes s.huntFields = s.huntBytes := by
  delta State.huntFields State.huntBytes
  simp only [State.huntWindowBytes, optCode_feederField, huntPhase_bytes, huntPause_bytes, huntReturn_bytes, huntWindow_bytes,
    huntInsertion_value]
  simp only [fieldBytes_append, fieldBytes_one, fieldBytes_two, fieldBytes_nil, u8_yesNo, listBytes,
    fieldBytes_map_one _ fun x => x, List.append_assoc, List.append_nil, huntResult_bytes] <;> rfl

end Sys2Proof.Machine
end

section
/-! READ-class requests (R29, R31, R47, R64, R86, R107, R118, R128, R148, R171, R183, R192): what they answer, and that they
change nothing but the response of their port. -/

namespace Sys2Proof.Machine

variable {s t : State} {p : Port} {c : Bool} {code : Byte} {fr : Frame} {i : Instr} {owner : State → State}

/-! ### What a READ-class request leaves (R186, R192) -/

/-- From s to t nothing moves but what a port clocks out and answers: its counter and its mask stand, and so do its flags
unless the request clears them. -/
structure State.Answers (s : State) (p : Port) (clears : Bool) (t : State) : Prop where
  parts : s.changesOnly [.ports] t
  others : ∀ q, q ≠ p → t.port q = s.port q
  counter : (t.port p).counter = (s.port p).counter
  flags : clears = false → (t.port p).flags = (s.port p).flags
  mask : (t.port p).mask = (s.port p).mask

theorem State.Answers.refl (s : State) (p : Port) (c : Bool) : s.Answers p c s :=
  ⟨s.changesOnly_refl _, fun _ _ => rfl, rfl, fun _ => rfl, rfl⟩

theorem State.Answers.setPort (h : s.Answers p c t) {q : PortState} (counter : q.counter = (t.port p).counter)
    (flags : c = false → q.flags = (t.port p).flags) (mask : q.mask = (t.port p).mask) : s.Answers p c (t.setPort p q) where
  parts := State.changesOnly_trans h.parts (((State.Within.refl t _ none).setPort (by decide) p q).parts)
  others r other := (State.setPort_port_ne t other q).trans (h.others r other)
  counter := by rw [State.setPort_port_self, counter, h.counter]
  flags keeps := by rw [State.setPort_port_self, flags keeps, h.flags keeps]
  mask := by rw [State.setPort_port_self, mask, h.mask]

/-- A port moves in what it clocks out, its slot or its busy note. -/
theorem State.Answers.setSlot (h : s.Answers p c t) (x : PortSlot) (b : Option Byte) (l : List Byte) :
    s.Answers p c (t.setPort p { t.port p with slot := x, busyNote := b, clockedOut := l }) :=
  h.setPort rfl (fun _ => rfl) rfl

theorem PortState.answer_keeps (q : PortState) (st : Status) (d : List Byte) :
    (q.answer st d).counter = q.counter ∧ (q.answer st d).flags = q.flags ∧ (q.answer st d).mask = q.mask := by
  unfold PortState.answer
  split
  · exact ⟨rfl, rfl, rfl⟩
  · split <;> exact ⟨rfl, rfl, rfl⟩

theorem State.Answers.respond (h : s.Answers p c t) (st : Status) (d : List Byte) : s.Answers p c (t.respond p st d) := by
  obtain ⟨counter, flags, mask⟩ := (t.port p).answer_keeps st d
  exact h.setPort counter (fun _ => flags) mask

theorem State.Answers.reply (h : s.Answers p c t) (st : Status) : s.Answers p c (t.reply p st) := h.respond st []

theorem State.Answers.ite {u : State} {b : Prop} [Decidable b] (h : s.Answers p c t) (k : s.Answers p c u) :
    s.Answers p c (if b then t else u) := by
  split
  · exact h
  · exact k

theorem State.Answers.takeFrame {check : State → State} (h : s.Answers p c t) (n : Nat) (code : Byte) (m : Bool)
    (checked : ∀ u, s.Answers p c u → s.Answers p c (check u)) : s.Answers p c (t.takeFrame p n code m check) := by
  have out : s.Answers p c (t.clockNotReady p n) := h.setSlot _ _ _
  have noted : s.Answers p c ((t.clockNotReady p n).noteBusy p code m) := .ite (out.setSlot _ _ _) out
  exact .ite h (.ite (out.setSlot _ _ _) (.ite noted (checked _ (out.setSlot _ _ _))))

theorem State.Answers.readRequest {granted : Bool} (h : s.Answers p c t)
    (owned : ∀ u, s.Answers p c u → s.Answers p c (owner u)) : s.Answers p c (t.readRequest p code granted fr owner) :=
  h.takeFrame _ _ _ fun _ k => .ite (State.Answers.reply (k.setSlot _ _ _) _) (.ite (k.reply _) (owned _ k))

/-! ### Rows -/

/-- A row that answers with what it reads of the feeder its payload names. -/
theorem State.Answers.readFeeder (h : s.Answers p c t) (pl : List Byte) (bytes : Feeder → List Byte) :
    s.Answers p c (match oneFeeder pl with | some f => t.answerData p (bytes f) | none => t.badArgument p) := by
  cases oneFeeder pl with
  | some f => exact h.respond _ _
  | none => exact h.reply _

/-- A row that answers with what it reads, or refuses its payload. -/
theorem State.Answers.readAll {b : Prop} [Decidable b] (h : s.Answers p c t) (bytes : List Byte) :
    s.Answers p c (if b then t.answerData p bytes else t.badArgument p) := .ite (h.respond _ _) (h.reply _)

theorem State.Answers.readGroup (h : s.Answers p c t) (pl : List Byte) : s.Answers p c (ownerReadGroup p pl t) := by
  unfold ownerReadGroup
  refine .ite ?_ (h.reply _)
  split
  · exact h.respond _ _
  · exact h.reply _

/-- READ-ATTENTION clears the flags (R192). -/
theorem State.Answers.readAttention (h : s.Answers p true t) (pl : List Byte) :
    s.Answers p true (ownerReadAttention p pl t) := by
  have cleared : s.Answers p true (t.setPort p { t.port p with flags := 0 }) := h.setPort rfl (by simp) rfl
  exact .ite (cleared.respond _ _) (h.reply _)

/-- A READ-class row by its code. -/
theorem State.frameByCode_answers (s : State) (p : Port) (fr : Frame) (h : code ∈ readCodes) :
    s.Answers p (code == 0x2A) (s.frameByCode p code fr) := by
  have same := State.Answers.refl s p
  simp only [readCodes, List.mem_cons, List.not_mem_nil, or_false] at h
  rcases h with rfl | rfl | rfl | rfl | rfl | rfl | rfl | rfl | rfl | rfl | rfl | rfl | rfl | rfl | rfl | rfl
  · exact (same _).readRequest fun _ k => k.readFeeder _ _
  · exact (same _).readRequest fun _ k => k.readAll _
  · exact (same _).readRequest fun _ k => k.readFeeder _ _
  · exact (same _).readRequest fun _ k => k.readFeeder _ _
  · exact (same _).readRequest fun _ k => k.readFeeder _ _
  · exact (same _).readRequest fun _ k => k.readAll _
  · exact (same _).readRequest fun _ k => k.readAll _
  · exact (same _).readRequest fun _ k => k.readGroup _
  · exact (same _).readRequest fun _ k => k.readAll _
  · exact (same _).readRequest fun _ k => k.readAll _
  · exact (same _).readRequest fun _ k => k.readAll _
  · exact (same _).readRequest fun _ k => k.readAll _
  · exact (same _).readRequest fun _ k => k.readAll _
  · exact (same _).readRequest fun _ k => k.readAll _
  · exact (same _).readRequest fun _ k => k.readAttention _
  · exact (same _).readRequest fun _ k => k.readAll _

/-- A READ-class request moves nothing but the response of its port. -/
theorem exec_read_answers (frame : requestFrameOf i = some (p, fr)) (row : requestCode i = some code)
    (reads : code ∈ readCodes) (h : exec i s = .next t) : s.Answers p (code == 0x2A) t := by
  rw [exec_request frame row] at h
  obtain rfl | rfl := event_cases h
  · exact s.frameByCode_answers p fr reads
  · exact .refl _ p _

/-! ### What the rows answer -/

/-- A READ-class request whose owner answers with some bytes. -/
theorem exec_read (taken : s.readTaken p code fr) {st : Status} {d : List Byte}
    (row : exec i s = event s fun s => s.readRequest p code true fr owner)
    (owned : owner (s.readInFlight p code fr) = (s.readInFlight p code fr).respond p st d) :
    exec i s = .next (s.readAnswered p code fr st d) := by
  obtain ⟨⟨powered, _⟩, _⟩ := id taken
  rw [row, event_powered _ _ powered, State.readRequest_taken taken, owned, State.readInFlight_respond taken.1]

/-- A READ-class request whose owner answers with some fields. -/
theorem exec_read_fields (taken : s.readTaken p code fr) {bytes : List Byte} {l : Fields} (same : fieldBytes l = bytes)
    (row : exec i s = event s fun s => s.readRequest p code true fr owner)
    (owned : owner (s.readInFlight p code fr) = (s.readInFlight p code fr).answerData p bytes) :
    exec i s = .next (s.readAnswered p code fr .accepted (fieldBytes l)) := by
  rw [same]
  exact exec_read taken row owned

theorem oneFeeder_named {pl : List Byte} {f : Feeder} (length : pl.length = 1) (names : feederOf (byteAt pl 0) = some f) :
    oneFeeder pl = some f := (if_pos length).trans names

theorem oneFeeder_none {pl : List Byte} (other : byteAt pl 0 < 1 ∨ 4 < byteAt pl 0) : oneFeeder pl = none := by
  unfold oneFeeder
  rw [(feederOf_eq_none_iff _).2 other]
  split <;> rfl

/-- READ-ATTENTION answers with the flags and the mask, and clears the flags (R192). -/
theorem ownerReadAttention_taken (taken : s.readTaken p 0x2A fr) (empty : fr.payload = []) :
    ownerReadAttention p fr.payload (s.readInFlight p 0x2A fr) =
      (s.setPort p { s.port p with flags := 0 }).readAnswered p 0x2A fr .accepted [(s.port p).flags, (s.port p).mask] := by
  obtain ⟨⟨_, _, orphan, _⟩, _⟩ := taken
  simp [ownerReadAttention, empty, State.answerData, State.respond, State.readInFlight, State.readAnswered,
    PortState.answer, orphan]

/-- The fields of READ-PORT of a port without an orphan request (R192, R193). -/
theorem readPort_fields (q : PortState) (k : KeyPosition) (free : q.orphan = false) :
    fieldBytes
        [(2, q.counter.toNat), (1, q.flags.toNat), (1, q.mask.toNat),
          (1, match k with | .localPos => 1 | .remotePos => 2), (1, 0)] =
      u16 q.counter.toNat ++ [q.flags, q.mask] ++ u8 (keyCode k) ++ bit q.orphan := by
  have byte : ∀ b : BitVec 8, u8 b.toNat = [b] := fun b => by simp [u8]
  rw [free]
  simp only [fieldBytes_one, fieldBytes_two, fieldBytes_nil, byte, List.append_assoc, List.append_nil]
  rfl

theorem indicesFrom_eq_range' (first n : Nat) : indicesFrom first n = List.range' first n := by
  induction n generalizing first with
  | zero => rfl
  | succ n ih => rw [indicesFrom, ih, List.range'_succ]

/-- The fields of READ-HUNT-BLOCKS (R171). -/
theorem readHuntBlocks_fields (s : State) (a n : Nat) :
    fieldBytes ((List.range n).flatMap fun i =>
        blockFields (s.huntBlock (a + i)) ++ [(1, if a + i ∈ s.hunt.lockSet then 1 else 0)]) =
      (indicesFrom a n).flatMap fun i => huntBlockBytes (s.huntBlock i) ++ bit (s.hunt.lockSet.contains i) := by
  simp only [indicesFrom_eq_range', List.range'_eq_map_range, List.flatMap_map, fieldBytes_flatMap, fieldBytes_append,
    fieldBytes_blockFields, fieldBytes_one, fieldBytes_nil, List.append_nil, bit, List.contains_iff_mem]

/-- The fields of READ-HUNT-TRACE (R171). -/
theorem readHuntTrace_fields (l : List TraceRecord) (n : Nat) :
    fieldBytes ((1, l.length) :: l.flatMap traceFields ++ [(1, n)]) = listBytes l TraceRecord.bytes ++ u8 n := by
  simp only [List.cons_append, fieldBytes_append, fieldBytes_flatMap, fieldBytes_traceFields, fieldBytes_one, fieldBytes_nil,
    listBytes, List.append_assoc, List.append_nil]

/-- The fields of READ-GROUP (R128). -/
theorem readGroup_fields (g : SettingGroup) (k l : Letter) :
    fieldBytes (groupFields g ++ [(1, if k = l then 1 else 0)]) = groupBytes g ++ bit (k == l) := by
  simp only [fieldBytes_append, fieldBytes_groupFields, fieldBytes_one, fieldBytes_nil, List.append_nil, bit, beq_iff_eq]

/-- Settles O58: each row by its owner on the port with the request in flight, and its bytes by the equation of its layout. -/
theorem readsReturnTheState : Obligations.ReadsReturnTheState := by
  refine ⟨fun i p fr code s t frame row reads ran => ?_, fun p f fr s => ⟨?curve, ?feeder, ?plain, ?group, ?units, ?trace,
    ?blocks⟩⟩
  · obtain ⟨parts, others, counter, flags, mask⟩ := exec_read_answers frame row reads ran
    exact ⟨parts, others, counter, fun other => flags (beq_false_of_ne other), mask⟩
  case curve =>
    intro length low high taken
    exact exec_read_fields taken (fieldBytes_curveFields _) rfl (if_pos ⟨length, low, high⟩)
  case feeder =>
    refine fun length => ⟨fun names => ?_, fun other taken => ?_⟩
    · have named := oneFeeder_named length names
      refine ⟨fun taken => exec_read_fields taken (s.fieldBytes_protectionFields f) rfl ?_,
        fun taken => exec_read_fields taken (s.fieldBytes_breakerFields f) rfl ?_,
        fun taken => exec_read_fields taken (s.fieldBytes_sequencerFields f) rfl ?_,
        fun taken => exec_read_fields taken (s.fieldBytes_holdsFields f) rfl ?_⟩
      · rw [ownerReadProtection, named]
        rfl
      · rw [ownerReadBreaker, named]
        rfl
      · rw [ownerReadSequencer, named]
        rfl
      · rw [ownerReadHolds, named]
        rfl
    · refine exec_read taken rfl ?_
      rw [ownerReadProtection, oneFeeder_none other]
      rfl
  case plain =>
    refine fun empty => ⟨fun taken => exec_read_fields taken s.fieldBytes_fireTableFields rfl (if_pos empty),
      fun taken => exec_read_fields taken s.fieldBytes_fireFields rfl (if_pos empty),
      fun taken => exec_read_fields taken s.fieldBytes_storeFields rfl (if_pos empty),
      fun taken => exec_read_fields taken s.fieldBytes_linebusFields rfl (if_pos empty),
      fun taken => exec_read_fields taken s.fieldBytes_huntFields rfl (if_pos empty), fun taken => ?_, fun taken => ?_⟩
    · obtain ⟨⟨powered, _⟩, _⟩ := id taken
      change event s (reqReadAttention p fr) = _
      rw [event_powered _ _ powered, reqReadAttention, State.readRequest_taken taken, ownerReadAttention_taken taken empty]
    · refine exec_read_fields taken (readPort_fields _ _ taken.1.2.2.1) rfl ((if_pos empty).trans ?_)
      simp [State.readInFlight]
  case group =>
    intro l length names letter taken
    refine exec_read_fields taken (readGroup_fields _ _ _) rfl ((if_pos length).trans ?_)
    rw [names, letter]
    rfl
  case units =>
    rintro a n length rfl rfl low high within taken
    refine exec_read_fields taken ?_ rfl (if_pos ⟨length, low, high, within⟩)
    simp only [fieldBytes_flatMap, fieldBytes_unitFields]
    rfl
  case trace =>
    rintro n l length rfl low high taken rfl
    exact exec_read_fields taken (readHuntTrace_fields _ _) rfl (if_pos ⟨length, low, high⟩)
  case blocks =>
    rintro a n length rfl rfl low some few within taken
    exact exec_read_fields taken (readHuntBlocks_fields s _ _) rfl (if_pos ⟨length, low, some, few, within⟩)

end Sys2Proof.Machine
end

section
/-! SUPPORT. A protection trip at the breaker interface and at the sequencer (R25, R26, R53 to R55, R69 to R71, R79). -/

namespace Sys2Proof.Machine

variable {s t : State} {f : Feeder} {c : Cause}

/-! ### The hunt engine where a confirmation places holds (R71, R101) -/

@[simp] theorem State.setPendingMark_hunt (s : State) (o : RetentionOwner) (m : Bool) :
    (s.setPendingMark o m).hunt = s.hunt := by
  cases o <;> rfl

@[simp] theorem State.beginHead_hunt (s : State) : s.beginHead.hunt = s.hunt := by
  unfold State.beginHead
  split
  · rfl
  split
  · rfl
  split
  · rfl
  · simp

@[simp] theorem State.requestRetention_hunt (s : State) (o : RetentionOwner) : (s.requestRetention o).hunt = s.hunt := by
  unfold State.requestRetention
  split
  · rfl
  split
  · rfl
  · simp [State.storeEnqueue]

@[simp] theorem State.lockout_hunt (s : State) (f : Feeder) (r : LockoutReason) (x : Option CloseRefusal) :
    (s.lockout f r x).hunt = s.hunt := by simp [State.lockout]

@[simp] theorem State.sequencerPlacement_hunt (s : State) (f : Feeder) : (s.sequencerPlacement f).hunt = s.hunt := by
  unfold State.sequencerPlacement
  split
  · simp
  · rfl

theorem State.placed_hunt (s : State) (f : Feeder) {h : Hold} (other : h.owner ≠ .hunt) (r : Bool) (p : Option Port)
    (a : Option Feeder) : (s.placed f h r p a).hunt = s.hunt := by
  unfold State.placed
  dsimp only
  rw [if_neg other]
  split <;> simp

@[simp] theorem State.placePatrolOn_hunt (s : State) (a f : Feeder) : (s.placePatrolOn a f).hunt = s.hunt := by
  unfold State.placePatrolOn State.placeAutomatic
  split
  · rfl
  · exact State.placed_hunt _ _ (by simp [State.automaticHold]) _ _ _

theorem State.foldl_hunt {α : Type} {op : State → α → State} (step : ∀ s x, (op s x).hunt = s.hunt) (s : State)
    (l : List α) : (l.foldl op s).hunt = s.hunt := by
  induction l generalizing s with
  | nil => rfl
  | cons x rest ih => exact (ih _).trans (step s x)

@[simp] theorem State.patrolIfDue_hunt (s : State) (f : Feeder) : (s.patrolIfDue f).hunt = s.hunt := by
  unfold State.patrolIfDue
  split
  · exact (State.foldl_hunt (fun s g => s.placePatrolOn_hunt f g) _ _).trans (s.placePatrolOn_hunt f f)
  · rfl

/-- The decision of R71 goes to DEAD or to LOCKOUT. -/
theorem State.decideReclose_state (s : State) (f : Feeder) :
    ((s.decideReclose f).sequencer f).state = .dead ∨ ((s.decideReclose f).sequencer f).state = .lockout := by
  have locked : ∀ (t : State) (r : LockoutReason), ((t.lockout f r none).sequencer f).state = .lockout := fun t r => by
    simp [State.lockout]
  unfold State.decideReclose
  dsimp only
  split
  · exact .inr (locked _ _)
  split
  · exact .inr (locked _ _)
  split
  · exact .inr (locked _ _)
  split
  · exact .inr (locked _ _)
  split
  · exact .inr (locked _ _)
  · exact .inl (by simp)

theorem State.decideReclose_hunt (s : State) (f : Feeder) : (s.decideReclose f).hunt = s.hunt :=
  ((State.Within.refl s [.sequencers, .log, .ports] none).decideReclose (by decide) (by decide) (by decide) (by simp)).parts
    .hunt (by decide)

@[simp] theorem State.confirmTrip_hunt (s : State) (f : Feeder) : (s.confirmTrip f).hunt = s.hunt := by
  unfold State.confirmTrip
  dsimp only
  split
  · simp [State.moveSequencer]
  · rw [State.decideReclose_hunt, State.patrolIfDue_hunt]

/-- A confirmation leaves TRIPPING for OPEN, DEAD or LOCKOUT (R71). -/
theorem State.confirmTrip_state (s : State) (f : Feeder) :
    ((s.confirmTrip f).sequencer f).state = .open ∨ ((s.confirmTrip f).sequencer f).state = .dead ∨
      ((s.confirmTrip f).sequencer f).state = .lockout := by
  unfold State.confirmTrip
  dsimp only
  split
  · exact .inl (by simp [State.moveSequencer, Sequencer.enterOpen])
  · exact .inr (State.decideReclose_state _ _)

@[simp] theorem State.setSequencer_setSequencer (s : State) (f : Feeder) (x y : Sequencer) :
    (s.setSequencer f x).setSequencer f y = s.setSequencer f y := by simp [State.setSequencer]

/-! ### The request (R53, R55) -/

/-- The protection unit's trip request (R25). -/
def protectionRequest (c : Cause) : TripRequest := { purpose := .protection, requester := .protection, cause := some c }

theorem State.tripRequest_started (r : TripRequest) (slot : (s.breaker f).slot = .empty)
    (closed : (s.breaker f).stableClosed = true) :
    s.tripRequest f r = (s.setBreaker f { s.breaker f with slot := .trip (s.newTrip f r none) }, .started) := by
  simp [State.tripRequest, slot, closed]

theorem State.tripRequest_open (r : TripRequest) (slot : (s.breaker f).slot = .empty)
    (position : (s.breaker f).stableClosed = false) : s.tripRequest f r = (s, .alreadyOpen) := by
  simp [State.tripRequest, slot, position]

theorem State.tripRequest_cut {op : CloseOp} (r : TripRequest) (slot : (s.breaker f).slot = .close op) :
    s.tripRequest f r =
      (s.setBreaker f
        { s.breaker f with
          slot := .trip (s.newTrip f r (some { purpose := op.purpose, requester := op.requester }))
          lastClose := some { outcome := .cut, time := s.time } }, .cut op) := by
  simp [State.tripRequest, slot]

theorem State.tripRequest_joined {op : TripOp} (r : TripRequest) (slot : (s.breaker f).slot = .trip op)
    (phase : op.phase ≠ .failPulse) :
    s.tripRequest f r = (s.setBreaker f { s.breaker f with slot := .trip (op.join r) }, .joined) := by
  simp [State.tripRequest, slot, phase]

/-! ### The report to the sequencer (R69) -/

theorem Sequencer.takesTrip_iff (q : Sequencer) :
    q.takesTrip = true ↔
      q.state = .inService ∨ q.state = .reclaim ∨ (q.state = .reclosing ∧ q.phase = some .granted) := by
  simp [Sequencer.takesTrip, Sequencer.reclosingIn, or_assoc]

theorem State.protectionReport_takes (c : Cause) (h : (s.sequencer f).takesTrip = true) :
    s.protectionReport f c = s.setSequencer f ((s.sequencer f).enterTripping (some c)) := if_pos h

theorem State.protectionReport_recorded (c : Cause) (state : (s.sequencer f).state = .tripping)
    (cause : (s.sequencer f).cause = none) :
    s.protectionReport f c = s.setSequencer f { s.sequencer f with cause := some c } := by
  simp [State.protectionReport, Sequencer.takesTrip, Sequencer.reclosingIn, state, cause]

theorem State.protectionReport_same (c : Cause) (other : (s.sequencer f).takesTrip = false)
    (state : (s.sequencer f).state ≠ .tripping) : s.protectionReport f c = s := by
  simp [State.protectionReport, other, state]

/-- A report to a sequencer whose trip is confirmed already changes nothing (R70; log entry 12). -/
theorem State.protectionReport_confirmed (s : State) (f : Feeder) (c : Cause) :
    (s.confirmTrip f).protectionReport f c = s.confirmTrip f := by
  refine State.protectionReport_same c (Bool.eq_false_iff.2 fun takes => ?_) ?_
  · rw [Sequencer.takesTrip_iff] at takes
    obtain state | state | state := s.confirmTrip_state f <;> simp [state] at takes
  · obtain state | state | state := s.confirmTrip_state f <;> simp [state]

theorem Sequencer.enterTripping_inService {q : Sequencer} (h : q.state = .inService) (c : Option Cause) :
    q.enterTripping c =
      { q with state := .tripping, shots := 0, cause := c, phase := none, openTaken := false, timer := none } := by
  simp [Sequencer.enterTripping, h]

/-- Outside IN_SERVICE the shots are kept (R69). -/
theorem Sequencer.enterTripping_kept {q : Sequencer} (h : q.state ≠ .inService) (c : Option Cause) :
    q.enterTripping c =
      { q with state := .tripping, cause := c, phase := none, openTaken := false, timer := none } := by
  simp [Sequencer.enterTripping, h]

/-! ### The trip (R26, R53; log entries 12, 52) -/

theorem State.protectionTrip_started (h : s.tripRequest f (protectionRequest c) = (t, .started)) :
    s.protectionTrip f c = (t.protectionReport f c).huntTripReport f := by
  rw [protectionRequest] at h
  simp only [State.protectionTrip, h]

theorem State.protectionTrip_joined (h : s.tripRequest f (protectionRequest c) = (t, .joined)) :
    s.protectionTrip f c = (t.protectionReport f c).huntTripReport f := by
  rw [protectionRequest] at h
  simp only [State.protectionTrip, h]

theorem State.protectionTrip_failed (h : s.tripRequest f (protectionRequest c) = (t, .failed)) :
    s.protectionTrip f c = (((t.huntBreakerFail f).failSequencer f).protectionReport f c).huntTripReport f := by
  rw [protectionRequest] at h
  simp only [State.protectionTrip, h]

theorem State.protectionTrip_cut {op : CloseOp} (h : s.tripRequest f (protectionRequest c) = (t, .cut op)) :
    s.protectionTrip f c = ((t.closeCut f op).protectionReport f c).huntTripReport f := by
  rw [protectionRequest] at h
  simp only [State.protectionTrip, h]

theorem State.protectionTrip_open (h : s.tripRequest f (protectionRequest c) = (t, .alreadyOpen)) :
    s.protectionTrip f c = ((t.seqAlreadyOpen f true (some c)).protectionReport f c).huntTripReport f := by
  rw [protectionRequest] at h
  simp only [State.protectionTrip, h]

/-- A state with the engine of one without a hunt on the feeder makes nothing of a trip report. -/
theorem State.huntTripReport_same (off : s.huntOn f = false) (same : t.hunt = s.hunt) : t.huntTripReport f = t := by
  refine State.huntTripReport_off ?_
  rw [State.huntOn, same]
  exact off

/-! ### A trip without a hunt on the feeder -/

/-- A trip that starts its pulse in IN_SERVICE or RECLAIM (R53, R69). -/
theorem State.protectionTrip_pulse (c : Cause) (off : s.huntOn f = false) (slot : (s.breaker f).slot = .empty)
    (closed : (s.breaker f).stableClosed = true) (takes : (s.sequencer f).takesTrip = true) :
    s.protectionTrip f c =
      (s.setBreaker f { s.breaker f with slot := .trip (s.newTrip f (protectionRequest c) none) }).setSequencer f
        ((s.sequencer f).enterTripping (some c)) := by
  rw [State.protectionTrip_started (State.tripRequest_started _ slot closed),
    State.protectionReport_takes (s := s.setBreaker f _) c takes]
  exact State.huntTripReport_same off rfl

/-- A trip that cuts the AUTO close (R54). -/
theorem State.protectionTrip_cutAuto (c : Cause) (off : s.huntOn f = false) {op : CloseOp}
    (slot : (s.breaker f).slot = .close op) (purpose : op.purpose = .auto) (requester : op.requester = .sequencer)
    (state : (s.sequencer f).state = .reclosing) (phase : (s.sequencer f).phase = some .granted) :
    s.protectionTrip f c =
      (s.setBreaker f
        { s.breaker f with
          slot := .trip (s.newTrip f (protectionRequest c) (some { purpose := .auto, requester := .sequencer }))
          lastClose := some { outcome := .cut, time := s.time } }).setSequencer f
        { s.sequencer f with
          state := .tripping, cause := some c, phase := none, openTaken := false, timer := none } := by
  rw [State.protectionTrip_cut (State.tripRequest_cut _ slot), purpose, requester]
  have cut : ∀ t : State, (t.sequencer f).state = .reclosing → (t.sequencer f).phase = some .granted →
      t.closeCut f op = t.setSequencer f ((t.sequencer f).enterTripping none) := fun t state phase => by
    simp [State.closeCut, requester, State.tellCut, purpose, State.seqCut, Sequencer.reclosingIn, state, phase]
  rw [cut (s.setBreaker f _) state phase, State.protectionReport_recorded]
  · refine (State.huntTripReport_same off ?_).trans ?_
    · rfl
    · simp [Sequencer.enterTripping_kept, state]
  · simp [Sequencer.enterTripping]
  · simp [Sequencer.enterTripping]

/-- A trip that joins one in flight (R55). -/
theorem State.protectionTrip_join (c : Cause) (off : s.huntOn f = false) {op : TripOp} (slot : (s.breaker f).slot = .trip op)
    (phase : op.phase ≠ .failPulse) (takes : (s.sequencer f).takesTrip = true) :
    s.protectionTrip f c =
      (s.setBreaker f { s.breaker f with slot := .trip (op.join (protectionRequest c)) }).setSequencer f
        ((s.sequencer f).enterTripping (some c)) := by
  rw [State.protectionTrip_joined (State.tripRequest_joined _ slot phase),
    State.protectionReport_takes (s := s.setBreaker f _) c takes]
  exact State.huntTripReport_same off rfl

/-- A trip that joins one in FAIL_PULSE is answered BREAKER_FAIL at once (R55, R79; log entries 12, 28, 52). -/
theorem State.protectionTrip_failPulse (c : Cause) (off : s.huntOn f = false) {op : TripOp}
    (slot : (s.breaker f).slot = .trip op) (phase : op.phase = .failPulse) (state : (s.sequencer f).state ≠ .hunt)
    (noneHeld : (s.sequencer f).pendingOpen = []) :
    s.protectionTrip f c =
      (s.setBreaker f
        { s.breaker f with
          slot := .trip (op.join (protectionRequest c)), failed := some (op.join (protectionRequest c)).asFailed
        }).setSequencer f
        { s.sequencer f with
          state := .failed, phase := none, openTaken := false, manualClose := none, timer := none } := by
  have failed : ∀ t : State, (t.sequencer f).state ≠ .hunt → (t.sequencer f).pendingOpen = [] →
      t.failSequencer f = t.setSequencer f
        { t.sequencer f with
          state := .failed, phase := none, openTaken := false, manualClose := none, timer := none } := fun t state held => by
    simp [State.failSequencer_of_none _ _ held, State.seqBreakerFail, state, held]
  rw [State.protectionTrip_failed (State.tripRequest_failPulse _ slot phase),
    State.huntBreakerFail_off (s := s.setBreaker f _) off, failed (s.setBreaker f _) state noneHeld,
    State.protectionReport_same]
  · exact State.huntTripReport_same off rfl
  · simp [Sequencer.takesTrip, Sequencer.reclosingIn]
  · simp

/-- With the breaker open already the answer is report and outcome in one (R70). -/
theorem State.protectionTrip_alreadyOpen (c : Cause) (off : s.huntOn f = false) (slot : (s.breaker f).slot = .empty)
    (position : (s.breaker f).stableClosed = false) (takes : (s.sequencer f).takesTrip = true) :
    s.protectionTrip f c = (s.setSequencer f ((s.sequencer f).enterTripping (some c))).confirmTrip f := by
  have tripping : (s.sequencer f).state ≠ .tripping := fun state => by
    simp [Sequencer.takesTrip, Sequencer.reclosingIn, state] at takes
  rw [State.protectionTrip_open (State.tripRequest_open _ slot position)]
  simp only [State.seqAlreadyOpen, tripping, takes, Bool.not_true, Bool.false_eq_true, if_true, if_false]
  rw [State.protectionReport_confirmed]
  exact State.huntTripReport_same off (by simp)

theorem State.protectionTrip_openTripping (c : Cause) (off : s.huntOn f = false) (slot : (s.breaker f).slot = .empty)
    (position : (s.breaker f).stableClosed = false) (state : (s.sequencer f).state = .tripping) :
    s.protectionTrip f c =
      (s.setSequencer f { s.sequencer f with cause := (s.sequencer f).cause.or (some c) }).confirmTrip f := by
  rw [State.protectionTrip_open (State.tripRequest_open _ slot position)]
  simp only [State.seqAlreadyOpen, state, Bool.not_true, Bool.false_eq_true, if_true, if_false, State.endTripping]
  rw [State.protectionReport_confirmed]
  exact State.huntTripReport_same off (by simp)

theorem State.protectionTrip_openElse (c : Cause) (off : s.huntOn f = false) (slot : (s.breaker f).slot = .empty)
    (position : (s.breaker f).stableClosed = false) (other : (s.sequencer f).takesTrip = false)
    (state : (s.sequencer f).state ≠ .tripping) : s.protectionTrip f c = s := by
  rw [State.protectionTrip_open (State.tripRequest_open _ slot position)]
  simp only [State.seqAlreadyOpen, state, other, Bool.not_true, Bool.false_eq_true, if_false]
  rw [State.protectionReport_same c other state]
  exact State.huntTripReport_off off

end Sys2Proof.Machine
end

section
/-! A trip report at the hunt engine (R158, R159, R162, R163, R167), and the protection trip whole. -/

namespace Sys2Proof.Machine

variable {s t : State} {f : Feeder} {c : Cause}

/-! ### Chains of blocks (R156, R162) -/

theorem huntChain_none (f : Feeder) (n : Nat) (s : State) : huntChain f n (s, none) = s := by cases n <;> rfl

theorem State.huntRun_none (s : State) (f : Feeder) : State.huntRun (s, none) f = s := huntChain_none f _ s

/-- A chain that comes to a WAIT block with a window and with budget left opens its first window (R156, R159). -/
theorem State.huntRun_wait {b : Nat} (action : (s.huntBlock b).action = .wait) (window : 1 ≤ (s.huntBlock b).window)
    (budget : s.hunt.steps < stepBudget) (f : Feeder) :
    State.huntRun (s, some b) f =
      (s.setHunt { s.hunt.observing with current := b }).setUnit f
        { s.unit f with window := some (freshWindow (s.huntBlock b).window) } := by
  obtain ⟨n, left⟩ : ∃ n, stepBudget - s.hunt.steps = n + 1 := ⟨stepBudget - s.hunt.steps - 1, by omega⟩
  have current : (s.setHunt (s.hunt.enterBlock b)).currentBlock = s.huntBlock b := rfl
  have begun : s.beginBlock f b = ((s.setHunt (s.hunt.enterBlock b)).openWindow f, none) := by
    have some : ¬ (s.huntBlock b).window = 0 := by omega
    simp only [State.beginBlock, current, action, huntObserve, some, if_false]
  rw [State.huntRun, left, huntChain, begun, huntChain_none]
  rfl

/-! ### The end of a hunt (R169, R170) -/

theorem State.huntFinish_ended (s : State) (f : Feeder) (r : EndReason) (d : EndDetail) :
    (s.huntFinish f r d).huntEnded r d :=
  ⟨by simp [State.huntFinish, Hunt.done], by simp [State.huntFinish, Hunt.done],
    by simp [State.huntFinish, Hunt.done, State.huntResult], by simp [State.huntFinish, Hunt.done, State.huntResult],
    State.flagSet_setFlag _ _⟩

/-- The end of a hunt leaves its trace. -/
theorem State.huntFinish_trace (s : State) (f : Feeder) (r : EndReason) (d : EndDetail) :
    (s.huntFinish f r d).hunt.trace = s.hunt.trace := by
  have removed : ((s.huntRelease f).removeHunt f).hunt = (s.huntRelease f).hunt :=
    ((State.Within.refl _ [.protection, .sequencers, .holds, .log, .ports] none).removeHunt (by decide) (by decide) (by decide)
      (by decide) (by decide) (by simp)).parts .hunt (by decide)
  have withdrawn : s.withdrawHunt.1.hunt = s.hunt :=
    ((State.Within.refl s [.bus] none).withdrawHunt (by decide)).parts .hunt (by decide)
  have released : (s.huntRelease f).hunt.trace = s.hunt.trace := by
    unfold State.huntRelease
    dsimp only
    split <;> simp [State.cancelWindow, withdrawn]
  simp [State.huntFinish, Hunt.done, removed, released]

/-! ### Detours (R162, R163) -/

theorem Hunt.detourBlocked_iff (h : Hunt) : h.detourBlocked = true ↔ h.detourFirst = 0 ∨ h.returnSlot ≠ none := by
  simp [Hunt.detourBlocked, Option.isSome_iff_ne_none]

theorem Hunt.detourBlocked_eq_false {h : Hunt} (first : h.detourFirst ≠ 0) (slot : h.returnSlot = none) :
    h.detourBlocked = false := by simp [Hunt.detourBlocked, first, slot]

theorem State.takeDetour_blocked (h : s.hunt.detourBlocked = true) (f : Feeder) (next : Nat) :
    s.takeDetour f next = (s.setHunt { s.hunt with pendingDetour := false, insertion := none }).huntOver f .tripped .none :=
  if_pos h

theorem State.takeDetour_free (h : s.hunt.detourBlocked = false) (f : Feeder) (next : Nat) :
    s.takeDetour f next =
      (s.setHunt
        { s.hunt with
          pendingDetour := false, insertion := none, returnSlot := some { block := next, kind := .detour } }).proceed
        s.hunt.detourFirst := if_neg (Bool.eq_false_iff.1 h)

@[simp] theorem State.traceBlock_hunt (s : State) (f : Feeder) (o : BlockOutcome) (test : Bool) :
    (s.traceBlock f o test).hunt = s.hunt.traced (s.traceRecord o test) := by
  unfold State.traceBlock
  dsimp only
  split <;> simp [Hunt.traced, State.traceRecord]

@[simp] theorem State.traceBlock_unit (s : State) (f : Feeder) (o : BlockOutcome) (test : Bool) (g : Feeder) :
    (s.traceBlock f o test).unit g = s.unit g := by
  unfold State.traceBlock
  dsimp only
  split <;> simp

/-- The trace record of a block that a trip turns into a detour (R163). -/
def State.detourRecord (s : State) : TraceRecord :=
  { block := s.hunt.current, action := s.currentBlock.action, outcome := .detour
    test := s.currentBlock.test { sefSeen := false, ocSeen := false, trip := true, fpi := false, unitFail := false }
    windows := s.hunt.run.windows, sefSamples := s.hunt.run.sefSamples, securingTrip := s.hunt.run.securingTrip
    insertionDropped := s.hunt.insertion.isSome, time := s.time }

/-- A block that becomes a detour leaves its window and its trace record, and the detour is taken (R163). -/
theorem State.detourBlock_spec (works : ∀ x, s.hunt.run.outcome ≠ .unitFail x) (f : Feeder) :
    ∃ t : State, s.detourBlock f = t.takeDetour f (s.currentBlock.next s.detourRecord.test) ∧
      t.hunt = { s.hunt.traced s.detourRecord with pendingDetour := true } ∧ (t.unit f).window = none ∧
      s.changesOnly [.protection, .hunt, .log, .ports] t := by
  have completes : s.detourBlock f =
      ((s.cancelWindow f).setHunt { s.hunt with pendingDetour := true }).completeBlock f .detour s.detourRecord.test := by
    unfold State.detourBlock
    cases found : s.hunt.run.outcome with
    | unitFail x => exact absurd found (works x)
    | _ => rfl
  refine ⟨((s.cancelWindow f).setHunt { s.hunt with pendingDetour := true }).traceBlock f .detour s.detourRecord.test, ?_, ?_,
    ?_, ?_⟩
  · rw [completes, State.completeBlock]
    exact if_pos (by simp [Hunt.traced])
  · rw [State.traceBlock_hunt]
    rfl
  · simp [State.cancelWindow]
  · exact ((((State.Within.refl s _ none).setUnit (by decide) (by simp) _).setHunt (by decide) _).traceBlock (by decide)
      (by decide) (by decide) _ _ _).parts

/-- A detour that cannot be taken ends the hunt TRIPPED (R163). -/
theorem State.detourBlock_blocked (works : ∀ x, s.hunt.run.outcome ≠ .unitFail x) (f : Feeder)
    (blocked : s.hunt.detourFirst = 0 ∨ s.hunt.returnSlot ≠ none) :
    (State.huntRun (s.detourBlock f) f).huntEnded .tripped .none ∧
      (State.huntRun (s.detourBlock f) f).hunt.trace = s.hunt.trace ++ [s.detourRecord] := by
  obtain ⟨t, detour, hunt, -, -⟩ := State.detourBlock_spec works f
  have stays : t.hunt.detourBlocked = true := by rw [Hunt.detourBlocked_iff, hunt]; exact blocked
  rw [detour, State.takeDetour_blocked stays, State.huntOver, State.huntRun_none]
  refine ⟨State.huntFinish_ended _ _ _ _, (State.huntFinish_trace _ _ _ _).trans ?_⟩
  rw [State.setHunt_hunt, hunt]
  rfl

/-- In step mode the engine pauses before the detour (R162, R163). -/
theorem State.detourBlock_paused (works : ∀ x, s.hunt.run.outcome ≠ .unitFail x) (f : Feeder)
    (first : s.hunt.detourFirst ≠ 0) (slot : s.hunt.returnSlot = none) (mode : s.hunt.stepMode = true) :
    (State.huntRun (s.detourBlock f) f).hunt =
        { (s.hunt.traced s.detourRecord).pausedBefore .step s.hunt.detourFirst s.ms with
          pendingDetour := false, insertion := none
          returnSlot := some { block := s.currentBlock.next s.detourRecord.test, kind := .detour } } ∧
      ((State.huntRun (s.detourBlock f) f).unit f).window = none ∧
      s.changesOnly [.protection, .hunt, .log, .ports] (State.huntRun (s.detourBlock f) f) := by
  obtain ⟨t, detour, hunt, window, parts⟩ := State.detourBlock_spec works f
  have free : t.hunt.detourBlocked = false := by rw [hunt]; exact Hunt.detourBlocked_eq_false first slot
  have ms : t.ms = s.ms := parts .milliseconds (by decide)
  have pauses : State.huntRun (s.detourBlock f) f = (t.setHunt { t.hunt with
      pendingDetour := false, insertion := none
      returnSlot := some { block := s.currentBlock.next s.detourRecord.test, kind := .detour } }).stepPause
        s.hunt.detourFirst := by
    rw [detour, State.takeDetour_free free, State.proceed, if_pos (by rw [State.setHunt_hunt, hunt]; exact mode),
      State.huntRun_none, hunt]
    rfl
  rw [pauses]
  refine ⟨?_, window, ?_⟩
  · rw [State.stepPause, State.setHunt_hunt, State.setHunt_hunt, State.timer, State.setHunt_ms, ms, hunt]
    rfl
  · exact State.changesOnly_trans parts
      (((State.Within.refl t _ none).setHunt (by decide) _).setHunt (by decide) _).parts

/-- A detour that begins with a WAIT block opens its first window (R159, R163). -/
theorem State.detourBlock_waits (works : ∀ x, s.hunt.run.outcome ≠ .unitFail x) (f : Feeder)
    (first : s.hunt.detourFirst ≠ 0) (slot : s.hunt.returnSlot = none) (mode : s.hunt.stepMode = false)
    (action : (s.huntBlock s.hunt.detourFirst).action = .wait) (window : 1 ≤ (s.huntBlock s.hunt.detourFirst).window)
    (budget : s.hunt.steps < 63) :
    (State.huntRun (s.detourBlock f) f).hunt =
        { (s.hunt.traced s.detourRecord).observing with
          pendingDetour := false, insertion := none, current := s.hunt.detourFirst
          returnSlot := some { block := s.currentBlock.next s.detourRecord.test, kind := .detour } } ∧
      ((State.huntRun (s.detourBlock f) f).unit f).window =
        some (freshWindow (s.huntBlock s.hunt.detourFirst).window) ∧
      s.changesOnly [.protection, .hunt, .log, .ports] (State.huntRun (s.detourBlock f) f) := by
  obtain ⟨t, detour, hunt, -, parts⟩ := State.detourBlock_spec works f
  have free : t.hunt.detourBlocked = false := by rw [hunt]; exact Hunt.detourBlocked_eq_false first slot
  have block : ∀ b, t.huntBlock b = s.huntBlock b := fun b => by rw [State.huntBlock, State.huntBlock, hunt]; rfl
  have steps : t.hunt.steps = s.hunt.steps + 1 := by rw [hunt]; rfl
  have ran : State.huntRun (s.detourBlock f) f = State.huntRun (t.setHunt { t.hunt with
      pendingDetour := false, insertion := none
      returnSlot := some { block := s.currentBlock.next s.detourRecord.test, kind := .detour } },
        some s.hunt.detourFirst) f := by
    rw [detour, State.takeDetour_free free, State.proceed,
      if_neg (by rw [State.setHunt_hunt, hunt]; exact Bool.eq_false_iff.1 mode), hunt]
    rfl
  rw [← block] at action window
  rw [ran, State.huntRun_wait (by exact action) (by exact window) (by change t.hunt.steps < 64; omega), ← block]
  refine ⟨?_, by simp [State.huntBlock], ?_⟩
  · rw [State.setUnit_hunt, State.setHunt_hunt, State.setHunt_hunt, hunt]
    rfl
  · exact State.changesOnly_trans parts
      ((((State.Within.refl t _ none).setHunt (by decide) _).setHunt (by decide) _).setUnit (by decide) (by simp) _).parts

/-! ### The trip report by where the hunt stands (R163, R167) -/

theorem State.huntIs_eq (feeder : s.hunt.feeder = some f) (st : HuntState) : s.huntIs f st = (s.hunt.state == st) := by
  simp [State.huntIs, feeder]

theorem State.huntTripReport_stopping (feeder : s.hunt.feeder = some f) (state : s.hunt.state = .stopping) :
    s.huntTripReport f = s.setHunt { s.hunt with notes := { s.hunt.notes with trip := true } } := by
  simp [State.huntTripReport, State.huntIs_eq feeder, state, State.huntNote]

theorem State.huntTripReport_running (feeder : s.hunt.feeder = some f) (state : s.hunt.state = .running) :
    s.huntTripReport f = s.tripRunning f := by
  simp [State.huntTripReport, State.huntTripTaken, State.huntIs_eq feeder, state]

theorem State.huntTripReport_paused (feeder : s.hunt.feeder = some f) (state : s.hunt.state = .paused) :
    s.huntTripReport f = s.tripPaused f := by
  simp [State.huntTripReport, State.huntTripTaken, State.huntIs_eq feeder, state]

theorem State.tripRunning_securing (phase : s.hunt.phase = .securing) (f : Feeder) :
    s.tripRunning f = s.setRun { s.hunt.run with securingTrip := true } := by
  simp only [State.tripRunning, phase]

theorem State.tripRunning_observing (phase : s.hunt.phase = .observing) (f : Feeder) :
    s.tripRunning f =
      if s.currentBlock.tests.trip then s.setRun { s.hunt.run with windowTrip := true }
      else State.huntRun (s.detourBlock f) f := by
  simp only [State.tripRunning, phase]

/-- An OPEN-BREAKER that awaits its answer takes no notice of the trip (log entry 60). -/
theorem State.tripRunning_opening (phase : s.hunt.phase = .acting) (action : s.currentBlock.action = .openBreaker)
    (awaiting : s.hunt.awaiting = .trip) (f : Feeder) : s.tripRunning f = s := by
  simp only [State.tripRunning, phase]
  exact if_pos ⟨action, awaiting⟩

/-- A trip while the block acts is held for its window, or noted as a pending detour (R163). -/
def State.tripHeld (s : State) : State :=
  if 1 ≤ s.currentBlock.window ∧ s.currentBlock.tests.trip then s.setRun { s.hunt.run with heldTrip := true }
  else s.setHunt { s.hunt with pendingDetour := true }

theorem State.tripRunning_acting (phase : s.hunt.phase = .acting)
    (other : s.currentBlock.action ≠ .openBreaker ∨ s.hunt.awaiting ≠ .trip) (f : Feeder) :
    s.tripRunning f =
      if s.hunt.awaiting = .tripReport then State.huntRun (s.tripHeld.actionEnded f .cut) f else s.tripHeld := by
  simp only [State.tripRunning, State.tripHeld, phase]
  refine if_neg ?_
  rintro ⟨action, awaiting⟩
  exact other.elim (· action) (· awaiting)

theorem State.tripHeld_window (window : 1 ≤ s.currentBlock.window) (test : s.currentBlock.tests.trip = true) :
    s.tripHeld = s.setRun { s.hunt.run with heldTrip := true } := if_pos ⟨window, test⟩

theorem State.tripHeld_detour (h : s.currentBlock.window = 0 ∨ s.currentBlock.tests.trip = false) :
    s.tripHeld = s.setHunt { s.hunt with pendingDetour := true } :=
  if_neg fun ⟨window, test⟩ => h.elim (fun none => absurd window (by omega)) (by simp [test])

theorem HuntBlock.maxWindows_pos (b : HuntBlock) : 1 ≤ b.maxWindows := by
  unfold HuntBlock.maxWindows
  split
  · split <;> omega
  · omega

/-- Observing a block with a window opens its first (R159). -/
theorem huntObserve_window {n : Nat} (some : 1 ≤ n) (window : 1 ≤ s.currentBlock.window) (f : Feeder) :
    huntObserve f n s = (s.openWindow f, none) := by
  obtain ⟨m, rfl⟩ : ∃ m, n = m + 1 := ⟨n - 1, by omega⟩
  exact if_neg (by omega)

/-- The trip that an action waited for ends it CUT, and its held TRIP passes to the window that opens (R158, R159). -/
theorem State.huntTripReport_cutWindow (feeder : s.hunt.feeder = some f) (state : s.hunt.state = .running)
    (phase : s.hunt.phase = .acting) (awaiting : s.hunt.awaiting = .tripReport) (detour : s.hunt.pendingDetour = false)
    (window : 1 ≤ s.currentBlock.window) (test : s.currentBlock.tests.trip = true) :
    s.huntTripReport f =
      (s.setHunt
        { s.hunt with
          phase := .observing, awaiting := .nothing
          run := { s.hunt.run with outcome := .cut, windowTrip := true, heldTrip := false } }).setUnit f
        { s.unit f with window := some (freshWindow s.currentBlock.window) } := by
  rw [State.huntTripReport_running feeder state, State.tripRunning_acting phase (.inr (by simp [awaiting])), if_pos awaiting,
    State.tripHeld_window window test, State.actionEnded, if_neg (by simpa [State.setRun] using detour),
    huntObserve_window (HuntBlock.maxWindows_pos _) (by exact window), State.huntRun_none]
  rfl

/-- Where a running hunt has no use for a trip, its block becomes a detour (R163). -/
theorem State.huntTripReport_detours (feeder : s.hunt.feeder = some f) (state : s.hunt.state = .running)
    (where_ : (s.hunt.phase = .observing ∧ s.currentBlock.tests.trip = false) ∨
      (s.hunt.phase = .acting ∧ s.hunt.awaiting = .tripReport ∧
        (s.currentBlock.window = 0 ∨ s.currentBlock.tests.trip = false)))
    (works : ∀ x, s.hunt.run.outcome ≠ .unitFail x) :
    ∃ p a o, s.huntTripReport f =
        State.huntRun ((s.setHunt { s.hunt with
          pendingDetour := p, awaiting := a, run := { s.hunt.run with outcome := o } }).detourBlock f) f ∧
      ∀ x, o ≠ .unitFail x := by
  rw [State.huntTripReport_running feeder state]
  obtain ⟨phase, test⟩ | ⟨phase, awaiting, ignores⟩ := where_
  · refine ⟨s.hunt.pendingDetour, s.hunt.awaiting, s.hunt.run.outcome, ?_, works⟩
    rw [State.tripRunning_observing phase, if_neg (by simp [test])]
    rfl
  · refine ⟨true, .nothing, .cut, ?_, by simp⟩
    rw [State.tripRunning_acting phase (.inr (by simp [awaiting])), if_pos awaiting, State.tripHeld_detour ignores,
      State.actionEnded, if_pos (by simp)]
    rfl

theorem State.tripPaused_blocked (h : s.hunt.detourFirst = 0 ∨ s.hunt.returnSlot ≠ none) (f : Feeder) :
    s.tripPaused f = s.huntFinish f .tripped .none := if_pos ((Hunt.detourBlocked_iff _).2 h)

theorem State.tripPaused_free (first : s.hunt.detourFirst ≠ 0) (slot : s.hunt.returnSlot = none) (f : Feeder) :
    s.tripPaused f =
      if s.hunt.pauseReason = .step then
        s.setHunt
          { s.hunt with
            insertion := none, pendingDetour := false, returnSlot := some { block := s.hunt.current, kind := .detour }
            current := s.hunt.detourFirst }
      else
        State.huntRun
          (s.setHunt
            { s.hunt with
              insertion := none, pendingDetour := false, returnSlot := some { block := s.hunt.current, kind := .detour }
              pauseTimer := none },
            some s.hunt.detourFirst) f := if_neg (by simp [Hunt.detourBlocked_eq_false first slot])

/-- A paused hunt whose detour begins with a WAIT block opens its first window (R159, R163). -/
theorem State.tripPaused_waits (first : s.hunt.detourFirst ≠ 0) (slot : s.hunt.returnSlot = none)
    (reason : s.hunt.pauseReason ≠ .step) (action : (s.huntBlock s.hunt.detourFirst).action = .wait)
    (window : 1 ≤ (s.huntBlock s.hunt.detourFirst).window) (budget : s.hunt.steps < 64) (f : Feeder) :
    s.tripPaused f =
      (s.setHunt
        { s.hunt.observing with
          insertion := none, pendingDetour := false, returnSlot := some { block := s.hunt.current, kind := .detour }
          current := s.hunt.detourFirst }).setUnit f
        { s.unit f with window := some (freshWindow (s.huntBlock s.hunt.detourFirst).window) } := by
  rw [State.tripPaused_free first slot, if_neg reason,
    State.huntRun_wait (by exact action) (by exact window) (by exact budget)]
  rfl

/-- What becomes of the block of a running hunt that a trip turns into a detour (R163). -/
theorem State.huntTripReport_detour {r : TraceRecord} (record : r = s.detourRecord) (feeder : s.hunt.feeder = some f)
    (state : s.hunt.state = .running)
    (where_ : (s.hunt.phase = .observing ∧ s.currentBlock.tests.trip = false) ∨
      (s.hunt.phase = .acting ∧ s.hunt.awaiting = .tripReport ∧
        (s.currentBlock.window = 0 ∨ s.currentBlock.tests.trip = false)))
    (works : ∀ x, s.hunt.run.outcome ≠ .unitFail x) :
    (s.hunt.detourFirst = 0 ∨ s.hunt.returnSlot ≠ none →
      (s.huntTripReport f).huntEnded .tripped .none ∧ (s.huntTripReport f).hunt.trace = s.hunt.trace ++ [r]) ∧
    (s.hunt.detourFirst ≠ 0 → s.hunt.returnSlot = none → s.hunt.stepMode = true →
      (s.huntTripReport f).hunt =
        { (s.hunt.traced r).pausedBefore .step s.hunt.detourFirst s.ms with
          pendingDetour := false, insertion := none
          returnSlot := some { block := s.currentBlock.next r.test, kind := .detour } } ∧
      ((s.huntTripReport f).unit f).window = none ∧
      s.changesOnly [.protection, .hunt, .log, .ports] (s.huntTripReport f)) ∧
    (s.hunt.detourFirst ≠ 0 → s.hunt.returnSlot = none → s.hunt.stepMode = false →
        (s.huntBlock s.hunt.detourFirst).action = .wait → 1 ≤ (s.huntBlock s.hunt.detourFirst).window →
        s.hunt.steps < 63 →
      (s.huntTripReport f).hunt =
        { (s.hunt.traced r).observing with
          pendingDetour := false, insertion := none, current := s.hunt.detourFirst
          returnSlot := some { block := s.currentBlock.next r.test, kind := .detour } } ∧
      ((s.huntTripReport f).unit f).window = some (freshWindow (s.huntBlock s.hunt.detourFirst).window) ∧
      s.changesOnly [.protection, .hunt, .log, .ports] (s.huntTripReport f)) := by
  subst record
  obtain ⟨p, a, o, detour, worksHere⟩ := State.huntTripReport_detours feeder state where_ works
  rw [detour]
  have before : s.changesOnly [.protection, .hunt, .log, .ports]
      (s.setHunt { s.hunt with pendingDetour := p, awaiting := a, run := { s.hunt.run with outcome := o } }) :=
    ((State.Within.refl s _ none).setHunt (by decide) _).parts
  refine ⟨fun blocked => ?_, fun first slot mode => ?_, fun first slot mode action window budget => ?_⟩
  · exact State.detourBlock_blocked (by exact worksHere) f blocked
  · obtain ⟨hunt, window, parts⟩ := State.detourBlock_paused (s := s.setHunt { s.hunt with
      pendingDetour := p, awaiting := a, run := { s.hunt.run with outcome := o } }) worksHere f first slot mode
    exact ⟨hunt, window, State.changesOnly_trans before parts⟩
  · obtain ⟨hunt, opened, parts⟩ := State.detourBlock_waits (s := s.setHunt { s.hunt with
      pendingDetour := p, awaiting := a, run := { s.hunt.run with outcome := o } }) worksHere f first slot mode action window
        budget
    exact ⟨hunt, opened, State.changesOnly_trans before parts⟩

/-- Settles O32, from the rules of the request, the report to the sequencer and the trip report at the hunt engine. -/
theorem protectionTripStartsPulse : Obligations.ProtectionTripStartsPulse := by
  unfold Obligations.ProtectionTripStartsPulse
  refine ⟨fun oc hs ef sef => ?_, fun f c s slot closed state off => ?_, fun f c s off => ⟨?_, ?_, ?_, ?_⟩,
    fun f s feeder => ⟨?_, ?_, ?_, ?_⟩⟩
  · simp +contextual [tripCause]
  · rw [State.protectionTrip_pulse c off slot closed ((Sequencer.takesTrip_iff _).2 (.inl state)),
      Sequencer.enterTripping_inService state]
    rfl
  · intro slot closed state
    rw [State.protectionTrip_pulse c off slot closed ((Sequencer.takesTrip_iff _).2 (.inr (.inl state))),
      Sequencer.enterTripping_kept (by simp [state])]
    rfl
  · intro op slot purpose requester state phase
    exact State.protectionTrip_cutAuto c off slot purpose requester state phase
  · rintro op j slot rfl
    refine ⟨fun phase state => ?_, fun phase state noneHeld => ?_⟩
    · exact State.protectionTrip_join c off slot phase ((Sequencer.takesTrip_iff _).2 (state.imp_right .inl))
    · exact State.protectionTrip_failPulse c off slot phase state noneHeld
  · intro slot position
    refine ⟨fun state => ?_, fun state => ?_, fun inService reclaim tripping granted => ?_⟩
    · exact State.protectionTrip_alreadyOpen c off slot position ((Sequencer.takesTrip_iff _).2 state)
    · exact State.protectionTrip_openTripping c off slot position state
    · refine State.protectionTrip_openElse c off slot position (Bool.eq_false_iff.2 fun takes => ?_) tripping
      obtain state | state | ⟨state, phase⟩ := (Sequencer.takesTrip_iff _).1 takes
      · exact inService state
      · exact reclaim state
      · exact granted state phase
  · intro c state slot closed
    rw [State.protectionTrip_started (State.tripRequest_started _ slot closed),
      State.protectionReport_same (s := s.setBreaker f _) c]
    · rfl
    · simp [Sequencer.takesTrip, Sequencer.reclosingIn, state]
    · simp [state]
  · exact State.huntTripReport_stopping feeder
  · intro state
    refine ⟨fun phase => ?_, fun phase test => ?_, fun phase action awaiting => ?_,
      fun phase other waits => ⟨fun window test => ?_, fun detour => ?_⟩, ?_,
      fun r record where_ works => State.huntTripReport_detour record feeder state where_ works⟩
    · rw [State.huntTripReport_running feeder state, State.tripRunning_securing phase]
      rfl
    · rw [State.huntTripReport_running feeder state, State.tripRunning_observing phase, if_pos test]
      rfl
    · rw [State.huntTripReport_running feeder state, State.tripRunning_opening phase action awaiting]
    · rw [State.huntTripReport_running feeder state, State.tripRunning_acting phase other, if_neg waits,
        State.tripHeld_window window test]
      rfl
    · rw [State.huntTripReport_running feeder state, State.tripRunning_acting phase other, if_neg waits,
        State.tripHeld_detour detour]
    · exact State.huntTripReport_cutWindow feeder state
  · intro state
    rw [State.huntTripReport_paused feeder state]
    refine ⟨fun blocked => ?_, fun first slot => ⟨fun reason => ?_, fun reason action window budget => ?_⟩⟩
    · rw [State.tripPaused_blocked blocked]
      exact State.huntFinish_ended _ _ _ _
    · rw [State.tripPaused_free first slot, if_pos reason]
    · exact State.tripPaused_waits first slot reason action window budget f

end Sys2Proof.Machine
end

section
/-! SUPPORT. The nonvolatile image by record (R177): every write is a record put at its place, and a job leaves the records it
names and no other (R178, R182). -/

namespace Sys2Proof.Machine

variable {im im' : Image} {q r : RecordId} {x : ImageRecord} {s : State}

/-! ### Places (R177; log entry 38) -/

/-- The records of a class. -/
def RecordClass.places : RecordClass → Nat
  | .group => 8
  | .curve => 4
  | .fireTable => 1
  | .exposure => 4
  | .corridor => 4
  | .unitList => 4
  | .isolation => 1
  | .huntBlock => 255
  | .holds => 4
  | .fireRequests => 1

theorem mem_indicesFrom {first n i : Nat} : i ∈ indicesFrom first n ↔ first ≤ i ∧ i < first + n := by
  rw [indicesFrom_eq_range', List.mem_range'_1]

theorem mem_allRecords : r ∈ allRecords ↔ 1 ≤ r.index ∧ r.index ≤ r.cls.places := by
  obtain ⟨c, i⟩ := r
  cases c <;> simp [allRecords, recordId, mem_indicesFrom, RecordClass.places] <;> omega

theorem feederOf_of_le {i : Nat} (low : 1 ≤ i) (high : i ≤ 4) : ∃ f, feederOf i = some f ∧ feederNumber f = i := by
  obtain rfl | rfl | rfl | rfl : i = 1 ∨ i = 2 ∨ i = 3 ∨ i = 4 := by omega
  · exact ⟨.f1, rfl, rfl⟩
  · exact ⟨.f2, rfl, rfl⟩
  · exact ⟨.f3, rfl, rfl⟩
  · exact ⟨.f4, rfl, rfl⟩

theorem feederOf_number (f : Feeder) : feederOf (feederNumber f) = some f := by cases f <;> rfl

theorem feederOf_eq_some {i : Nat} {f : Feeder} (h : feederOf i = some f) : feederNumber f = i := by
  unfold feederOf at h
  split at h <;> cases h <;> rfl

/-! ### A record put at its place -/

/-- The contents of a feeder's number are replaced. -/
def setNumbered {α : Type} (x : PerFeeder α) (i : Nat) (y : α) : PerFeeder α :=
  match feederOf i with
  | some f => feederSet x f y
  | none => x

theorem setNumbered_some {α : Type} {i : Nat} {f : Feeder} (h : feederOf i = some f) (x : PerFeeder α) (y : α) :
    setNumbered x i y = feederSet x f y := by simp only [setNumbered, h]

theorem setNumbered_number {α : Type} (f : Feeder) (x : PerFeeder α) (y : α) :
    setNumbered x (feederNumber f) y = feederSet x f y := setNumbered_some (feederOf_number f) x y

theorem setNumbered_same {α β : Type} (k : α → β) {i : Nat} (low : 1 ≤ i) (high : i ≤ 4) (x : PerFeeder α) (y : α) :
    (feederOf i).map (fun f => k (feederGet (setNumbered x i y) f)) = some (k y) := by
  obtain ⟨f, found, -⟩ := feederOf_of_le low high
  simp [setNumbered_some found, found]

theorem setNumbered_other {α β : Type} (k : α → β) {i j : Nat} (ne : j ≠ i) (x : PerFeeder α) (y : α) :
    (feederOf j).map (fun f => k (feederGet (setNumbered x i y) f)) = (feederOf j).map (fun f => k (feederGet x f)) := by
  cases named : feederOf j with
  | none => rfl
  | some g =>
    cases found : feederOf i with
    | none => simp [setNumbered, found]
    | some f =>
      have apart : g ≠ f := fun same => ne (by rw [← feederOf_eq_some named, ← feederOf_eq_some found, same])
      simp [setNumbered_some found, feederGet_set_of_ne _ apart]

/-- The class of a record's contents. -/
def ImageRecord.cls : ImageRecord → RecordClass
  | .group _ => .group
  | .curve _ => .curve
  | .fireTable _ => .fireTable
  | .exposure _ => .exposure
  | .corridor _ => .corridor
  | .unitList _ => .unitList
  | .isolation _ => .isolation
  | .huntBlock _ => .huntBlock
  | .holds _ => .holds
  | .fireRequests _ => .fireRequests

/-- The image with a record put at an index of its class. -/
def Image.putAt (im : Image) (i : Nat) : ImageRecord → Image
  | .group x =>
    { im with
      groupsA := if i % 2 = 1 then setNumbered im.groupsA ((i + 1) / 2) x else im.groupsA
      groupsB := if i % 2 = 1 then im.groupsB else setNumbered im.groupsB ((i + 1) / 2) x }
  | .curve x => { im with curves := im.curves.set (i - 1) x }
  | .fireTable x => { im with table := x }
  | .exposure x => { im with exposure := setNumbered im.exposure i x }
  | .corridor x => { im with corridor := setNumbered im.corridor i x }
  | .unitList x => { im with unitLists := setNumbered im.unitLists i x }
  | .isolation x => { im with isolation := x }
  | .huntBlock x => { im with hunt := im.hunt.set (i - 1) x }
  | .holds x => { im with holds := setNumbered im.holds i x }
  | .fireRequests x => { im with fireRequests := x }

/-- The image holds the 4 curves and the 255 hunt blocks (R177). -/
def Image.Shaped (im : Image) : Prop := im.curves.length = 4 ∧ im.hunt.length = 255

theorem Image.Shaped.putAt (h : im.Shaped) (i : Nat) (x : ImageRecord) : (im.putAt i x).Shaped := by
  obtain ⟨curves, hunt⟩ := h
  cases x <;> simp [Image.Shaped, Image.putAt, curves, hunt]

/-- The group at an index stands with its letter's groups, under its feeder (log entry 38). -/
theorem Image.recordAt_group (im : Image) (i : Nat) :
    im.recordAt { cls := .group, index := i } =
      (feederOf ((i + 1) / 2)).map
        (fun f => .group (feederGet (if i % 2 = 1 then im.groupsA else im.groupsB) f)) := by
  simp only [Image.recordAt, groupOf, Option.map_map]
  congr 1
  funext f
  by_cases odd : i % 2 = 1 <;> simp [odd]

/-- What a put leaves at its own place. -/
theorem Image.recordAt_putAt_same (shaped : im.Shaped) (place : r ∈ allRecords) (cls : x.cls = r.cls) :
    (im.putAt r.index x).recordAt r = some x := by
  obtain ⟨c, i⟩ := r
  obtain ⟨curves, hunt⟩ := shaped
  obtain ⟨low, high⟩ := mem_allRecords.1 place
  cases cls
  cases x with
  | group x =>
    change i ≤ 8 at high
    have := setNumbered_same ImageRecord.group (i := (i + 1) / 2) (by change 1 ≤ i at low; omega) (by omega)
    by_cases odd : i % 2 = 1
    · simpa [ImageRecord.cls, Image.recordAt_group, Image.putAt, odd] using this im.groupsA x
    · simpa [ImageRecord.cls, Image.recordAt_group, Image.putAt, odd] using this im.groupsB x
  | curve x =>
    have inside : i - 1 < im.curves.length := by change 1 ≤ i at low; change i ≤ 4 at high; omega
    simp [Image.recordAt, Image.putAt, inside]
  | fireTable x => rfl
  | exposure x => exact setNumbered_same ImageRecord.exposure low high _ _
  | corridor x => exact setNumbered_same ImageRecord.corridor low high _ _
  | unitList x => exact setNumbered_same ImageRecord.unitList low high _ _
  | isolation x => rfl
  | huntBlock x =>
    have inside : i - 1 < im.hunt.length := by change 1 ≤ i at low; change i ≤ 255 at high; omega
    simp [Image.recordAt, Image.putAt, inside]
  | holds x => exact setNumbered_same ImageRecord.holds low high _ _
  | fireRequests x => rfl

/-- A put leaves the other classes: it changes a field that a record of another class does not stand in. -/
theorem Image.recordAt_putAt_cls (im : Image) (i : Nat) (other : q.cls ≠ x.cls) :
    (im.putAt i x).recordAt q = im.recordAt q := by
  obtain ⟨c, j⟩ := q
  cases x <;> cases c <;> simp_all [ImageRecord.cls, Image.recordAt, Image.putAt]

/-- A put leaves the other records of its class. -/
theorem Image.recordAt_putAt_index {i j : Nat} (im : Image) (here : 1 ≤ i ∧ i ≤ x.cls.places)
    (there : 1 ≤ j ∧ j ≤ x.cls.places) (ne : j ≠ i) :
    (im.putAt i x).recordAt { cls := x.cls, index := j } = im.recordAt { cls := x.cls, index := j } := by
  obtain ⟨low, high⟩ := here
  obtain ⟨low', high'⟩ := there
  have single : x.cls.places = 1 → j = i := by omega
  cases x with
  | group x =>
    simp only [ImageRecord.cls, Image.recordAt_group, Image.putAt]
    by_cases odd : j % 2 = 1 <;> by_cases odd' : i % 2 = 1 <;> simp only [odd, odd', if_true, if_false]
    · exact setNumbered_other _ (by omega) _ _
    · exact setNumbered_other _ (by omega) _ _
  | curve x =>
    have apart : i - 1 ≠ j - 1 := by omega
    simp [ImageRecord.cls, Image.recordAt, Image.putAt, List.getElem?_set_ne apart]
  | fireTable x => exact absurd (single rfl) ne
  | exposure x => exact setNumbered_other ImageRecord.exposure ne _ _
  | corridor x => exact setNumbered_other ImageRecord.corridor ne _ _
  | unitList x => exact setNumbered_other ImageRecord.unitList ne _ _
  | isolation x => exact absurd (single rfl) ne
  | huntBlock x =>
    have apart : i - 1 ≠ j - 1 := by omega
    simp [ImageRecord.cls, Image.recordAt, Image.putAt, List.getElem?_set_ne apart]
  | holds x => exact setNumbered_other ImageRecord.holds ne _ _
  | fireRequests x => exact absurd (single rfl) ne

/-- A put leaves every other record. -/
theorem Image.recordAt_putAt_other (place : r ∈ allRecords) (cls : x.cls = r.cls) (other : q ∈ allRecords) (ne : q ≠ r) :
    (im.putAt r.index x).recordAt q = im.recordAt q := by
  by_cases same : q.cls = x.cls
  · obtain ⟨c, j⟩ := q
    obtain ⟨d, i⟩ := r
    cases cls
    cases same
    exact Image.recordAt_putAt_index im (mem_allRecords.1 place) (mem_allRecords.1 other) fun h => ne (by rw [h])
  · exact Image.recordAt_putAt_cls im r.index same

/-- Every place of a shaped image holds a record of its class. -/
theorem Image.Shaped.recordAt (shaped : im.Shaped) (place : r ∈ allRecords) :
    ∃ x, im.recordAt r = some x ∧ x.cls = r.cls := by
  obtain ⟨c, i⟩ := r
  obtain ⟨curves, hunt⟩ := shaped
  obtain ⟨low, high⟩ := mem_allRecords.1 place
  cases c with
  | group =>
    change i ≤ 8 at high
    obtain ⟨f, found, -⟩ := feederOf_of_le (i := (i + 1) / 2) (by change 1 ≤ i at low; omega) (by omega)
    exact ⟨_, by rw [Image.recordAt_group, found]; rfl, rfl⟩
  | curve =>
    have inside : i - 1 < im.curves.length := by change 1 ≤ i at low; change i ≤ 4 at high; omega
    exact ⟨_, by simp [Image.recordAt, inside]; rfl, rfl⟩
  | fireTable => exact ⟨_, rfl, rfl⟩
  | exposure =>
    obtain ⟨f, found, -⟩ := feederOf_of_le low high
    exact ⟨_, by simp [Image.recordAt, found]; rfl, rfl⟩
  | corridor =>
    obtain ⟨f, found, -⟩ := feederOf_of_le low high
    exact ⟨_, by simp [Image.recordAt, found]; rfl, rfl⟩
  | unitList =>
    obtain ⟨f, found, -⟩ := feederOf_of_le low high
    exact ⟨_, by simp [Image.recordAt, found]; rfl, rfl⟩
  | isolation => exact ⟨_, rfl, rfl⟩
  | huntBlock =>
    have inside : i - 1 < im.hunt.length := by change 1 ≤ i at low; change i ≤ 255 at high; omega
    exact ⟨_, by simp [Image.recordAt, inside]; rfl, rfl⟩
  | holds =>
    obtain ⟨f, found, -⟩ := feederOf_of_le low high
    exact ⟨_, by simp [Image.recordAt, found]; rfl, rfl⟩
  | fireRequests => exact ⟨_, rfl, rfl⟩

/-! ### Damage (R105, R179; log entry 39) -/

/-- A record left damaged. -/
def ImageRecord.damage : ImageRecord → ImageRecord
  | .group x => .group (x.damage groupFormat)
  | .curve x => .curve (x.damage curveFormat)
  | .fireTable x => .fireTable (x.damage tableFormat)
  | .exposure x => .exposure (x.damage exposureFormat)
  | .corridor x => .corridor (x.damage corridorFormat)
  | .unitList x => .unitList (x.damage listFormat)
  | .isolation x => .isolation (x.damage isolationFormat)
  | .huntBlock x => .huntBlock (x.damage huntFormat)
  | .holds x => .holds (x.damage holdsFormat)
  | .fireRequests x => .fireRequests (x.damage requestsFormat)

theorem ImageRecord.damage_cls (x : ImageRecord) : x.damage.cls = x.cls := by cases x <;> rfl

theorem Stored.damage_checkCode {α : Type} (fmt : RecordFormat α) (x : Stored α) :
    (x.damage fmt).checkCode fmt = x.checkCode fmt := rfl

theorem Word.complement_ne (w : Word) : ~~~ w ≠ w := fun h => by
  have low := congrArg (fun v : Word => v.getLsbD 0) h
  simp at low

theorem Stored.damage_matches {α : Type} (fmt : RecordFormat α) (i : Nat) (x : Stored α) :
    (x.damage fmt).matches fmt i = false := by
  rw [Bool.eq_false_iff, Ne, Stored.matches_iff, Stored.damage_check, Stored.damage_checkCode]
  rintro ⟨-, -, -, check⟩
  exact Word.complement_ne _ check

/-- A damaged record fails its check. -/
theorem ImageRecord.damage_passes (x : ImageRecord) (i : Nat) : x.damage.passes i = false := by
  cases x <;> exact Stored.damage_matches _ _ _

theorem spoilFeeder_some {α : Type} {i : Nat} {f : Feeder} (found : feederOf i = some f) (fmt : RecordFormat α)
    (x : PerFeeder (Stored α)) : spoilFeeder fmt x i = setNumbered x i ((feederGet x f).damage fmt) := by
  simp only [spoilFeeder, setNumbered, found]

theorem listUpdate_of_getElem? {α : Type} {l : List α} {i : Nat} {y : α} (h : l[i]? = some y) (k : α → α) :
    listUpdate l i k = l.set i (k y) := by simp [listUpdate, List.modify_eq_set_getElem?, h]

/-- Spoiling a record is putting its damaged form in its place. -/
theorem Image.spoil_eq_putAt (place : r ∈ allRecords) (held : im.recordAt r = some x) :
    im.spoil r = im.putAt r.index x.damage := by
  obtain ⟨c, i⟩ := r
  obtain ⟨low, high⟩ := mem_allRecords.1 place
  cases c with
  | group =>
    change i ≤ 8 at high
    obtain ⟨f, found, -⟩ := feederOf_of_le (i := (i + 1) / 2) (by change 1 ≤ i at low; omega) (by omega)
    rw [Image.recordAt_group, found] at held
    cases held
    by_cases odd : i % 2 = 1 <;>
      simp [Image.spoil, Image.putAt, ImageRecord.damage, odd, spoilFeeder_some found]
  | curve =>
    obtain ⟨y, at_, rfl⟩ := Option.map_eq_some_iff.1 held
    simp [Image.spoil, Image.putAt, ImageRecord.damage, listUpdate_of_getElem? at_]
  | fireTable => cases held; rfl
  | exposure =>
    obtain ⟨f, found, -⟩ := feederOf_of_le low high
    simp only [Image.recordAt, found] at held
    cases held
    simp [Image.spoil, Image.putAt, ImageRecord.damage, spoilFeeder_some found]
  | corridor =>
    obtain ⟨f, found, -⟩ := feederOf_of_le low high
    simp only [Image.recordAt, found] at held
    cases held
    simp [Image.spoil, Image.putAt, ImageRecord.damage, spoilFeeder_some found]
  | unitList =>
    obtain ⟨f, found, -⟩ := feederOf_of_le low high
    simp only [Image.recordAt, found] at held
    cases held
    simp [Image.spoil, Image.putAt, ImageRecord.damage, spoilFeeder_some found]
  | isolation => cases held; rfl
  | huntBlock =>
    obtain ⟨y, at_, rfl⟩ := Option.map_eq_some_iff.1 held
    simp [Image.spoil, Image.putAt, ImageRecord.damage, listUpdate_of_getElem? at_]
  | holds =>
    obtain ⟨f, found, -⟩ := feederOf_of_le low high
    simp only [Image.recordAt, found] at held
    cases held
    simp [Image.spoil, Image.putAt, ImageRecord.damage, spoilFeeder_some found]
  | fireRequests => cases held; rfl

end Sys2Proof.Machine
end

section
/-! SUPPORT. The records that a job of the store leaves in the image (R177, R178, R179, R182). -/

namespace Sys2Proof.Machine

variable {im : Image} {q r : RecordId} {x : ImageRecord} {s : State} {j : StoreJob}

/-! ### A run of writes -/

/-- A run of writes, each a record put at its place, leaves the last value of each place written and every other record. -/
theorem Image.foldl_putAt {ι : Type} {op : Image → ι → Image} {place : ι → RecordId} {value : RecordId → Option ImageRecord}
    {l : List ι}
    (puts : ∀ i ∈ l, place i ∈ allRecords ∧ ∃ x, value (place i) = some x ∧ x.cls = (place i).cls ∧
      ∀ im, op im i = im.putAt (place i).index x) (shaped : im.Shaped) :
    (l.foldl op im).Shaped ∧ ∀ q ∈ allRecords,
      (q ∈ l.map place → (l.foldl op im).recordAt q = value q) ∧
      (q ∉ l.map place → (l.foldl op im).recordAt q = im.recordAt q) := by
  induction l generalizing im with
  | nil => exact ⟨shaped, fun q _ => ⟨fun h => absurd h (by simp), fun _ => rfl⟩⟩
  | cons i rest ih =>
    obtain ⟨here, x, worth, cls, put⟩ := puts i List.mem_cons_self
    obtain ⟨stays, after⟩ := ih (fun k mem => puts k (List.mem_cons_of_mem i mem))
      (show (op im i).Shaped from put im ▸ shaped.putAt _ _)
    refine ⟨stays, fun q mem => ⟨fun written => ?_, fun unwritten => ?_⟩⟩
    · by_cases later : q ∈ rest.map place
      · exact (after q mem).1 later
      · obtain rfl : q = place i := (List.mem_cons.1 written).resolve_right later
        exact ((after _ mem).2 later).trans
          ((congrArg (Image.recordAt · _) (put im)).trans ((Image.recordAt_putAt_same shaped here cls).trans worth.symm))
    · obtain ⟨ne, later⟩ := not_or.1 (mt List.mem_cons.2 unwritten)
      exact ((after q mem).2 later).trans
        ((congrArg (Image.recordAt · _) (put im)).trans (Image.recordAt_putAt_other here cls mem ne))

/-! ### Single writes -/

/-- A STORE-REPAIR puts the working record in its place (R182). -/
theorem State.repairRecord_eq_putAt (s : State) (place : r ∈ allRecords) :
    ∃ x, s.workingRecord r = some x ∧ x.cls = r.cls ∧ ∀ im, s.repairRecord im r = im.putAt r.index x := by
  obtain ⟨c, i⟩ := r
  obtain ⟨low, high⟩ := mem_allRecords.1 place
  have named : ∀ {α β : Type} (fmt : RecordFormat α) (w : Feeder → α) (y : PerFeeder α) (k : Stored α → β), i ≤ 4 →
      (∀ f, feederGet y f = w f) →
      ∃ v, (feederOf i).map (fun f => k (stored fmt i (w f))) = some (k v) ∧
        ∀ z, putFeeder fmt z i y = setNumbered z i v := fun fmt w y k four same => by
    obtain ⟨f, found, -⟩ := feederOf_of_le low four
    exact ⟨stored fmt i (w f), by simp [found], fun z => by simp only [putFeeder, setNumbered, found, same]⟩
  have first : i ≤ 1 → i = 1 := fun h => Nat.le_antisymm h low
  cases c with
  | group =>
    change i ≤ 8 at high
    change 1 ≤ i at low
    obtain ⟨f, found, number⟩ := feederOf_of_le (i := (i + 1) / 2) (by omega) (by omega)
    by_cases odd : i % 2 = 1
    · have group : groupOf i = some (f, .a) := by simp [groupOf, found, odd]
      have index : groupIndex f .a = i := by simp only [groupIndex, number, Letter.code]; omega
      refine ⟨.group (stored groupFormat i (s.workingGroup f .a).group), ?_, rfl, fun im => ?_⟩
      · simp [State.workingRecord, group]
      · simp [State.repairRecord, group, Image.putGroup, Image.putAt, odd, index, setNumbered_some found]
    · have group : groupOf i = some (f, .b) := by simp [groupOf, found, odd]
      have index : groupIndex f .b = i := by simp only [groupIndex, number, Letter.code]; omega
      refine ⟨.group (stored groupFormat i (s.workingGroup f .b).group), ?_, rfl, fun im => ?_⟩
      · simp [State.workingRecord, group]
      · simp [State.repairRecord, group, Image.putGroup, Image.putAt, odd, index, setNumbered_some found]
  | curve => exact ⟨_, rfl, rfl, fun im => rfl⟩
  | fireTable =>
    obtain rfl := first high
    exact ⟨_, rfl, rfl, fun im => rfl⟩
  | exposure =>
    obtain ⟨v, worth, put⟩ := named exposureFormat (feederGet s.fire.exposure) s.fire.exposure ImageRecord.exposure high
      fun _ => rfl
    exact ⟨.exposure v, worth, rfl, fun im => by simp only [State.repairRecord, put]; rfl⟩
  | corridor =>
    obtain ⟨v, worth, put⟩ := named corridorFormat (fun f => (s.holdTable f).corridor) (feederMap HoldTable.corridor s.holds)
      ImageRecord.corridor high fun _ => feederGet_map _ _ _
    exact ⟨.corridor v, worth, rfl, fun im => by simp only [State.repairRecord, put]; rfl⟩
  | unitList =>
    obtain ⟨v, worth, put⟩ := named listFormat (feederGet s.bus.lists) s.bus.lists ImageRecord.unitList high fun _ => rfl
    exact ⟨.unitList v, worth, rfl, fun im => by simp only [State.repairRecord, put]; rfl⟩
  | isolation =>
    obtain rfl := first high
    exact ⟨_, rfl, rfl, fun im => rfl⟩
  | huntBlock => exact ⟨_, rfl, rfl, fun im => rfl⟩
  | holds =>
    obtain ⟨v, worth, put⟩ := named holdsFormat (fun f => retainedHolds (s.holdTable f).list)
      (feederMap (fun k => retainedHolds k.list) s.holds) ImageRecord.holds high fun _ => feederGet_map _ _ _
    exact ⟨.holds v, worth, rfl, fun im => by simp only [State.repairRecord, put]; rfl⟩
  | fireRequests =>
    obtain rfl := first high
    exact ⟨_, rfl, rfl, fun im => rfl⟩

theorem Image.putGroup_eq_putAt (im : Image) (f : Feeder) (l : Letter) (g : SettingGroup) :
    im.putGroup f l g = im.putAt (groupIndex f l) (.group (stored groupFormat (groupIndex f l) g)) := by
  cases f <;> cases l <;> rfl

/-- A run of hunt block writes puts each block in its place. -/
theorem Image.foldl_hunt (im : Image) (l : List (Nat × HuntBlock)) :
    { im with hunt := l.foldl (fun h x => h.set (x.1 - 1) (stored huntFormat x.1 x.2)) im.hunt } =
      l.foldl (fun im x => im.putAt x.1 (.huntBlock (stored huntFormat x.1 x.2))) im := by
  induction l generalizing im with
  | nil => rfl
  | cons x rest ih => exact ih (im.putAt x.1 (.huntBlock (stored huntFormat x.1 x.2)))

theorem getElem?_of_mem_zip_indicesFrom {α : Type} {first i : Nat} {l : List α} {a : α}
    (h : (i, a) ∈ (indicesFrom first l.length).zip l) : l[i - first]? = some a := by
  obtain ⟨k, inside, pair⟩ := List.mem_iff_getElem.1 h
  simp only [List.getElem_zip, indicesFrom_eq_range', List.getElem_range', Prod.mk.injEq] at pair
  obtain ⟨rfl, rfl⟩ := pair
  simp

/-! ### Jobs -/

/-- A write of n records of a job leaves the image in shape, with the first n records carrying what the job writes and every
other as it was. -/
def State.leavesRecords (s : State) (j : StoreJob) (n : Nat) : Prop :=
  (s.writeRecords j n).Shaped ∧ s.imageAfter j n none (s.writeRecords j n)

/-- A job's run of puts over the places of its first n records. -/
theorem State.leavesRecords_of_run {ι : Type} {op : Image → ι → Image} {place : ι → RecordId} {l : List ι} {n : Nat}
    (run : s.writeRecords j n = l.foldl op s.image) (records : l.map place = j.records.take n) (shaped : s.image.Shaped)
    (puts : ∀ i ∈ l, place i ∈ allRecords ∧ ∃ x, s.recordWritten j (place i) = some x ∧ x.cls = (place i).cls ∧
      ∀ im, op im i = im.putAt (place i).index x) : s.leavesRecords j n := by
  obtain ⟨stays, written⟩ := Image.foldl_putAt puts shaped
  rw [State.leavesRecords, run]
  refine ⟨stays, fun q mem _ => ?_⟩
  rw [← records]
  exact written q mem

/-- A job of one record. -/
theorem State.leavesRecords_single {n : Nat} (records : j.records = [r])
    (run : s.writeRecords j n = if n = 0 then s.image else s.image.putAt r.index x)
    (worth : s.recordWritten j r = some x) (cls : x.cls = r.cls) (shaped : s.image.Shaped)
    (places : ∀ r ∈ j.records, r ∈ allRecords) : s.leavesRecords j n := by
  have one : s.writeRecords j n = ([r].take n).foldl (fun im r => im.putAt r.index x) s.image := by
    rw [run]
    cases n <;> simp
  refine State.leavesRecords_of_run (place := id) one (by rw [records, List.map_id]) shaped fun i mem => ?_
  obtain rfl : i = r := List.mem_singleton.1 (List.mem_of_mem_take mem)
  exact ⟨places i (by simp [records]), x, worth, cls, fun _ => rfl⟩

theorem State.leavesRecords_huntBlocks {first : Nat} {blocks : List HuntBlock} (p : Port) (n : Nat) (shaped : s.image.Shaped)
    (places : ∀ r ∈ StoreJob.records (.port p (.huntBlocks first blocks)), r ∈ allRecords) :
    s.leavesRecords (.port p (.huntBlocks first blocks)) n := by
  refine State.leavesRecords_of_run (place := fun x => recordId .huntBlock x.1) (Image.foldl_hunt _ _) ?_ shaped
    fun x mem => ?_
  · have numbers : ((indicesFrom first blocks.length).zip blocks).map Prod.fst = indicesFrom first blocks.length :=
      List.map_fst_zip (by simp [indicesFrom_eq_range'])
    rw [StoreJob.records, ← List.map_take]
    calc _ = ((((indicesFrom first blocks.length).zip blocks).take n).map Prod.fst).map (recordId .huntBlock) :=
          (List.map_map ..).symm
      _ = _ := by rw [List.map_take, numbers]
  · have pair := List.mem_of_mem_take mem
    refine ⟨places _ (List.mem_map_of_mem (List.of_mem_zip pair).1), _, ?_, rfl, fun im => rfl⟩
    simp [State.recordWritten, recordId, getElem?_of_mem_zip_indicesFrom pair]

theorem State.leavesRecords_port (p : Port) (w : PortWrite) (n : Nat) (shaped : s.image.Shaped)
    (places : ∀ r ∈ StoreJob.records (.port p w), r ∈ allRecords) : s.leavesRecords (.port p w) n := by
  cases w with
  | curve i c => exact State.leavesRecords_single rfl rfl rfl rfl shaped places
  | group f l g =>
    exact State.leavesRecords_single rfl (by simp only [recordId, ← Image.putGroup_eq_putAt]; rfl) rfl rfl shaped places
  | fireBlock start values => exact State.leavesRecords_single rfl rfl rfl rfl shaped places
  | restoreTable => exact State.leavesRecords_single rfl rfl rfl rfl shaped places
  | exposure f e =>
    exact State.leavesRecords_single rfl (by simp only [recordId, Image.putAt, setNumbered_number]; rfl) rfl rfl shaped places
  | corridor f c =>
    exact State.leavesRecords_single rfl (by simp only [recordId, Image.putAt, setNumbered_number]; rfl) rfl rfl shaped places
  | unitList f l =>
    exact State.leavesRecords_single rfl (by simp only [recordId, Image.putAt, setNumbered_number]; rfl) rfl rfl shaped places
  | huntBlocks first blocks => exact State.leavesRecords_huntBlocks p n shaped places
  | repair =>
    refine State.leavesRecords_of_run (place := id) rfl (List.map_id _) shaped fun r mem => ?_
    exact ⟨List.mem_of_mem_take mem, s.repairRecord_eq_putAt (List.mem_of_mem_take mem)⟩

/-- The contents that an internal write took, put in the record they are for. -/
theorem Retained.write_eq_putAt (w : Retained) (s : State) (o : RetentionOwner) :
    ∃ x, s.recordWritten (.internal o (some w)) w.record = some x ∧ x.cls = w.record.cls ∧
      ∀ im, w.write im = im.putAt w.record.index x := by
  cases w with
  | holds f l =>
    exact ⟨_, rfl, rfl, fun im => by simp only [Retained.record, recordId, Image.putAt, setNumbered_number]; rfl⟩
  | fireRequests x => exact ⟨_, rfl, rfl, fun im => rfl⟩
  | isolation l => exact ⟨_, rfl, rfl, fun im => rfl⟩

/-- The first n records of a job carry what the job writes, and every other record stays (R178). -/
theorem State.leavesRecords_of_law (n : Nat) (shaped : s.image.Shaped) (places : ∀ r ∈ j.records, r ∈ allRecords)
    (carries : ∀ o taken, j = .internal o taken → taken.map Retained.record = some o.record) : s.leavesRecords j n := by
  cases j with
  | port p w => exact State.leavesRecords_port p w n shaped places
  | internal o taken =>
    cases taken with
    | none => exact absurd (carries o none rfl) (by simp)
    | some w =>
      have record : w.record = o.record := Option.some.inj (carries o (some w) rfl)
      obtain ⟨x, worth, cls, put⟩ := w.write_eq_putAt s o
      exact State.leavesRecords_single (by rw [record]; rfl) (by rw [← put]; rfl) worth cls shaped places

/-- A failing job leaves its first n records written, the next damaged, and every other record (R179). -/
theorem State.spoilRecord_spec (shaped : s.image.Shaped) (places : ∀ r ∈ j.records, r ∈ allRecords)
    (carries : ∀ o taken, j = .internal o taken → taken.map Retained.record = some o.record) {n : Nat}
    (bad : j.records[n]? = some r) :
    s.imageAfter j n (some r) ((s.writeRecords j n).spoil r) ∧
      ∃ x, ((s.writeRecords j n).spoil r).recordAt r = some x ∧ x.passes r.index = false := by
  have place : r ∈ allRecords := places r (List.mem_of_getElem? bad)
  obtain ⟨stays, written⟩ := State.leavesRecords_of_law n shaped places carries
  obtain ⟨x, held, cls⟩ := stays.recordAt place
  rw [Image.spoil_eq_putAt place held]
  have damaged := x.damage_cls.trans cls
  refine ⟨fun q mem ne => ?_, x.damage, Image.recordAt_putAt_same stays place damaged, x.damage_passes _⟩
  rw [Image.recordAt_putAt_other place damaged mem fun same => ne (by rw [same])]
  exact written q mem (by simp)

end Sys2Proof.Machine
end

section
/-! SUPPORT. A write of the store that fails (R178, R179). -/

namespace Sys2Proof.Machine

variable {s t : State} {e x : StoreEntry} {p q : Port} {w : PortWrite} {o : RetentionOwner}

/-! ### Requests in flight -/

/-- Two contents of a port with the same request and the same control counter. -/
def PortState.sameRequest (q r : PortState) : Prop := r.slot = q.slot ∧ r.orphan = q.orphan ∧ r.counter = q.counter

theorem PortState.sameRequest_refl (q : PortState) : q.sameRequest q := ⟨rfl, rfl, rfl⟩

theorem PortState.sameRequest.trans {q r u : PortState} (h : q.sameRequest r) (k : r.sameRequest u) : q.sameRequest u := by
  obtain ⟨slot, orphan, counter⟩ := h
  obtain ⟨slot', orphan', counter'⟩ := k
  exact ⟨slot'.trans slot, orphan'.trans orphan, counter'.trans counter⟩

/-- An answer at a port whose request is in flight is built with the counter as it stood. -/
theorem State.reply_ready {code : Byte} (same : (s.port p).sameRequest (t.port p)) (slot : (s.port p).slot = .inFlight code)
    (orphan : (s.port p).orphan = false) (st : Status) :
    ((t.reply p st).port p).slot =
      .ready { status := st, code := code, counter := (s.port p).counter, data := [] } := by
  obtain ⟨slot', orphan', counter'⟩ := same
  rw [State.reply_port_self, PortState.answer_inFlight _ _ _ code (orphan'.trans orphan) (slot'.trans slot), counter']

/-! ### How an entry of a failing queue completes -/

/-- The answer to a port write whose queue fails (R179). -/
def PortWrite.failStatus : PortWrite → Status
  | .unitList _ _ => .acceptedVolatile
  | .huntBlocks _ _ => .acceptedVolatile
  | _ => .storeFault

theorem State.jobFailed_port (job : e.job = .port p w) (s : State) : s.jobFailed e = s.reply p w.failStatus := by
  unfold State.jobFailed
  cases w <;> simp only [job] <;> rfl

theorem State.jobFailed_internal {taken : Option Retained} (job : e.job = .internal o taken) (s : State) :
    s.jobFailed e = s.setPendingMark o false := by
  unfold State.jobFailed
  simp only [job]

/-- A completion with a failure answers a port or clears a mark. -/
theorem State.jobFailed_cases (s : State) (e : StoreEntry) :
    (∃ p st, s.jobFailed e = s.reply p st) ∨ ∃ o, s.jobFailed e = s.setPendingMark o false := by
  rcases job : e.job with ⟨p, w⟩ | ⟨o, taken⟩
  · exact .inl ⟨p, w.failStatus, State.jobFailed_port job s⟩
  · exact .inr ⟨o, State.jobFailed_internal job s⟩

/-- What every completion of a failing queue keeps, the whole queue's keep. -/
theorem State.foldl_jobFailed {P : State → Prop} (answered : ∀ s p st, P s → P (s.reply p st))
    (cleared : ∀ s o, P s → P (s.setPendingMark o false)) (h : P s) (l : List StoreEntry) :
    P (l.foldl State.jobFailed s) := by
  induction l generalizing s with
  | nil => exact h
  | cons e rest ih =>
    refine ih ?_
    obtain ⟨p, st, reply⟩ | ⟨o, clear⟩ := s.jobFailed_cases e
    · rw [reply]; exact answered s p st h
    · rw [clear]; exact cleared s o h

theorem State.foldl_jobFailed_store (s : State) (l : List StoreEntry) : (l.foldl State.jobFailed s).store = s.store :=
  State.foldl_jobFailed (P := fun t => t.store = s.store) (fun _ _ _ h => h) (fun t o h => by cases o <;> exact h) rfl l

theorem State.foldl_jobFailed_image (s : State) (l : List StoreEntry) : (l.foldl State.jobFailed s).image = s.image :=
  State.foldl_jobFailed (P := fun t => t.image = s.image) (fun _ _ _ h => h) (fun t o h => by cases o <;> exact h) rfl l

theorem State.foldl_jobFailed_log (s : State) (l : List StoreEntry) : (l.foldl State.jobFailed s).log = s.log :=
  State.foldl_jobFailed (P := fun t => t.log = s.log) (fun _ _ _ h => h) (fun t o h => by cases o <;> exact h) rfl l

theorem State.flagSet.reply {fl : AttentionFlag} (h : s.flagSet fl) (p : Port) (st : Status) : (s.reply p st).flagSet fl := by
  intro q
  rw [State.reply, State.respond, State.setPort_port]
  split
  · next same => subst same; simpa [PortState.hasFlag] using h q
  · exact h q

theorem State.setPendingMark_port (s : State) (o : RetentionOwner) (m : Bool) (p : Port) :
    (s.setPendingMark o m).port p = s.port p := by cases o <;> rfl

theorem State.flagSet.setPendingMark {fl : AttentionFlag} (h : s.flagSet fl) (o : RetentionOwner) (m : Bool) :
    (s.setPendingMark o m).flagSet fl := fun p => by rw [State.setPendingMark_port]; exact h p

/-! ### Marks and answers of a failing queue -/

theorem State.reply_pendingMark (s : State) (p : Port) (st : Status) (o : RetentionOwner) :
    (s.reply p st).pendingMark o = s.pendingMark o := by cases o <;> rfl

theorem State.setPendingMark_pendingMark (s : State) (o : RetentionOwner) (m : Bool) :
    (s.setPendingMark o m).pendingMark o = m := by
  cases o <;> simp [State.setPendingMark, State.pendingMark]

theorem State.setPendingMark_pendingMark_false {o' : RetentionOwner} (h : s.pendingMark o = false) :
    (s.setPendingMark o' false).pendingMark o = false := by
  cases o with
  | holds f =>
    cases o' with
    | holds g =>
      by_cases same : f = g
      · subst same; exact State.setPendingMark_pendingMark s (.holds f) false
      · exact (congrArg HoldTable.pendingMark (State.setHoldTable_holdTable_ne s same _)).trans h
    | fireRequests => exact h
    | isolation => exact h
  | fireRequests =>
    cases o' with
    | holds g => exact h
    | fireRequests => rfl
    | isolation => exact h
  | isolation =>
    cases o' with
    | holds g => exact h
    | fireRequests => exact h
    | isolation => rfl

/-- Every owner whose write stood in the failing queue has its mark cleared (R179). -/
theorem State.foldl_jobFailed_pendingMark {l : List StoreEntry} {taken : Option Retained} (mem : x ∈ l)
    (job : x.job = .internal o taken) (s : State) : (l.foldl State.jobFailed s).pendingMark o = false := by
  induction l generalizing s with
  | nil => exact absurd mem List.not_mem_nil
  | cons e rest ih =>
    obtain rfl | later := List.mem_cons.1 mem
    · refine State.foldl_jobFailed (P := fun t => t.pendingMark o = false) (fun s p st h => ?_) (fun s o' h => ?_) ?_ rest
      · rw [State.reply_pendingMark]; exact h
      · exact State.setPendingMark_pendingMark_false h
      · rw [State.jobFailed_internal job]; exact State.setPendingMark_pendingMark _ _ _
    · exact ih later _

/-- A port without a request in flight keeps its slot through a failing queue. -/
theorem State.foldl_jobFailed_slot (orphan : (s.port p).orphan = false) (slot : (s.port p).slot.isInFlight = false)
    (l : List StoreEntry) : (l.foldl State.jobFailed s).port p = s.port p := by
  refine State.foldl_jobFailed (P := fun t => t.port p = s.port p) (fun t q st h => ?_) (fun t o h => ?_) rfl l
  · rw [State.reply, State.respond, State.setPort_port]
    split
    · next same =>
      subst same
      rw [h]
      exact PortState.answer_other _ _ _ orphan slot
    · exact h
  · rw [State.setPendingMark_port]
    exact h

/-- A port with one kind of write in a failing queue has its request answered once (R179). -/
theorem State.foldl_jobFailed_answer {l : List StoreEntry} {code : Byte} (queued : ∃ x ∈ l, x.job = .port p w)
    (alike : ∀ x ∈ l, ∀ w', x.job = .port p w' → w' = w) (same : (s.port p).sameRequest (t.port p))
    (slot : (s.port p).slot = .inFlight code) (orphan : (s.port p).orphan = false) :
    ((l.foldl State.jobFailed t).port p).slot =
      .ready { status := w.failStatus, code := code, counter := (s.port p).counter, data := [] } := by
  induction l generalizing t with
  | nil =>
    obtain ⟨x, mem, -⟩ := queued
    exact absurd mem List.not_mem_nil
  | cons e rest ih =>
    have passes : (∀ w', e.job ≠ .port p w') → (s.port p).sameRequest ((t.jobFailed e).port p) →
        ((rest.foldl State.jobFailed (t.jobFailed e)).port p).slot =
          .ready { status := w.failStatus, code := code, counter := (s.port p).counter, data := [] } := fun other kept => by
      refine ih ?_ (fun x mem => alike x (List.mem_cons_of_mem e mem)) kept
      obtain ⟨x, mem, job⟩ := queued
      obtain rfl | later := List.mem_cons.1 mem
      · exact absurd job (other w)
      · exact ⟨x, later, job⟩
    rcases job : e.job with ⟨q, v⟩ | ⟨o, taken⟩
    · by_cases here : q = p
      · subst here
        obtain rfl := alike e List.mem_cons_self v job
        have ready := State.reply_ready same slot orphan v.failStatus
        rw [List.foldl_cons, State.jobFailed_port job, State.foldl_jobFailed_slot]
        · exact ready
        · obtain ⟨slot', orphan', -⟩ := same
          rw [State.reply_port_self, PortState.answer_inFlight _ _ _ code (orphan'.trans orphan) (slot'.trans slot)]
          exact orphan'.trans orphan
        · rw [ready]; rfl
      · refine passes (fun w' job' => here ?_) ?_
        · rw [job] at job'
          cases job'
          rfl
        · rw [State.jobFailed_port job, State.reply_port_ne _ (Ne.symm here)]
          exact same
    · refine passes (fun w' job' => ?_) ?_
      · rw [job] at job'
        cases job'
      · rw [State.jobFailed_internal job, State.setPendingMark_port]
        exact same

/-! ### The failed write whole -/

theorem State.dropFixed_eq (s : State) : ∃ r, s.dropFixed = { s with restart := r } := by
  unfold State.dropFixed
  split
  · exact ⟨_, rfl⟩
  · exact ⟨s.restart, rfl⟩

/-- The state in which the entries of a failing queue complete: the fault, its record and its flag (R179). -/
def State.faultSaid (s : State) (e : StoreEntry) (n : Nat) (bad : RecordId) : State :=
  (((s.setImage ((s.writeRecords e.job n).spoil bad)).setStore
    { fault := some .write
      damaged := if s.store.damaged.contains bad then s.store.damaged else s.store.damaged ++ [bad]
      queue := [] }).append none (.block .settingStore) (.storeFaultWrite bad)).setFlag .store

theorem State.writeFailed_eq (s : State) (e : StoreEntry) (n : Nat) (bad : RecordId) :
    ∃ r, s.writeFailed e n bad = { s.store.queue.foldl State.jobFailed (s.faultSaid e n bad) with restart := r } :=
  State.dropFixed_eq _

theorem State.faultSaid_port (s : State) (e : StoreEntry) (n : Nat) (bad : RecordId) (p : Port) :
    (s.port p).sameRequest ((s.faultSaid e n bad).port p) := by
  simp [PortState.sameRequest, State.faultSaid]

theorem mem_damaged (l : List RecordId) (r : RecordId) : r ∈ if l.contains r then l else l ++ [r] := by
  split
  · next known => exact List.contains_iff_mem.1 known
  · exact List.mem_append_right _ (List.mem_singleton.2 rfl)

theorem State.Within.jobFailed {l : List Part} (h : s.Within l none t) (holds : .holds ∈ l) (fire : .fire ∈ l) (bus : .bus ∈ l)
    (ports : .ports ∈ l) (e : StoreEntry) : s.Within l none (t.jobFailed e) := by
  obtain ⟨p, st, reply⟩ | ⟨o, clear⟩ := t.jobFailed_cases e
  · rw [reply]; exact h.respond ports p st []
  · rw [clear]
    refine h.setPendingMark o ?_ ?_ false
    · cases o <;> assumption
    · cases o <;> simp [RetentionOwner.fits]

theorem State.writeFailed_changesOnly (s : State) (e : StoreEntry) (n : Nat) (bad : RecordId) :
    s.changesOnly [.holds, .fire, .bus, .log, .store, .image, .ports, .restart] (s.writeFailed e n bad) := by
  obtain ⟨r, failed⟩ := s.writeFailed_eq e n bad
  have said : s.Within [.holds, .fire, .bus, .log, .store, .image, .ports, .restart] none (s.faultSaid e n bad) :=
    ((((State.Within.refl s _ none).setImage (by decide) _).setStore (by decide) _).append (by decide) (by decide) _ _
      _).setFlag (by decide) _
  have completed : s.Within [.holds, .fire, .bus, .log, .store, .image, .ports, .restart] none
      (s.store.queue.foldl State.jobFailed (s.faultSaid e n bad)) := by
    generalize s.store.queue = l
    generalize s.faultSaid e n bad = t at said
    induction l generalizing t with
    | nil => exact said
    | cons x rest ih => exact ih _ (said.jobFailed (by decide) (by decide) (by decide) (by decide) x)
  rw [failed]
  refine State.changesOnly_trans completed.parts (State.changesOnly_mono (l := [.restart]) (fun y out => ?_) (by decide))
  cases y <;> simp [State.agree] at out ⊢

/-- A record that reads back wrong twice puts the store in its fault state and answers the whole queue (R179). -/
theorem State.writeFailed_spec (s : State) (e : StoreEntry) (n : Nat) (bad : RecordId) :
    (s.writeFailed e n bad).store.fault = some .write ∧ bad ∈ (s.writeFailed e n bad).store.damaged ∧
      (s.writeFailed e n bad).store.queue = [] ∧ (s.writeFailed e n bad).flagSet .store ∧
      (s.writeFailed e n bad).image = (s.writeRecords e.job n).spoil bad ∧
      (s.writeFailed e n bad).lastRecord none (.block .settingStore) s.stamp (.storeFaultWrite bad) := by
  obtain ⟨r, failed⟩ := s.writeFailed_eq e n bad
  have store := State.foldl_jobFailed_store (s.faultSaid e n bad) s.store.queue
  have flag : (s.store.queue.foldl State.jobFailed (s.faultSaid e n bad)).flagSet .store :=
    State.foldl_jobFailed (P := fun t => t.flagSet .store) (fun _ p st h => h.reply p st)
      (fun _ o h => h.setPendingMark o false) (State.flagSet_setFlag _ _) _
  rw [failed]
  refine ⟨?_, ?_, ?_, flag, ?_, ?_⟩
  · change (s.store.queue.foldl State.jobFailed (s.faultSaid e n bad)).store.fault = _
    rw [store]
    simp [State.faultSaid]
  · change bad ∈ (s.store.queue.foldl State.jobFailed (s.faultSaid e n bad)).store.damaged
    rw [store]
    simpa [State.faultSaid] using mem_damaged s.store.damaged bad
  · change (s.store.queue.foldl State.jobFailed (s.faultSaid e n bad)).store.queue = _
    rw [store]
    simp [State.faultSaid]
  · exact (State.foldl_jobFailed_image _ _).trans (by simp [State.faultSaid])
  · refine State.lastRecord_congr (State.foldl_jobFailed_log _ _) (State.lastRecord_congr rfl ?_)
    exact State.lastRecord_append _ _ _ _

end Sys2Proof.Machine
end

section
/-! SUPPORT. What the completion of a port write leaves: its contents in the working set, its record in the log and its port's
answer, through the recomputations that follow (R28, R103, R113, R116, R117, R125, R178). -/

namespace Sys2Proof.Machine

variable {s t u : State} {f g : Feeder} {p : Port}

/-! ### Recomputation (R120) -/

/-- From s to t the effective settings, the site level and the mark of the fire controller may have moved, and the image
stands. -/
structure State.Recomputed (s t : State) : Prop where
  fire : ∃ e l m, t.fire = { s.fire with effective := e, site := l, pendingMark := m }
  image : t.image = s.image

theorem State.Recomputed.refl (s : State) : s.Recomputed s := ⟨⟨_, _, _, rfl⟩, rfl⟩

theorem State.Recomputed.trans (h : s.Recomputed t) (k : t.Recomputed u) : s.Recomputed u := by
  obtain ⟨⟨e, l, m, first⟩, image⟩ := h
  obtain ⟨⟨e', l', m', second⟩, image'⟩ := k
  exact ⟨⟨e', l', m', by rw [second, first]⟩, image'.trans image⟩

theorem State.Steady.recomputed (h : s.Steady t) : s.Recomputed t := by
  obtain ⟨m, fire⟩ := h.fire
  exact ⟨⟨_, _, m, fire⟩, h.image⟩

theorem State.Recomputed.steady (h : s.Recomputed t) (k : t.Steady u) : s.Recomputed u := h.trans k.recomputed

theorem State.Recomputed.push (h : s.Recomputed t) (f : Feeder) (old new : Effective) : s.Recomputed (t.push f old new) := by
  have put : ∀ x, s.Recomputed (t.setUnit f x) := fun _ => ⟨h.fire, h.image⟩
  unfold State.push
  dsimp only
  split
  · exact (put _).steady (((State.Steady.refl _).record _ _ _).setFlag _)
  · exact put _

theorem State.Recomputed.recomputeFeeder (h : s.Recomputed t) (c : FireCause) (f : Feeder) :
    s.Recomputed (State.recomputeFeeder c t f) := by
  have put : t.Recomputed (t.setEffective f (t.computeEffective f)) := ⟨⟨_, _, _, rfl⟩, rfl⟩
  exact h.trans (((put.steady (((State.Steady.refl _).levelChanged _ _ _).reconcileFire _)).push _ _ _).steady
    (State.Steady.refl _).huntRecheck)

theorem State.Recomputed.findSite (h : s.Recomputed t) : s.Recomputed t.findSite := h.trans ⟨⟨_, _, _, rfl⟩, rfl⟩

theorem State.Recomputed.recomputeAll (h : s.Recomputed t) (c : FireCause) : s.Recomputed (t.recomputeAll c) :=
  (((h.findSite.recomputeFeeder c .f1).recomputeFeeder c .f2).recomputeFeeder c .f3).recomputeFeeder c .f4

theorem State.Recomputed.recomputeOne (h : s.Recomputed t) (f : Feeder) (c : FireCause) : s.Recomputed (t.recomputeOne f c) :=
  h.findSite.recomputeFeeder c f

/-! ### Records that stay in the log (R173) -/

/-- A record stands in the log with at most n behind it. -/
def Log.holdsWithin (l : Log) (r : LogRecord) (n : Nat) : Prop :=
  ∃ older newer, l.records = older ++ r :: newer ∧ newer.length ≤ n

theorem Log.holdsWithin.mem {l : Log} {r : LogRecord} {n : Nat} (h : l.holdsWithin r n) : r ∈ l.records := by
  obtain ⟨older, newer, records, -⟩ := h
  simp [records]

theorem Log.appended_room {l : Log} (room : l.records.length < logCapacity) (now : Stamp) (x : Option Feeder)
    (b : RecordSource) (d : Details) :
    (l.appended now x b d).records =
      l.records ++ [{ seq := l.next, stamp := now, feeder := x, source := b, details := d }] := by
  simp [Log.appended, room]

theorem Log.appended_full {l : Log} (full : ¬ l.records.length < logCapacity) (now : Stamp) (x : Option Feeder)
    (b : RecordSource) (d : Details) :
    (l.appended now x b d).records =
      l.records.tail ++ [{ seq := l.next, stamp := now, feeder := x, source := b, details := d }] := by
  simp [Log.appended, full]

/-- An append drops the oldest record of a full log: not one with fewer than 127 behind it. -/
theorem Log.holdsWithin.appended {l : Log} {r : LogRecord} {n : Nat} (h : l.holdsWithin r n) (room : n + 1 < logCapacity)
    (now : Stamp) (x : Option Feeder) (b : RecordSource) (d : Details) : (l.appended now x b d).holdsWithin r (n + 1) := by
  obtain ⟨older, newer, records, few⟩ := h
  have longer : (newer ++ [({ seq := l.next, stamp := now, feeder := x, source := b, details := d } : LogRecord)]).length
      ≤ n + 1 := by simpa using few
  by_cases full : l.records.length < logCapacity
  · exact ⟨older, _, by rw [Log.appended_room full, records]; simp, longer⟩
  rcases older with _ | ⟨y, rest⟩
  · exact absurd (by rw [records]; simp; omega) full
  · exact ⟨rest, _, by rw [Log.appended_full full, records]; simp, longer⟩

theorem Log.appended_holdsWithin (l : Log) (now : Stamp) (x : Option Feeder) (b : RecordSource) (d : Details) :
    (l.appended now x b d).holdsWithin { seq := l.next, stamp := now, feeder := x, source := b, details := d } 0 :=
  ⟨_, [], rfl, le_rfl⟩

/-! ### Events that append few records -/

/-- From s to t at most k records were appended, no request was answered and the hunt engine stands. -/
structure State.Appends (k : Nat) (s t : State) : Prop where
  hunt : t.hunt = s.hunt
  requests : ∀ p, (s.port p).sameRequest (t.port p)
  log : ∀ r n, n + k < logCapacity → s.log.holdsWithin r n → t.log.holdsWithin r (n + k)

variable {k m : Nat}

theorem State.Appends.refl (s : State) : State.Appends 0 s s :=
  ⟨rfl, fun _ => PortState.sameRequest_refl _, fun _ _ _ h => h⟩

theorem State.Appends.trans (h : State.Appends k s t) (l : State.Appends m t u) : State.Appends (k + m) s u where
  hunt := l.hunt.trans h.hunt
  requests p := (h.requests p).trans (l.requests p)
  log r n room held := by
    have := l.log r (n + k) (by omega) (h.log r n (by omega) held)
    rwa [Nat.add_assoc] at this

theorem State.Appends.mono (h : State.Appends k s t) (le : k ≤ m) : State.Appends m s t := by
  refine ⟨h.hunt, h.requests, fun r n room held => ?_⟩
  obtain ⟨older, newer, records, few⟩ := h.log r n (by omega) held
  exact ⟨older, newer, records, by omega⟩

/-- An event outside the hunt engine, the ports and the log. -/
theorem State.Appends.of_same (hunt : t.hunt = s.hunt) (ports : t.ports = s.ports) (log : t.log = s.log) :
    State.Appends 0 s t := by
  refine ⟨hunt, fun p => ?_, fun r n _ held => log ▸ held⟩
  have port : t.port p = s.port p := by rw [State.port, State.port, ports]
  rw [port]
  exact PortState.sameRequest_refl _

theorem State.append_appends (s : State) (x : Option Feeder) (b : RecordSource) (d : Details) :
    State.Appends 1 s (s.append x b d) := by
  refine ⟨by simp, fun p => by simp [PortState.sameRequest], fun r n room held => ?_⟩
  rw [State.append_log]
  exact held.appended room _ _ _ _

theorem State.setFlag_appends (fl : AttentionFlag) (s : State) : State.Appends 0 s (s.setFlag fl) :=
  ⟨by simp, fun p => by simp [PortState.sameRequest], fun r n _ held => by simpa using held⟩

/-- A record and its flag. -/
theorem State.appendFlag_appends (s : State) (x : Option Feeder) (b : RecordSource) (d : Details) (fl : AttentionFlag) :
    State.Appends 1 s ((s.append x b d).setFlag fl) := (s.append_appends x b d).trans (State.setFlag_appends fl _)

theorem State.lockout_appends (s : State) (f : Feeder) (r : LockoutReason) (x : Option CloseRefusal) :
    State.Appends 1 s (s.lockout f r x) :=
  (State.Appends.of_same (s := s) (t := s.setSequencer f _) rfl rfl rfl |>.trans (State.appendFlag_appends _ _ _ _ _)).mono
    (by omega)

theorem State.sequencerPlacement_appends (s : State) (f : Feeder) : State.Appends 1 s (s.sequencerPlacement f) := by
  unfold State.sequencerPlacement
  split
  · exact s.lockout_appends _ _ _
  · exact (State.Appends.refl s).mono (by omega)

/-- A placement of an entry that is neither HUNT nor retained, as FIRE is, requests no write (R92). -/
theorem State.placed_transient {h : Hold} (other : h.owner ≠ .hunt) (transient : h.isRetained = false) (s : State) (f : Feeder)
    (r : Bool) (p : Option Port) (a : Option Feeder) :
    s.placed f h r p a =
      ((s.append (some f) (sourceOf p .holdTable)
        (.holdPlaced h r p (s.holdTable f).list.length a)).setFlag .holds).sequencerPlacement f := by
  simp [State.placed, other, transient]

theorem State.placeFire_appends (s : State) (f : Feeder) : State.Appends 2 s (s.placeFire f) := by
  unfold State.placeFire State.placeAutomatic
  split
  · exact (State.Appends.refl s).mono (by omega)
  · have joined : State.Appends 0 s (s.setHoldTable f
        { s.holdTable f with list := (s.holdTable f).list ++ [s.automaticHold .fire .reclose 0] }) := .of_same rfl rfl rfl
    rw [State.placeHold, State.placed_transient (by simp [State.automaticHold]) rfl]
    exact (joined.trans (State.appendFlag_appends _ _ _ _ _)).trans (State.sequencerPlacement_appends _ _)

/-- A hunt that is not paused makes nothing of a recomputation or a removal (R156). -/
theorem State.huntRecheck_notPaused (running : s.hunt.state ≠ .paused) (f : Feeder) : s.huntRecheck f = s :=
  State.huntRecheck_idle (by simp [State.huntIs, running])

theorem State.removeFire_appends (running : s.hunt.state ≠ .paused) (f : Feeder) : State.Appends 1 s (s.removeFire f) := by
  unfold State.removeFire
  split
  · next h found =>
    have owner : h.owner = .fire := by simpa using List.find?_some found
    have gone : State.Appends 0 s (s.setHoldTable f { s.holdTable f with list := (s.holdTable f).list.erase h }) :=
      .of_same rfl rfl rfl
    have off : State.Appends 1 s (s.takeOffHold f h .fireLevel none) := by
      simp only [State.takeOffHold, owner]
      exact gone.trans (State.appendFlag_appends _ _ _ _ _)
    rw [State.removeHold, State.huntRecheck_notPaused (by rw [off.hunt]; exact running), State.retainAfter, if_neg]
    · exact off
    · simp [Hold.isRetained, owner, Owner.isMaster]
  · exact (State.Appends.refl s).mono (by omega)

theorem State.levelChanged_appends (s : State) (f : Feeder) (old new : Effective) (c : FireCause) :
    State.Appends 1 s (s.levelChanged f old new c) := by
  unfold State.levelChanged
  split
  · exact (State.Appends.refl s).mono (by omega)
  · exact State.appendFlag_appends _ _ _ _ _

theorem State.push_appends (s : State) (f : Feeder) (old new : Effective) : State.Appends 1 s (s.push f old new) := by
  have put : ∀ x, State.Appends 0 s (s.setUnit f x) := fun _ => .of_same rfl rfl rfl
  unfold State.push
  dsimp only
  split
  · exact (put _).trans (State.appendFlag_appends _ _ _ _ _)
  · exact (put _).mono (by omega)

theorem State.reconcileFire_appends (running : s.hunt.state ≠ .paused) (f : Feeder) (e : Effective) :
    State.Appends 2 s (s.reconcileFire f e) := by
  unfold State.reconcileFire
  split
  · exact s.placeFire_appends f
  · exact (State.removeFire_appends running f).mono (by omega)

/-- A recomputation appends at most the records of its level, of its FIRE entry, of a lockout and of the baseline (R120). -/
theorem State.recomputeFeeder_appends (running : s.hunt.state ≠ .paused) (c : FireCause) (f : Feeder) :
    State.Appends 4 s (State.recomputeFeeder c s f) := by
  have put : State.Appends 0 s (s.setEffective f (s.computeEffective f)) := .of_same rfl rfl rfl
  have level := put.trans (State.levelChanged_appends _ f (s.effective f) (s.computeEffective f) c)
  have held := level.trans
    (State.reconcileFire_appends (by rw [level.hunt]; exact running) f (s.computeEffective f))
  have pushed := held.trans (State.push_appends _ f (s.effective f) (s.computeEffective f))
  rw [State.recomputeFeeder, State.huntRecheck_notPaused (by rw [pushed.hunt]; exact running)]
  exact pushed

theorem State.findSite_appends (s : State) : State.Appends 0 s s.findSite := .of_same rfl rfl rfl

theorem State.recomputeOne_appends (running : s.hunt.state ≠ .paused) (f : Feeder) (c : FireCause) :
    State.Appends 4 s (s.recomputeOne f c) :=
  s.findSite_appends.trans (State.recomputeFeeder_appends (s := s.findSite) running c f)

theorem State.recomputeAll_appends (running : s.hunt.state ≠ .paused) (c : FireCause) :
    State.Appends 16 s (s.recomputeAll c) := by
  have step : ∀ {t k}, State.Appends k s t → ∀ f, State.Appends (k + 4) s (State.recomputeFeeder c t f) := fun h f =>
    h.trans (State.recomputeFeeder_appends (by rw [h.hunt]; exact running) c f)
  exact step (step (step (step s.findSite_appends .f1) .f2) .f3) .f4

end Sys2Proof.Machine
end

section
/-! SUPPORT. What the owner of a completed port write does, a repair's retention writes included (R178, R182). -/

namespace Sys2Proof.Machine

variable {s t : State} {p : Port} {w : PortWrite} {e : StoreEntry} {o : RetentionOwner} {f : Feeder}

/-! ### A port write's contents, record and recomputation (R28, R103, R113, R116, R117, R125) -/

/-- The working set with the contents of a completed port write. -/
def State.applied (s : State) : PortWrite → State
  | .curve n c => s.setFire { s.fire with curves := s.fire.curves.set (n - 1) c }
  | .group f l g => s.setFire
      { s.fire with
        groups := feederSet s.fire.groups f ((feederGet s.fire.groups f).set l { group := g, fallback := false }) }
  | .fireBlock start values =>
    s.setFire { s.fire with table := writeFields s.fire.table start values, replaced := false }
  | .restoreTable => s.setFire { s.fire with table := fixedTable, replaced := false }
  | .exposure f e => s.setFire { s.fire with exposure := feederSet s.fire.exposure f e }
  | .corridor f c => s.setHoldTable f { s.holdTable f with corridor := c }
  | _ => s

/-- The recomputation that the completion of a port write asks for. -/
def State.recomputedFor (s : State) (p : Port) : PortWrite → State
  | .curve _ _ => s.recomputeAll noCause
  | .group f _ _ => s.recomputeOne f noCause
  | .fireBlock _ _ => s.recomputeAll noCause
  | .restoreTable => s.recomputeAll noCause
  | .exposure f _ => s.recomputeOne f { cause := some .exposure, port := some p }
  | _ => s

/-- But for a repair, the contents take effect, the record is appended, the settings are recomputed and the port is
answered. -/
theorem State.portWriteDone_eq (other : w ≠ .repair) (s : State) (p : Port) :
    s.portWriteDone p w =
      (((s.applied w).append (s.writtenRecord p w).1 (.port p) (s.writtenRecord p w).2).recomputedFor p w).reply p
        .accepted := by
  cases w with
  | repair => exact absurd rfl other
  | _ => rfl

theorem State.recomputedFor_recomputed (s : State) (p : Port) (w : PortWrite) : s.Recomputed (s.recomputedFor p w) := by
  cases w with
  | curve n c => exact (State.Recomputed.refl s).recomputeAll _
  | group f l g => exact (State.Recomputed.refl s).recomputeOne _ _
  | fireBlock start values => exact (State.Recomputed.refl s).recomputeAll _
  | restoreTable => exact (State.Recomputed.refl s).recomputeAll _
  | exposure f e => exact (State.Recomputed.refl s).recomputeOne _ _
  | _ => exact .refl s

theorem State.recomputedFor_appends (running : s.hunt.state ≠ .paused) (p : Port) (w : PortWrite) :
    State.Appends 16 s (s.recomputedFor p w) := by
  cases w with
  | curve n c => exact State.recomputeAll_appends running _
  | group f l g => exact (State.recomputeOne_appends running _ _).mono (by omega)
  | fireBlock start values => exact State.recomputeAll_appends running _
  | restoreTable => exact State.recomputeAll_appends running _
  | exposure f e => exact (State.recomputeOne_appends running _ _).mono (by omega)
  | _ => exact (State.Appends.refl s).mono (by omega)

theorem State.applied_appends (s : State) (w : PortWrite) : State.Appends 0 s (s.applied w) := by
  cases w <;> exact .of_same rfl rfl rfl

theorem State.applied_stamp (s : State) (w : PortWrite) : (s.applied w).stamp = s.stamp := by cases w <;> rfl

theorem State.applied_image (s : State) (w : PortWrite) : (s.applied w).image = s.image := by cases w <;> rfl

/-! ### A repair (R182) -/

/-- The owners of internal writes, in the order a repair asks them. -/
def allOwners : List RetentionOwner := [.holds .f1, .holds .f2, .holds .f3, .holds .f4, .fireRequests, .isolation]

theorem mem_allOwners (o : RetentionOwner) : o ∈ allOwners := by
  cases o with
  | holds f => cases f <;> simp [allOwners]
  | fireRequests => simp [allOwners]
  | isolation => simp [allOwners]

/-- The fault state left, with its record and its flag (R182). -/
def State.mended (s : State) : State :=
  ((s.setStore { s.store with fault := none, damaged := [] }).append none (.block .settingStore) .storeFaultCleared).setFlag
    .store

theorem State.repaired_eq (s : State) (p : Port) :
    s.repaired p = (allOwners.foldl State.requestRetention s.mended).reply p .accepted := rfl

theorem State.beginHead_ports (s : State) : s.beginHead.ports = s.ports := by
  unfold State.beginHead
  split
  · rfl
  split
  · rfl
  split
  · rfl
  · next o _ _ => cases o <;> rfl

theorem State.requestRetention_ports (s : State) (o : RetentionOwner) : (s.requestRetention o).ports = s.ports := by
  unfold State.requestRetention
  split
  · rfl
  split
  · rfl
  · rw [State.storeEnqueue, State.beginHead_ports]
    cases o <;> rfl

theorem State.requestRetention_log (s : State) (o : RetentionOwner) : (s.requestRetention o).log = s.log := by
  unfold State.requestRetention
  split
  · rfl
  split
  · rfl
  · rw [State.storeEnqueue_log]
    cases o <;> rfl

/-- The retention requests of a repair leave hunt engine, ports and log. -/
theorem State.foldl_requestRetention_same (s : State) (l : List RetentionOwner) :
    (l.foldl State.requestRetention s).hunt = s.hunt ∧ (l.foldl State.requestRetention s).ports = s.ports ∧
      (l.foldl State.requestRetention s).log = s.log := by
  induction l generalizing s with
  | nil => exact ⟨rfl, rfl, rfl⟩
  | cons o rest ih =>
    obtain ⟨hunt, ports, log⟩ := ih (s.requestRetention o)
    exact ⟨hunt.trans (s.requestRetention_hunt o), ports.trans (s.requestRetention_ports o),
      log.trans (s.requestRetention_log o)⟩

/-- The store is healthy and its head has begun, so nothing that joins its queue begins. -/
def State.storeWriting (s : State) : Prop := s.store.fault = none ∧ ∃ e rest, s.store.queue = e :: rest ∧ e.begun = true

/-- A retention write joins the queue of a healthy store at work, unless its mark stands (R104, R126, R146). -/
theorem State.requestRetention_writing (h : s.storeWriting) (mark : s.pendingMark o = false) :
    s.requestRetention o =
      (s.setPendingMark o true).setStore
        { s.store with queue := s.store.queue ++ [{ job := .internal o none, begun := false }] } := by
  obtain ⟨fault, e, rest, queue, begun⟩ := h
  have store : (s.setPendingMark o true).store = s.store := by cases o <;> rfl
  simp [State.requestRetention, fault, mark, State.storeEnqueue, State.beginHead, store, queue, begun]

theorem State.requestRetention_marked (mark : s.pendingMark o = true) : s.requestRetention o = s := by
  simp [State.requestRetention, mark]

/-- A retention write of an owner waits behind the head. -/
def State.retentionWaits (s : State) (o : RetentionOwner) : Prop :=
  ∃ x ∈ s.store.queue.tail, x.job = .internal o none

theorem State.storeWriting.requestRetention (h : s.storeWriting) (o : RetentionOwner) :
    (s.requestRetention o).storeWriting ∧ (s.requestRetention o).store.damaged = s.store.damaged := by
  by_cases mark : s.pendingMark o = true
  · rw [State.requestRetention_marked mark]
    exact ⟨h, rfl⟩
  · rw [State.requestRetention_writing h (Bool.eq_false_iff.2 mark)]
    obtain ⟨fault, e, rest, queue, begun⟩ := h
    exact ⟨⟨fault, e, rest ++ [{ job := .internal o none, begun := false }], by simp [queue], begun⟩, rfl⟩

theorem State.retentionWaits.requestRetention (waits : s.retentionWaits o) (h : s.storeWriting) (o' : RetentionOwner) :
    (s.requestRetention o').retentionWaits o := by
  by_cases mark : s.pendingMark o' = true
  · rw [State.requestRetention_marked mark]
    exact waits
  · rw [State.requestRetention_writing h (Bool.eq_false_iff.2 mark)]
    obtain ⟨-, e, rest, queue, -⟩ := h
    obtain ⟨x, mem, job⟩ := waits
    exact ⟨x, by simp_all, job⟩

/-- A request with its mark clear has the write wait. -/
theorem State.requestRetention_waits (h : s.storeWriting) (mark : s.pendingMark o = false) :
    (s.requestRetention o).retentionWaits o := by
  rw [State.requestRetention_writing h mark]
  obtain ⟨-, e, rest, queue, -⟩ := h
  exact ⟨{ job := .internal o none, begun := false }, by simp [queue], rfl⟩

theorem State.setPendingMark_other {o' : RetentionOwner} (ne : o ≠ o') (s : State) (m : Bool) :
    (s.setPendingMark o' m).pendingMark o = s.pendingMark o := by
  cases o with
  | holds f =>
    cases o' with
    | holds g =>
      exact congrArg HoldTable.pendingMark (State.setHoldTable_holdTable_ne s (fun same => ne (by rw [same])) _)
    | _ => rfl
  | fireRequests =>
    cases o' with
    | fireRequests => exact absurd rfl ne
    | _ => rfl
  | isolation =>
    cases o' with
    | isolation => exact absurd rfl ne
    | _ => rfl

theorem State.requestRetention_pendingMark (h : s.storeWriting) {o' : RetentionOwner} (ne : o ≠ o') :
    (s.requestRetention o').pendingMark o = s.pendingMark o := by
  by_cases mark : s.pendingMark o' = true
  · rw [State.requestRetention_marked mark]
  · rw [State.requestRetention_writing h (Bool.eq_false_iff.2 mark)]
    exact (show _ = (s.setPendingMark o' true).pendingMark o by cases o <;> rfl).trans (State.setPendingMark_other ne s true)

/-- Every owner asked whose mark was clear has its write waiting (R182). -/
theorem State.foldl_requestRetention (h : s.storeWriting) (l : List RetentionOwner) :
    (l.foldl State.requestRetention s).storeWriting ∧ (l.foldl State.requestRetention s).store.damaged = s.store.damaged ∧
      ∀ o, s.retentionWaits o ∨ (o ∈ l ∧ s.pendingMark o = false) → (l.foldl State.requestRetention s).retentionWaits o := by
  induction l generalizing s with
  | nil => exact ⟨h, rfl, fun o k => k.resolve_right fun ⟨mem, _⟩ => absurd mem List.not_mem_nil⟩
  | cons o' rest ih =>
    obtain ⟨writing, damaged⟩ := h.requestRetention o'
    obtain ⟨writing', damaged', waits⟩ := ih writing
    refine ⟨writing', damaged'.trans damaged, fun o k => waits o ?_⟩
    obtain k | ⟨mem, mark⟩ := k
    · exact .inl (k.requestRetention h o')
    · by_cases same : o = o'
      · subst same
        exact .inl (State.requestRetention_waits h mark)
      · exact .inr ⟨(List.mem_cons.1 mem).resolve_left same, by rw [State.requestRetention_pendingMark h same]; exact mark⟩

/-! ### The owner's part (R178) -/

theorem State.mended_appends (s : State) : State.Appends 1 s s.mended := by
  have healthy : State.Appends 0 s (s.setStore { s.store with fault := none, damaged := [] }) := .of_same rfl rfl rfl
  exact healthy.trans (State.appendFlag_appends _ _ _ _ _)

theorem State.mended_writing (queue : ∃ e rest, s.store.queue = e :: rest ∧ e.begun = true) : s.mended.storeWriting :=
  ⟨by simp [State.mended], by simpa [State.mended] using queue⟩

/-- Appending, which leaves the port's request, and answering it. -/
theorem State.Appends.reply_ready {k : Nat} {code : Byte} (h : State.Appends k s t) (slot : (s.port p).slot = .inFlight code)
    (orphan : (s.port p).orphan = false) (st : Status) :
    ((t.reply p st).port p).slot =
      .ready { status := st, code := code, counter := (s.port p).counter, data := [] } :=
  State.reply_ready (h.requests p) slot orphan st

/-- A completed port write answers its port ACCEPTED (R178). -/
theorem State.portWriteDone_answer {code : Byte} (running : s.hunt.state ≠ .paused)
    (slot : (s.port p).slot = .inFlight code) (orphan : (s.port p).orphan = false) (w : PortWrite) :
    ((s.portWriteDone p w).port p).slot =
      .ready { status := .accepted, code := code, counter := (s.port p).counter, data := [] } := by
  by_cases repair : w = .repair
  · subst repair
    obtain ⟨hunt, ports, log⟩ := s.mended.foldl_requestRetention_same allOwners
    exact (s.mended_appends.trans (.of_same hunt ports log)).reply_ready slot orphan .accepted
  · have recorded := (s.applied_appends w).trans
      ((s.applied w).append_appends (s.writtenRecord p w).1 (.port p) (s.writtenRecord p w).2)
    rw [State.portWriteDone_eq repair]
    exact (recorded.trans (State.recomputedFor_appends (by rw [recorded.hunt]; exact running) p w)).reply_ready slot orphan
      .accepted

/-- The record of a completed port write stands in the log, with the port for its source (R172, R178). -/
theorem State.portWriteDone_record (running : s.hunt.state ≠ .paused) (p : Port) (w : PortWrite) :
    ∃ r ∈ (s.causedBy p (fun s => s.portWriteDone p w)).log.records,
      r.stamp = s.stamp ∧ (r.feeder, r.details) = s.writtenRecord p w ∧ r.source = .port p := by
  rw [State.causedBy_log]
  by_cases repair : w = .repair
  · subst repair
    have log : (s.portWriteDone p .repair).log =
        s.log.appended s.stamp none (.block .settingStore) .storeFaultCleared := by
      obtain ⟨-, -, log⟩ := s.mended.foldl_requestRetention_same allOwners
      exact log.trans (by simp [State.mended])
    rw [log, Log.ascribe_appended]
    exact ⟨_, (Log.appended_holdsWithin _ _ _ _ _).mem, rfl, rfl, rfl⟩
  · have recorded := (s.applied w).append_appends (s.writtenRecord p w).1 (.port p) (s.writtenRecord p w).2
    have held := (State.recomputedFor_appends (by rw [recorded.hunt, (s.applied_appends w).hunt]; exact running) p w).log _ 0
      (by decide) (by rw [State.append_log]; exact Log.appended_holdsWithin _ _ _ _ _)
    have stamp := s.applied_stamp w
    rw [State.portWriteDone_eq repair, State.reply_log]
    obtain stands | ascribed := Log.mem_ascribe (p := p) (n := s.log.next) held.mem
    · exact ⟨_, stands, stamp, rfl, rfl⟩
    · exact ⟨_, ascribed, stamp, rfl, rfl⟩

/-- A completed repair leaves a healthy store, its flag, and a retention write of every owner whose mark was clear (R182). -/
theorem State.repaired_spec (queue : ∃ e rest, s.store.queue = e :: rest ∧ e.begun = true) (p : Port) :
    (s.repaired p).store.fault = none ∧ (s.repaired p).store.damaged = [] ∧ (s.repaired p).flagSet .store ∧
      ∀ o, s.pendingMark o = false → (s.repaired p).retentionWaits o := by
  obtain ⟨⟨fault, -⟩, damaged, waits⟩ := State.foldl_requestRetention (State.mended_writing queue) allOwners
  rw [State.repaired_eq]
  refine ⟨fault, damaged.trans (by simp [State.mended]), ?_, fun o mark => waits o (.inr ⟨mem_allOwners o, ?_⟩)⟩
  · obtain ⟨-, ports, -⟩ := s.mended.foldl_requestRetention_same allOwners
    exact ((State.flagSet_setFlag _ _).congr ports).reply p .accepted
  · cases o <;> simpa [State.mended, State.pendingMark] using mark

end Sys2Proof.Machine
end

section
/-! The completion of a write of the store, and a write that fails (R178, R179, R182). -/

namespace Sys2Proof.Machine

variable {s t : State} {p : Port} {w : PortWrite} {e : StoreEntry} {o : RetentionOwner} {f : Feeder}

/-! ### The head leaves the queue, and the next begins (R178) -/

/-- The completion of the head entry once its owner has acted. -/
def State.headDone (s : State) : State := s.dropHead.countFixed.beginHead

theorem State.writeDone_eq (s : State) (e : StoreEntry) :
    s.writeDone e = ((s.setImage (s.writeRecords e.job e.job.records.length)).jobDone e.job).headDone := rfl

theorem State.countFixed_eq (s : State) : ∃ r, s.countFixed = { s with restart := r } := by
  unfold State.countFixed
  split
  · exact ⟨_, rfl⟩
  · exact ⟨s.restart, rfl⟩

theorem State.headDone_steady (s : State) : s.Steady s.headDone := (State.Steady.refl s).dropHead.countFixed.beginHead

theorem State.headDone_log (s : State) : s.headDone.log = s.log := by
  obtain ⟨r, counted⟩ := s.dropHead.countFixed_eq
  rw [State.headDone, State.beginHead_log, counted]
  rfl

theorem State.headDone_ports (s : State) : s.headDone.ports = s.ports := by
  obtain ⟨r, counted⟩ := s.dropHead.countFixed_eq
  rw [State.headDone, State.beginHead_ports, counted]
  rfl

theorem State.setPendingMark_corridor (s : State) (o : RetentionOwner) (m : Bool) (f : Feeder) :
    ((s.setPendingMark o m).holdTable f).corridor = (s.holdTable f).corridor := by
  cases o with
  | holds g =>
    simp only [State.setPendingMark, State.setHoldTable_holdTable]
    split
    · next same => rw [same]
    · rfl
  | _ => rfl

/-- Beginning the head moves at most the head's begin mark, the contents it takes and its owner's mark. -/
theorem State.beginHead_cases (s : State) :
    s.beginHead = s ∨ (∃ e rest, s.store.queue = e :: rest ∧
        s.beginHead = s.setStore { s.store with queue := { e with begun := true } :: rest }) ∨
      ∃ e rest o k, s.store.queue = e :: rest ∧ e.job = .internal o k ∧
        s.beginHead = (s.setStore
          { s.store with queue := { job := .internal o (some (s.retain o)), begun := true } :: rest }).setPendingMark o
            false := by
  unfold State.beginHead
  split
  · exact .inl rfl
  next e rest queue =>
  split
  · exact .inl rfl
  split
  · exact .inr (.inl ⟨e, rest, queue, rfl⟩)
  · next o k job => exact .inr (.inr ⟨e, rest, o, k, queue, job, rfl⟩)

theorem State.headDone_corridor (s : State) (f : Feeder) : (s.headDone.holdTable f).corridor = (s.holdTable f).corridor := by
  obtain ⟨r, counted⟩ := s.dropHead.countFixed_eq
  rw [State.headDone, counted]
  obtain same | ⟨e, rest, -, begun⟩ | ⟨e, rest, o, k, -, -, begun⟩ := State.beginHead_cases { s.dropHead with restart := r }
  · rw [same]; rfl
  · rw [begun]; rfl
  · rw [begun, State.setPendingMark_corridor]; rfl

theorem State.setPendingMark_store (s : State) (o : RetentionOwner) (m : Bool) : (s.setPendingMark o m).store = s.store := by
  cases o <;> rfl

/-- Fault state and damaged list stand as the head completes, and every internal write behind it stays queued. -/
theorem State.headDone_store (s : State) :
    s.headDone.store.fault = s.store.fault ∧ s.headDone.store.damaged = s.store.damaged ∧
      ∀ o, s.retentionWaits o → ∃ x ∈ s.headDone.store.queue, ∃ taken, x.job = .internal o taken := by
  obtain ⟨r, counted⟩ := s.dropHead.countFixed_eq
  rw [State.headDone, counted]
  obtain same | ⟨e, rest, queue, begun⟩ | ⟨e, rest, o, k, queue, job, begun⟩ :=
    State.beginHead_cases { s.dropHead with restart := r }
  · rw [same]
    refine ⟨rfl, rfl, fun o waits => ?_⟩
    obtain ⟨x, mem, job⟩ := waits
    exact ⟨x, mem, none, job⟩
  · rw [begun]
    refine ⟨rfl, rfl, fun o waits => ?_⟩
    obtain ⟨x, mem, job⟩ := waits
    obtain rfl | later := List.mem_cons.1 (show x ∈ e :: rest from queue ▸ mem)
    · exact ⟨_, List.mem_cons_self, none, job⟩
    · exact ⟨x, List.mem_cons_of_mem _ later, none, job⟩
  · rw [begun, State.setPendingMark_store]
    refine ⟨rfl, rfl, fun o' waits => ?_⟩
    obtain ⟨x, mem, job'⟩ := waits
    obtain rfl | later := List.mem_cons.1 (show x ∈ e :: rest from queue ▸ mem)
    · obtain ⟨rfl, -⟩ : o = o' ∧ k = none := by simpa using job.symm.trans job'
      exact ⟨_, List.mem_cons_self, _, rfl⟩
    · exact ⟨x, List.mem_cons_of_mem _ later, none, job'⟩

/-! ### The completion whole -/

/-- The state in which the owner of the head entry acts. -/
def State.written (s : State) (e : StoreEntry) : State := s.setImage (s.writeRecords e.job e.job.records.length)

theorem State.writeDone_port (job : e.job = .port p w) (s : State) :
    s.writeDone e = ((s.written e).causedBy p (fun s => s.portWriteDone p w)).headDone := by
  rw [State.writeDone_eq, job, State.written, job]
  rfl

theorem State.portWriteDone_recomputed (s : State) (p : Port) (w : PortWrite) :
    (s.applied w).Recomputed (s.portWriteDone p w) := by
  by_cases repair : w = .repair
  · subst repair
    exact s.repaired_steady.recomputed
  · rw [State.portWriteDone_eq repair]
    exact (((State.Steady.refl _).append _ _ _).recomputed.trans (State.recomputedFor_recomputed _ p w)).steady
      ((State.Steady.refl _).reply _ _)

/-- A completed port write has its contents in force, but for what a recomputation moves. -/
theorem State.writeDone_recomputed (job : e.job = .port p w) (s : State) :
    ((s.written e).applied w).Recomputed (s.writeDone e) := by
  have owner := (s.written e).portWriteDone_recomputed p w
  have caused : ((s.written e).applied w).Recomputed ((s.written e).causedBy p (fun s => s.portWriteDone p w)) :=
    ⟨owner.fire, owner.image⟩
  rw [State.writeDone_port job]
  exact caused.steady (State.headDone_steady _)

theorem State.writeDone_image (s : State) (e : StoreEntry) :
    (s.writeDone e).image = s.writeRecords e.job e.job.records.length := by
  rcases job : e.job with ⟨p, w⟩ | ⟨o, taken⟩
  · have image := (State.writeDone_recomputed job s).image
    rw [State.applied_image, State.written, State.setImage_image, job] at image
    exact image
  · rw [State.writeDone_eq, job]
    exact (State.headDone_steady _).image

theorem State.writeDone_corridor {c : PerFeeder Bool} (job : e.job = .port p (.corridor f c)) (s : State) :
    ((s.writeDone e).holdTable f).corridor = c := by
  rw [State.writeDone_port job, State.headDone_corridor, State.causedBy_holdTable,
    State.portWriteDone_eq (by simp)]
  simp [State.applied, State.recomputedFor]

/-! ### What the law of the image says of a queued job (R177, R178) -/

theorem State.ImageLaw.shaped (law : s.ImageLaw) : s.image.Shaped := by
  obtain ⟨curves, hunt, -⟩ := law
  exact ⟨curves, hunt⟩

theorem State.ImageLaw.places (law : s.ImageLaw) (mem : e ∈ s.store.queue) : ∀ r ∈ e.job.records, r ∈ allRecords := by
  obtain ⟨-, -, queued⟩ := law
  exact (queued e mem).1

theorem State.ImageLaw.carries (law : s.ImageLaw) (mem : e ∈ s.store.queue) (begun : e.begun = true) :
    ∀ o taken, e.job = .internal o taken → taken.map Retained.record = some o.record := by
  obtain ⟨-, -, queued⟩ := law
  exact fun o taken job => (queued e mem).2 o taken job begun

theorem State.writeDone_imageAfter (law : s.ImageLaw) (mem : e ∈ s.store.queue) (begun : e.begun = true) :
    s.imageAfter e.job e.job.records.length none (s.writeDone e).image := by
  obtain ⟨-, after⟩ := State.leavesRecords_of_law e.job.records.length law.shaped (law.places mem) (law.carries mem begun)
  rw [State.writeDone_image]
  exact after

/-! ### What a completed write leaves, by its contents -/

theorem State.writeDone_curve {n : Nat} {c : Curve} (job : e.job = .port p (.curve n c)) (low : 1 ≤ n) (high : n ≤ 4)
    (four : s.fire.curves.length = 4) : (s.writeDone e).curve n = c := by
  obtain ⟨_, _, _, fire⟩ := (State.writeDone_recomputed job s).fire
  rw [State.curve, fire]
  have inside : n - 1 < s.fire.curves.length := by omega
  simp [State.applied, State.written, inside]

theorem State.writeDone_group {l : Letter} {g : SettingGroup} (job : e.job = .port p (.group f l g)) (s : State) :
    (s.writeDone e).workingGroup f l = { group := g, fallback := false } := by
  obtain ⟨_, _, _, fire⟩ := (State.writeDone_recomputed job s).fire
  rw [State.workingGroup, fire]
  cases l <;> simp [State.applied, GroupPair.get, GroupPair.set]

theorem State.writeDone_fields {start : Nat} {values : List Nat} (job : e.job = .port p (.fireBlock start values))
    (s : State) :
    (s.writeDone e).fire.table = writeFields s.fire.table start values ∧ (s.writeDone e).fire.replaced = false := by
  obtain ⟨_, _, _, fire⟩ := (State.writeDone_recomputed job s).fire
  rw [fire]
  exact ⟨rfl, rfl⟩

theorem State.writeDone_restored (job : e.job = .port p .restoreTable) (s : State) :
    (s.writeDone e).fire.table = fixedTable ∧ (s.writeDone e).fire.replaced = false := by
  obtain ⟨_, _, _, fire⟩ := (State.writeDone_recomputed job s).fire
  rw [fire]
  exact ⟨rfl, rfl⟩

theorem State.writeDone_exposure {x : Exposure} (job : e.job = .port p (.exposure f x)) (s : State) :
    feederGet (s.writeDone e).fire.exposure f = x := by
  obtain ⟨_, _, _, fire⟩ := (State.writeDone_recomputed job s).fire
  rw [fire]
  simp [State.applied]

theorem State.written_writtenRecord (s : State) (e : StoreEntry) (p : Port) (w : PortWrite) :
    (s.written e).writtenRecord p w = s.writtenRecord p w := by cases w <;> rfl

theorem State.writeDone_record (job : e.job = .port p w) (running : s.hunt.state ≠ .paused) :
    ∃ r ∈ (s.writeDone e).log.records,
      r.stamp = s.stamp ∧ (r.feeder, r.details) = s.writtenRecord p w ∧ r.source = .port p := by
  rw [State.writeDone_port job, State.headDone_log, ← s.written_writtenRecord e p w]
  exact State.portWriteDone_record (s := s.written e) running p w

theorem State.writeDone_answer {code : Byte} (job : e.job = .port p w) (running : s.hunt.state ≠ .paused)
    (slot : (s.port p).slot = .inFlight code) (orphan : (s.port p).orphan = false) :
    ((s.writeDone e).port p).slot =
      .ready { status := .accepted, code := code, counter := (s.port p).counter, data := [] } := by
  rw [State.writeDone_port job, State.port, State.headDone_ports]
  exact State.portWriteDone_answer (s := s.written e) running slot orphan w

/-- A completed repair (R182). -/
theorem State.writeDone_repair (job : e.job = .port p .repair) {rest : List StoreEntry} (queue : s.store.queue = e :: rest)
    (begun : e.begun = true) :
    (s.writeDone e).store.fault = none ∧ (s.writeDone e).store.damaged = [] ∧ (s.writeDone e).flagSet .store ∧
      ∀ o, s.pendingMark o = false → ∃ x ∈ (s.writeDone e).store.queue, ∃ taken, x.job = .internal o taken := by
  obtain ⟨fault, damaged, flag, waits⟩ := State.repaired_spec (s := s.written e) ⟨e, rest, queue, begun⟩ p
  rw [State.writeDone_port job]
  obtain ⟨fault', damaged', stays⟩ := State.headDone_store
    ((s.written e).causedBy p (fun s => s.portWriteDone p .repair))
  refine ⟨fault'.trans fault, damaged'.trans damaged, ?_, fun o mark => stays o (waits o ?_)⟩
  · exact State.flagSet.congr (s := (s.written e).repaired p) flag (State.headDone_ports _)
  · rw [← mark]
    cases o <;> rfl

/-! ### A failed write whole (R179) -/

theorem State.writeFailed_pendingMark {x : StoreEntry} {taken : Option Retained} (mem : x ∈ s.store.queue)
    (job : x.job = .internal o taken) (n : Nat) (bad : RecordId) : (s.writeFailed e n bad).pendingMark o = false := by
  obtain ⟨r, failed⟩ := s.writeFailed_eq e n bad
  rw [failed, ← State.foldl_jobFailed_pendingMark mem job (s.faultSaid e n bad)]
  cases o <;> rfl

theorem State.writeFailed_answer {code : Byte} (queued : ∃ x ∈ s.store.queue, x.job = .port p w)
    (alike : ∀ x ∈ s.store.queue, ∀ w', x.job = .port p w' → w' = w) (slot : (s.port p).slot = .inFlight code)
    (orphan : (s.port p).orphan = false) (n : Nat) (bad : RecordId) :
    ((s.writeFailed e n bad).port p).slot =
      .ready { status := w.failStatus, code := code, counter := (s.port p).counter, data := [] } := by
  obtain ⟨r, failed⟩ := s.writeFailed_eq e n bad
  rw [failed]
  exact State.foldl_jobFailed_answer queued alike (s.faultSaid_port e n bad p) slot orphan

/-! ### The command (R178; log entry 8) -/

theorem execStoreWriteCompletion_begun {rest : List StoreEntry} (powered : s.powered = true)
    (queue : s.store.queue = e :: rest) (begun : e.begun = true) :
    execStoreWriteCompletion none s = .next (s.writeDone e) := by
  simp [execStoreWriteCompletion, powered, queue, begun]

theorem execStoreWriteCompletion_bad {rest : List StoreEntry} {n : Nat} {r : RecordId} (powered : s.powered = true)
    (queue : s.store.queue = e :: rest) (begun : e.begun = true) (bad : e.job.records[n]? = some r) :
    execStoreWriteCompletion (some n) s = .next (s.writeFailed e n r) := by
  simp [execStoreWriteCompletion, powered, queue, begun, bad]

theorem execStoreWriteCompletion_beyond {rest : List StoreEntry} {n : Nat} (powered : s.powered = true)
    (queue : s.store.queue = e :: rest) (begun : e.begun = true) (beyond : e.job.records[n]? = none) :
    execStoreWriteCompletion (some n) s = .fault .noSuchRecord := by
  simp [execStoreWriteCompletion, powered, queue, begun, beyond]

theorem execStoreWriteCompletion_idle (queue : s.store.queue = []) (bad : Option Nat) :
    execStoreWriteCompletion bad s = .next s := by
  simp [execStoreWriteCompletion, queue]

/-- Settles O47: the image by the puts of the head's job, the working set through the recomputations that follow, the log by
the count of what they append, and the failing queue entry by entry. -/
theorem storeWritesComplete : Obligations.StoreWritesComplete := by
  unfold Obligations.StoreWritesComplete
  intro e rest s powered queue begun
  have head : e ∈ s.store.queue := by simp [queue]
  refine ⟨⟨s.writeDone e, execStoreWriteCompletion_begun powered queue begun, ?_, ?_, ?_, ?_, ?_, ?_, ?_, ?_, ?_, ?_⟩,
    fun n r bad => ⟨s.writeFailed e n r, execStoreWriteCompletion_bad powered queue begun bad, ?_⟩, fun n beyond => ?_,
    fun bad => execStoreWriteCompletion_idle rfl bad⟩
  · exact fun law => State.writeDone_imageAfter law head begun
  · exact fun p n c job low high four => State.writeDone_curve job low high four
  · exact fun p f l g job => State.writeDone_group job s
  · exact fun p start values job => State.writeDone_fields job s
  · exact fun p job => State.writeDone_restored job s
  · exact fun p f x job => State.writeDone_exposure job s
  · exact fun p f c job => State.writeDone_corridor job s
  · exact fun p w job running => State.writeDone_record job running
  · exact fun p job => State.writeDone_repair job queue begun
  · exact fun p w code job running slot orphan => State.writeDone_answer job running slot orphan
  · obtain ⟨fault, damaged, empty, flag, image, record⟩ := s.writeFailed_spec e n r
    refine ⟨fault, damaged, empty, flag, fun law => ?_, s.writeFailed_changesOnly e n r, record,
      fun x mem o taken job => State.writeFailed_pendingMark mem job n r, fun p w code queued alike slot orphan => ?_⟩
    · rw [image]
      exact State.spoilRecord_spec law.shaped (law.places head) (law.carries head begun) bad
    · rw [State.writeFailed_answer queued alike slot orphan n r]
      cases w <;> rfl
  · exact execStoreWriteCompletion_beyond powered queue begun (List.getElem?_eq_none beyond)

end Sys2Proof.Machine
end

section
/-! SUPPORT. The law of R36, R84 and R152 with the hunt's feeder named: one HUNT entry, the sequencer in HUNT, the freeze mark
and the standing engine, all on one feeder or all on none. Here stand the operations that neither begin nor end a hunt: each
leaves the four marks where they are. -/

namespace Sys2Proof.Machine

variable {s t u : State} {o : Option Feeder} {f g : Feeder}

/-! ### The four marks (R36, R84, R152) -/

/-- The number of HUNT entries of a hold list. -/
def huntEntries (l : List Hold) : Nat := l.countP (fun h => h.owner == .hunt)

/-- Whether the engine is RUNNING, PAUSED or STOPPING (R152). -/
def Hunt.standing (h : Hunt) : Bool := h.state == .running || h.state == .paused || h.state == .stopping

/-- The engine, the HUNT entry, the sequencer in HUNT and the freeze mark stand on one feeder, or on none. -/
structure State.HuntOf (s : State) (o : Option Feeder) : Prop where
  engine : ∀ f, s.huntOn f = decide (o = some f)
  entries : ∀ f, huntEntries (s.holdTable f).list = if o = some f then 1 else 0
  parked : ∀ f, (s.sequencer f).state = .hunt ↔ o = some f
  frozen : ∀ f, (s.unit f).base.frozen = decide (o = some f)

/-- The four marks stand together, wherever that is. -/
def State.HuntKept (s : State) : Prop := ∃ o, s.HuntOf o

theorem State.HuntOf.kept (h : t.HuntOf o) : t.HuntKept := ⟨o, h⟩

/-- What leaves the four marks wherever they stand keeps them together. -/
theorem State.HuntKept.keep (h : t.HuntKept) (k : ∀ {o}, t.HuntOf o → u.HuntOf o) : u.HuntKept := by
  obtain ⟨o, h⟩ := h
  exact (k h).kept

theorem State.huntOn_standing (s : State) (f : Feeder) : s.huntOn f = (s.hunt.feeder == some f && s.hunt.standing) := rfl

theorem hasOwner_hunt (l : List Hold) : hasOwner l .hunt = decide (0 < huntEntries l) := by
  rw [Bool.eq_iff_iff]
  simp [hasOwner, huntEntries]

/-- An entry that shares no owner and tag with a HUNT entry of tag 0 leaves at most that one (R88, R89). -/
theorem huntEntries_le_one {l : List Hold} (distinct : holdsDistinct l = true) (lawful : ∀ h ∈ l, h.lawful) :
    huntEntries l ≤ 1 := by
  have tag : ∀ h ∈ l, h.owner = .hunt → h.tag = 0 := fun h mem own => by
    have form := lawful h mem
    simp only [Hold.lawful, own] at form
    exact form.1
  clear lawful
  induction l with
  | nil => exact Nat.zero_le 1
  | cons h rest ih =>
    simp only [holdsDistinct, Bool.and_eq_true, List.all_eq_true] at distinct
    obtain ⟨apart, distinct⟩ := distinct
    have within := ih distinct fun x mem => tag x (List.mem_cons_of_mem h mem)
    by_cases own : h.owner = .hunt
    · have none_left : huntEntries rest = 0 := List.countP_eq_zero.2 fun x mem hunts => by
        have hunts : x.owner = .hunt := by simpa using hunts
        have differ := apart x mem
        rw [tag x (List.mem_cons_of_mem h mem) hunts, tag h List.mem_cons_self own, hunts, own] at differ
        exact absurd differ (by decide)
      simp only [huntEntries] at none_left ⊢
      simp [own, none_left]
    · simpa [huntEntries, List.countP_cons, own] using within

/-- The engine stands on one feeder, or on none. -/
theorem State.huntOn_feeder (s : State) : ∃ o, ∀ f, s.huntOn f = decide (o = some f) := by
  cases standing : s.hunt.standing with
  | false => exact ⟨none, fun f => by simp [State.huntOn_standing, standing]⟩
  | true => exact ⟨s.hunt.feeder, fun f => by simp [State.huntOn_standing, standing, beq_eq_decide]⟩

/-- Under the law of the hold lists the law of the hunt places the four marks. -/
theorem State.HuntLaw.huntKept (holds : s.HoldLaw) (law : s.HuntLaw) : s.HuntKept := by
  obtain ⟨o, engine⟩ := s.huntOn_feeder
  refine ⟨o, engine, fun f => ?_, fun f => ?_, fun f => ?_⟩ <;> obtain ⟨entry, parked, frozen⟩ := law f
  · obtain ⟨-, distinct, lawful⟩ := holds f
    have one := huntEntries_le_one distinct lawful
    rw [hasOwner_hunt, engine, decide_eq_decide] at entry
    split
    · next here => have := entry.2 here; omega
    · next away => have := mt entry.1 away; omega
  · rw [parked, engine, decide_eq_true_iff]
  · rw [frozen, engine]

theorem State.HuntOf.huntLaw (h : s.HuntOf o) : s.HuntLaw := fun f => by
  refine ⟨?_, ?_, ?_⟩
  · rw [hasOwner_hunt, h.entries, h.engine, decide_eq_decide]
    split <;> simp_all
  · rw [h.parked, h.engine, decide_eq_true_iff]
  · rw [h.frozen, h.engine]

/-- The engine stands on a feeder. -/
theorem State.HuntKept.on (h : t.HuntKept) (stands : t.huntOn g = true) : t.HuntOf (some g) := by
  obtain ⟨o, h⟩ := h
  rw [h.engine, decide_eq_true_iff] at stands
  exact stands ▸ h

/-- A feeder whose sequencer is not in HUNT is not the hunt's. -/
theorem State.HuntOf.away (h : t.HuntOf o) (state : (t.sequencer g).state ≠ .hunt) : o ≠ some g := mt (h.parked g).2 state

/-! ### Updates -/

/-- The parts that hold none of the four marks. -/
def markFreeParts : List Part :=
  [.supply, .milliseconds, .clock, .key, .receivers, .breakers, .fire, .bus, .log, .store, .image, .ports, .restart, .pending]

theorem State.HuntOf.changesOnly (h : t.HuntOf o) (k : t.changesOnly markFreeParts u) : u.HuntOf o := by
  have units : u.protection = t.protection := k .protection (by decide)
  have sequencers : u.sequencers = t.sequencers := k .sequencers (by decide)
  have holds : u.holds = t.holds := k .holds (by decide)
  have hunt : u.hunt = t.hunt := k .hunt (by decide)
  refine ⟨fun f => ?_, fun f => ?_, fun f => ?_, fun f => ?_⟩
  · rw [State.huntOn_standing, hunt]; exact h.engine f
  · rw [State.holdTable, holds]; exact h.entries f
  · rw [State.sequencer, sequencers]; exact h.parked f
  · rw [State.unit, units]; exact h.frozen f

theorem State.HuntOf.within (h : t.HuntOf o) (k : t.Within markFreeParts none u) : u.HuntOf o := h.changesOnly k.parts

/-- An effect that takes place or not. -/
theorem State.HuntOf.ite {c : Prop} [Decidable c] (h : t.HuntOf o) (k : u.HuntOf o) : (if c then t else u).HuntOf o := by
  split
  · exact h
  · exact k

theorem State.HuntKept.ite {c : Prop} [Decidable c] (h : t.HuntKept) (k : u.HuntKept) : (if c then t else u).HuntKept := by
  split
  · exact h
  · exact k

/-- An operation folded over a list. -/
theorem State.HuntKept.foldl {α : Type} {op : State → α → State} (step : ∀ {u : State}, u.HuntKept → ∀ x, (op u x).HuntKept)
    (h : t.HuntKept) (l : List α) : (l.foldl op t).HuntKept := by
  induction l generalizing t with
  | nil => exact h
  | cons x rest ih => exact ih (step h x)

theorem State.HuntOf.foldl {α : Type} {op : State → α → State} (step : ∀ {u : State}, u.HuntOf o → ∀ x, (op u x).HuntOf o)
    (h : t.HuntOf o) (l : List α) : (l.foldl op t).HuntOf o := by
  induction l generalizing t with
  | nil => exact h
  | cons x rest ih => exact ih (step h x)

theorem State.HuntOf.setReceiver (h : t.HuntOf o) (x : Receiver) : (t.setReceiver g x).HuntOf o :=
  h.within ((State.Within.refl _ _ _).setReceiver (by decide) (by simp) x)

theorem State.HuntOf.setBreaker (h : t.HuntOf o) (x : Breaker) : (t.setBreaker g x).HuntOf o :=
  h.within ((State.Within.refl _ _ _).setBreaker (by decide) (by simp) x)

theorem State.HuntOf.setBus (h : t.HuntOf o) (x : Bus) : (t.setBus x).HuntOf o :=
  h.within ((State.Within.refl _ _ _).setBus (by decide) x)

theorem State.HuntOf.setFire (h : t.HuntOf o) (x : FireController) : (t.setFire x).HuntOf o :=
  h.within ((State.Within.refl _ _ _).setFire (by decide) x)

theorem State.HuntOf.setStore (h : t.HuntOf o) (x : Store) : (t.setStore x).HuntOf o :=
  h.within ((State.Within.refl _ _ _).setStore (by decide) x)

theorem State.HuntOf.setPort (h : t.HuntOf o) (p : Port) (x : PortState) : (t.setPort p x).HuntOf o :=
  h.within ((State.Within.refl _ _ _).setPort (by decide) p x)

theorem State.HuntOf.append (h : t.HuntOf o) (x : Option Feeder) (b : RecordSource) (d : Details) :
    (t.append x b d).HuntOf o := h.within ((State.Within.refl _ _ _).append (by decide) (by decide) x b d)

theorem State.HuntOf.record (h : t.HuntOf o) (x : Feeder) (b : Block) (d : Details) : (t.record x b d).HuntOf o :=
  h.append _ _ _

theorem State.HuntOf.setFlag (h : t.HuntOf o) (fl : AttentionFlag) : (t.setFlag fl).HuntOf o :=
  h.within ((State.Within.refl _ _ _).setFlag (by decide) fl)

theorem State.HuntOf.respond (h : t.HuntOf o) (p : Port) (st : Status) (d : List Byte) : (t.respond p st d).HuntOf o :=
  h.within ((State.Within.refl _ _ _).respond (by decide) p st d)

theorem State.HuntOf.reply (h : t.HuntOf o) (p : Port) (st : Status) : (t.reply p st).HuntOf o := h.respond p st []

/-- What happens because of a request leaves the marks where it does without. -/
theorem State.HuntOf.causedBy (p : Port) (op : State → State) (h : (op t).HuntOf o) : (t.causedBy p op).HuntOf o :=
  ⟨h.engine, h.entries, h.parked, h.frozen⟩

/-- The engine moves on its feeder, and stands as it stood. -/
theorem State.HuntOf.setHunt (h : t.HuntOf o) (x : Hunt) (feeder : x.feeder = t.hunt.feeder := by rfl)
    (standing : x.standing = t.hunt.standing := by rfl) : (t.setHunt x).HuntOf o := by
  refine ⟨fun f => ?_, h.entries, h.parked, h.frozen⟩
  rw [← h.engine f, State.huntOn_standing, State.huntOn_standing, State.setHunt_hunt, feeder, standing]

/-- Where a hunt stands the engine moves and stands. -/
theorem State.HuntOf.setHunt_on (h : t.HuntOf (some g)) (x : Hunt) (feeder : x.feeder = t.hunt.feeder := by rfl)
    (standing : x.standing = true := by rfl) : (t.setHunt x).HuntOf (some g) := by
  have stands := h.engine g
  rw [State.huntOn_standing, decide_eq_true rfl, Bool.and_eq_true] at stands
  exact h.setHunt x feeder (standing.trans stands.2.symm)

/-- A protection unit moves and keeps its freeze mark. -/
theorem State.HuntOf.setUnit (h : t.HuntOf o) (x : Protection) (same : x.base.frozen = (t.unit g).base.frozen := by rfl) :
    (t.setUnit g x).HuntOf o := by
  refine ⟨h.engine, h.entries, h.parked, fun f => ?_⟩
  rw [← h.frozen f, State.setUnit_unit]
  split
  · next here => rw [here, same]
  · rfl

/-- A hold table moves and keeps its number of HUNT entries. -/
theorem State.HuntOf.setHoldTable (h : t.HuntOf o) (x : HoldTable)
    (same : huntEntries x.list = huntEntries (t.holdTable g).list := by rfl) : (t.setHoldTable g x).HuntOf o := by
  refine ⟨h.engine, fun f => ?_, h.parked, h.frozen⟩
  rw [← h.entries f, State.setHoldTable_holdTable]
  split
  · next here => rw [here, same]
  · rfl

/-- A sequencer moves within its state. -/
theorem State.HuntOf.setSequencer (h : t.HuntOf o) (x : Sequencer) (same : x.state = (t.sequencer g).state := by rfl) :
    (t.setSequencer g x).HuntOf o := by
  refine ⟨h.engine, h.entries, fun f => ?_, h.frozen⟩
  rw [← h.parked f, State.setSequencer_sequencer]
  split
  · next here => rw [here, same]
  · rfl

/-- A sequencer of no hunt moves to another state than HUNT. -/
theorem State.HuntOf.setSequencer_away (h : t.HuntOf o) (away : o ≠ some g) (x : Sequencer)
    (state : x.state ≠ .hunt := by simp) : (t.setSequencer g x).HuntOf o := by
  refine ⟨h.engine, h.entries, fun f => ?_, h.frozen⟩
  rw [State.setSequencer_sequencer]
  split
  · next here => rw [here]; exact iff_of_false state away
  · exact h.parked f

/-! ### Setting store (R104, R126, R146, R178) -/

theorem State.HuntOf.setPendingMark (h : t.HuntOf o) (r : RetentionOwner) (m : Bool) : (t.setPendingMark r m).HuntOf o := by
  cases r with
  | holds k => exact h.setHoldTable _
  | fireRequests => exact h.setFire _
  | isolation => exact h.setBus _

theorem State.HuntOf.beginHead (h : t.HuntOf o) : t.beginHead.HuntOf o := by
  unfold State.beginHead
  split
  · exact h
  split
  · exact h
  split
  · exact h.setStore _
  · exact (h.setStore _).setPendingMark _ _

theorem State.HuntOf.storeEnqueue (h : t.HuntOf o) (j : StoreJob) : (t.storeEnqueue j).HuntOf o := (h.setStore _).beginHead

theorem State.HuntOf.requestRetention (h : t.HuntOf o) (r : RetentionOwner) : (t.requestRetention r).HuntOf o :=
  .ite h (.ite h ((h.setPendingMark r true).storeEnqueue _))

/-! ### Reclose sequencer (R66 to R85) -/

theorem Sequencer.reclosingIn_away {q : Sequencer} {ph : ClosePhase} (h : q.reclosingIn ph = true) : q.state ≠ .hunt := by
  intro parked
  simp [Sequencer.reclosingIn, parked] at h

theorem Sequencer.takesTrip_away {q : Sequencer} (h : q.takesTrip = true) : q.state ≠ .hunt := by
  intro parked
  simp [Sequencer.takesTrip, Sequencer.reclosingIn, parked] at h

theorem Sequencer.standsOpen_away {q : Sequencer} (h : q.standsOpen = true) : q.state ≠ .hunt := by
  intro parked
  simp [Sequencer.standsOpen, parked] at h

theorem State.HuntOf.lockout (h : t.HuntOf o) (away : o ≠ some g) (r : LockoutReason) (c : Option CloseRefusal) :
    (t.lockout g r c).HuntOf o := ((h.setSequencer_away away _).record _ _ _).setFlag _

theorem State.HuntOf.sequencerPlacement (h : t.HuntOf o) : (t.sequencerPlacement g).HuntOf o := by
  unfold State.sequencerPlacement
  split
  · next dead => exact h.lockout (h.away (by simp [dead])) _ _
  · exact h

/-! ### Hold list (R88 to R101) -/

theorem huntEntries_append {e : Hold} (ne : e.owner ≠ .hunt) (l : List Hold) : huntEntries (l ++ [e]) = huntEntries l := by
  simp [huntEntries, ne]

theorem huntEntries_erase {e : Hold} (ne : e.owner ≠ .hunt) (l : List Hold) : huntEntries (l.erase e) = huntEntries l := by
  simp [huntEntries, List.countP_erase, ne]

theorem huntEntries_replace {old new : Hold} (ne : old.owner ≠ .hunt) (ne' : new.owner ≠ .hunt) (l : List Hold) :
    huntEntries (l.replace old new) = huntEntries l := by
  simp [huntEntries, List.countP_replace, ne, ne']

/-- A placement other than HUNT is handed on. -/
theorem State.HuntOf.placed (h : t.HuntOf o) {e : Hold} (ne : e.owner ≠ .hunt) (r : Bool) (p : Option Port)
    (a : Option Feeder) : (t.placed g e r p a).HuntOf o := by
  have told := ((h.append (some g) (sourceOf p .holdTable)
    (.holdPlaced e r p (t.holdTable g).list.length a)).setFlag .holds).sequencerPlacement (g := g)
  unfold State.placed
  simp only [if_neg ne]
  exact .ite (told.requestRetention _) told

theorem State.HuntOf.placeHold (h : t.HuntOf o) {e : Hold} (ne : e.owner ≠ .hunt) (p : Option Port) (a : Option Feeder) :
    (t.placeHold g e p a).HuntOf o :=
  State.HuntOf.placed (h.setHoldTable _ (huntEntries_append ne _)) ne _ _ _

theorem State.HuntOf.refreshHold (h : t.HuntOf o) {old new : Hold} (ne : old.owner ≠ .hunt) (ne' : new.owner ≠ .hunt)
    (p : Port) : (t.refreshHold g old new p).HuntOf o :=
  State.HuntOf.placed (h.setHoldTable _ (huntEntries_replace ne ne' _)) ne' _ _ _

/-- A removal other than HUNT. -/
theorem State.HuntOf.takeOffHold (h : t.HuntOf o) {e : Hold} (ne : e.owner ≠ .hunt) (c : RemovalCause) (p : Option Port) :
    (t.takeOffHold g e c p).HuntOf o := by
  unfold State.takeOffHold
  simp only [if_neg ne]
  exact ((h.setHoldTable _ (huntEntries_erase ne _)).append _ _ _).setFlag _

theorem State.HuntOf.placeAutomatic (h : t.HuntOf o) {w : Owner} (ne : w ≠ .hunt) (k : HoldKind) (a : Option Feeder) :
    (t.placeAutomatic g w k a).HuntOf o := .ite h (h.placeHold ne _ _)

theorem State.HuntOf.placePatrol (h : t.HuntOf o) (a : Feeder) : (t.placePatrol a).HuntOf o :=
  State.HuntOf.foldl (fun k _ => k.placeAutomatic (by decide) _ _) (h.placeAutomatic (by decide) _ _) _

theorem State.HuntOf.retainAfter (h : t.HuntOf o) (e : Hold) : (t.retainAfter g e).HuntOf o :=
  .ite (h.requestRetention _) h

/-! ### Reports to the sequencer (R69 to R85) -/

theorem State.HuntOf.decideReclose (h : t.HuntOf o) (away : o ≠ some g) : (t.decideReclose g).HuntOf o := by
  have unmarked := h.setSequencer (g := g) { t.sequencer g with mark := false }
  exact .ite (unmarked.lockout away _ _) (.ite (unmarked.lockout away _ _) (.ite (unmarked.lockout away _ _)
    (.ite (unmarked.lockout away _ _) (.ite (unmarked.lockout away _ _) (h.setSequencer_away away _)))))

theorem State.HuntOf.patrolIfDue (h : t.HuntOf o) : (t.patrolIfDue g).HuntOf o := .ite (h.placePatrol g) h

theorem State.HuntOf.confirmTrip (h : t.HuntOf o) (away : o ≠ some g) : (t.confirmTrip g).HuntOf o :=
  .ite (h.patrolIfDue.setSequencer_away away _ (by simp [Sequencer.enterOpen])) (h.patrolIfDue.decideReclose away)

/-- Entry into TRIPPING, and the trip's confirmation in the same event (R69, R71). -/
theorem State.HuntOf.enterTripping (h : t.HuntOf o) (away : o ≠ some g) (c : Option Cause) :
    (t.setSequencer g ((t.sequencer g).enterTripping c)).HuntOf o :=
  h.setSequencer_away away _ (by simp [Sequencer.enterTripping])

theorem State.HuntOf.enterOpen (h : t.HuntOf o) (away : o ≠ some g) (q : Sequencer) :
    (t.setSequencer g q.enterOpen).HuntOf o := h.setSequencer_away away _ (by simp [Sequencer.enterOpen])

theorem State.HuntOf.endTripping (h : t.HuntOf o) (away : o ≠ some g) (c : Option Cause) : (t.endTripping g c).HuntOf o :=
  State.HuntOf.confirmTrip (h.setSequencer _) away

theorem State.HuntOf.protectionReport (h : t.HuntOf o) (c : Cause) : (t.protectionReport g c).HuntOf o := by
  unfold State.protectionReport
  dsimp only
  split
  · next takes => exact h.enterTripping (h.away (Sequencer.takesTrip_away takes)) _
  · exact .ite (h.setSequencer _) h

theorem State.HuntOf.seqTripConfirmed (h : t.HuntOf o) (b : Bool) (c : Option Cause) :
    (t.seqTripConfirmed g b c).HuntOf o := by
  unfold State.seqTripConfirmed
  dsimp only
  split
  · next tripping => exact h.endTripping (h.away (by simp [tripping])) c
  split
  · next failed =>
    have away := h.away (g := g) (by simp [failed])
    exact State.HuntOf.lockout (.ite h.patrolIfDue h) away _ _
  split
  · next takes =>
    have away := h.away (Sequencer.takesTrip_away (Bool.and_eq_true _ _ ▸ takes).2)
    exact (h.enterTripping away c).confirmTrip away
  split
  · next closed => exact h.enterOpen (h.away (by obtain state | state := closed <;> simp [state])) _
  · exact h

theorem State.HuntOf.seqAlreadyOpen (h : t.HuntOf o) (b : Bool) (c : Option Cause) : (t.seqAlreadyOpen g b c).HuntOf o := by
  unfold State.seqAlreadyOpen
  dsimp only
  split
  · exact h
  split
  · next tripping => exact h.endTripping (h.away (by simp [tripping])) c
  split
  · next takes =>
    have away := h.away (Sequencer.takesTrip_away takes)
    exact (h.enterTripping away c).confirmTrip away
  · exact h

theorem State.HuntOf.seqBreakerFail (h : t.HuntOf o) : (t.seqBreakerFail g).HuntOf o := by
  unfold State.seqBreakerFail
  dsimp only
  split
  · exact h
  · next state => exact h.setSequencer_away (h.away state) _

theorem State.HuntOf.seqLateOpen (h : t.HuntOf o) : (t.seqLateOpen g).HuntOf o := by
  unfold State.seqLateOpen
  dsimp only
  split
  · next state => exact h.lockout (h.away (by obtain state | state | state := state <;> simp [state])) _ _
  · exact h

theorem State.HuntOf.seqCloseConfirmed (h : t.HuntOf o) (p : ClosePurpose) : (t.seqCloseConfirmed g p).HuntOf o := by
  unfold State.seqCloseConfirmed
  dsimp only
  split
  · split
    · next granted => exact h.setSequencer_away (h.away (Sequencer.reclosingIn_away granted)) _
    · exact h
  split
  · next stands =>
    exact h.setSequencer_away (h.away (Sequencer.standsOpen_away stands)) _ (by simp [Sequencer.enterReclaimMarked])
  · exact h

/-- A failed manual close finds the sequencer in OPEN or LOCKOUT (R80). -/
theorem State.HuntOf.lockout_standing (h : t.HuntOf o) (r : LockoutReason) :
    (if (t.sequencer g).standsOpen then t.lockout g r none else t).HuntOf o := by
  split
  · next stands => exact h.lockout (h.away (Sequencer.standsOpen_away stands)) _ _
  · exact h

theorem State.HuntOf.seqCloseFail (h : t.HuntOf o) (p : ClosePurpose) : (t.seqCloseFail g p).HuntOf o := by
  cases p with
  | auto =>
    unfold State.seqCloseFail
    dsimp only
    split
    · next granted => exact h.lockout (h.away (Sequencer.reclosingIn_away granted)) _ _
    · exact h
  | hunt => exact h
  | remote => exact h.lockout_standing _
  | localClose => exact h.lockout_standing _

theorem State.HuntOf.seqCut (h : t.HuntOf o) (p : ClosePurpose) : (t.seqCut g p).HuntOf o := by
  cases p with
  | auto =>
    unfold State.seqCut
    dsimp only
    split
    · next granted => exact h.enterTripping (h.away (Sequencer.reclosingIn_away granted)) _
    · exact h
  | hunt => exact h
  | remote => exact h.setSequencer _
  | localClose => exact h.setSequencer _

theorem State.HuntOf.seqGrant (h : t.HuntOf o) : (t.seqGrant g).HuntOf o := by
  unfold State.seqGrant
  dsimp only
  split
  · next asked =>
    have away := h.away (Sequencer.reclosingIn_away asked)
    split
    · exact h.setSequencer _
    · exact h.enterOpen away _
  · exact h

theorem State.HuntOf.seqRefused (h : t.HuntOf o) (r : CloseRefusal) : (t.seqRefused g r).HuntOf o := by
  unfold State.seqRefused
  dsimp only
  split
  · next asked =>
    have away := h.away (Sequencer.reclosingIn_away asked)
    exact .ite (h.lockout away _ _) (h.enterOpen away _)
  · exact h

theorem State.HuntOf.seqUnexpected (h : t.HuntOf o) (b : Bool) : (t.seqUnexpected g b).HuntOf o := by
  unfold State.seqUnexpected
  dsimp only
  split
  · split
    · next closed => exact h.enterOpen (h.away (by obtain state | state := closed <;> simp [state])) _
    · exact h
  split
  · next stands =>
    rw [Bool.or_eq_true] at stands
    have away : (t.sequencer g).state ≠ .hunt := by
      obtain stands | dead := stands
      · exact Sequencer.standsOpen_away stands
      · simp [eq_of_beq dead]
    exact h.setSequencer_away (h.away away) _ (by simp [Sequencer.enterReclaimMarked])
  · exact h

/-! ### Breaker interface (R53 to R62) -/

theorem State.HuntOf.tripRequest (h : t.HuntOf o) (r : TripRequest) : (t.tripRequest g r).1.HuntOf o :=
  h.within ((State.Within.refl _ _ _).tripRequest (by decide) (by simp) r)

theorem State.HuntOf.closeRequest (h : t.HuntOf o) (p : ClosePurpose) (r : Requester) : (t.closeRequest g p r).1.HuntOf o :=
  h.within ((State.Within.refl _ _ _).closeRequest (by decide) (by simp) p r)

theorem State.HuntOf.tellCut (h : t.HuntOf o) (op : CloseOp) : (t.tellCut g op).HuntOf o := by
  unfold State.tellCut
  dsimp only
  split
  · exact (h.reply _ _).seqCut _
  · exact h.seqCut _

theorem State.HuntOf.tripConfirmedRecord (h : t.HuntOf o) (op : TripOp) : (t.tripConfirmedRecord g op).HuntOf o :=
  (((h.setBreaker _).append _ _ _).setFlag _).setBreaker _

theorem State.HuntOf.breakerFailRecord (h : t.HuntOf o) (op : TripOp) : (t.breakerFailRecord g op).HuntOf o :=
  ((h.setBreaker _).append _ _ _).setFlag _

theorem State.HuntOf.lateOpenRecord (h : t.HuntOf o) (x : FailedTrip) : (t.lateOpenRecord g x).HuntOf o :=
  ((h.setBreaker _).append _ _ _).setFlag _

theorem State.HuntOf.closeConfirmedRecord (h : t.HuntOf o) (op : CloseOp) : (t.closeConfirmedRecord g op).HuntOf o :=
  ((h.setBreaker _).append _ _ _).setFlag _

theorem State.HuntOf.closeFailRecord (h : t.HuntOf o) (op : CloseOp) : (t.closeFailRecord g op).HuntOf o :=
  ((h.setBreaker _).append _ _ _).setFlag _

theorem State.HuntOf.unexpectedRecord (h : t.HuntOf o) (b : Bool) (x y : Decoded) : (t.unexpectedRecord g b x y).HuntOf o :=
  (h.record _ _ _).setFlag _

theorem State.HuntOf.positionFault (h : t.HuntOf o) : (t.positionFault g).HuntOf o :=
  ((h.setBreaker _).record _ _ _).setFlag _

theorem State.HuntOf.clearPositionFault (h : t.HuntOf o) : (t.clearPositionFault g).HuntOf o :=
  .ite ((h.setBreaker _).record _ _ _) h

theorem State.HuntOf.readContacts (h : t.HuntOf o) (c : Contacts) : (t.readContacts g c).HuntOf o :=
  .ite (h.setBreaker _).clearPositionFault (h.setBreaker _)

theorem State.HuntOf.lateOpen (h : t.HuntOf o) (x : FailedTrip) : (t.lateOpen g x).HuntOf o :=
  (h.lateOpenRecord x).seqLateOpen

/-! ### Line bus (R131 to R146) -/

theorem State.HuntOf.enterBus (h : t.HuntOf o) (st : BusState) (c : List Byte) : (t.enterBus st c).HuntOf o := h.setBus _

theorem State.HuntOf.mapQueue (h : t.HuntOf o) (k : List BusEntry → List BusEntry) : (t.mapQueue k).HuntOf o := h.setBus _

theorem State.HuntOf.startPreamble (h : t.HuntOf o) : t.startPreamble.HuntOf o :=
  h.within ((State.Within.refl _ _ _).startPreamble (by decide))

theorem State.HuntOf.busEnqueue (h : t.HuntOf o) (e : BusEntry) : (t.busEnqueue e).HuntOf o :=
  h.within ((State.Within.refl _ _ _).busEnqueue (by decide) e)

theorem State.HuntOf.unitHeard (h : t.HuntOf o) (a : Nat) (w : UnitWord) : (t.unitHeard a w).HuntOf o :=
  h.within ((State.Within.refl _ _ _).unitHeard (by decide) (by decide) a w)

theorem State.HuntOf.takeReport (h : t.HuntOf o) (r : ReportTaken) : (t.takeReport r).1.HuntOf o :=
  h.within ((State.Within.refl _ _ _).takeReport (by decide) (by decide) r)

theorem State.HuntOf.setIsolated (h : t.HuntOf o) (a : Nat) (v : Bool) : (t.setIsolated a v).HuntOf o :=
  .ite h (((h.setBus _).setFlag _).requestRetention _)

theorem State.HuntOf.busHandOn (h : t.HuntOf o) (e : BusEntry) (c : CompletionCode) : (t.busHandOn e c).HuntOf o :=
  h.within ((State.Within.refl _ _ _).busHandOn (by decide) (by decide) (by decide) e c)

theorem State.HuntOf.endAttempt (h : t.HuntOf o) (c : CompletionCode) : (t.endAttempt c).1.HuntOf o :=
  h.within ((State.Within.refl _ _ _).endAttempt (by decide) (by decide) (by decide) c)

theorem State.HuntOf.withdrawHunt (h : t.HuntOf o) : t.withdrawHunt.1.HuntOf o :=
  h.within ((State.Within.refl _ _ _).withdrawHunt (by decide))

/-! ### Protection unit and fire controller (R6, R9, R34 to R38, R120, R122) -/

theorem Baseline.limited_frozen (b : Baseline) (acc k limit : Nat) : (b.limited acc k limit).frozen = b.frozen := by
  unfold Baseline.limited
  split <;> rfl

theorem Baseline.push_frozen (b : Baseline) (j k limit : Nat) : (b.push j k limit).frozen = b.frozen := by
  unfold Baseline.push
  split
  · exact b.limited_frozen _ _ _
  · rfl

theorem Protection.evaluate_frozen (v : Protection) (e : Effective) (oc ef : Curve) (x : Sample) :
    (v.evaluate e oc ef x).unit.base.frozen = v.base.frozen := by
  unfold Protection.evaluate
  dsimp only
  split <;> rfl

theorem State.HuntOf.baselineHigh (h : t.HuntOf o) (v l : Nat) : (t.baselineHigh g v l).HuntOf o :=
  (h.record _ _ _).setFlag _

theorem State.HuntOf.updateBaseline (h : t.HuntOf o) (x : Sample) : (t.updateBaseline g x).HuntOf o := by
  have updated := h.setUnit (g := g)
    { t.unit g with base := (t.unit g).base.update x.i0 (t.effective g).group.shift (t.effective g).group.limit }
    (Baseline.limited_frozen _ _ _ _)
  exact .ite h (.ite (updated.baselineHigh _ _) updated)

theorem State.HuntOf.push (h : t.HuntOf o) (old new : Effective) : (t.push g old new).HuntOf o := by
  have pushed := h.setUnit (g := g) ((t.unit g).pushed old new) (Baseline.push_frozen _ _ _ _)
  exact .ite (pushed.baselineHigh _ _) pushed

theorem State.HuntOf.levelChanged (h : t.HuntOf o) (old new : Effective) (c : FireCause) :
    (t.levelChanged g old new c).HuntOf o := .ite h ((h.append _ _ _).setFlag _)

end Sys2Proof.Machine
end

section
/-! SUPPORT. Where a hunt begins and ends the four marks of R36, R84 and R152 move together; between, the engine carries its
blocks on only while they stand on its feeder. -/

namespace Sys2Proof.Machine

variable {s t u : State} {o : Option Feeder} {f g : Feeder}

/-! ### The beginning of a hunt (R84, R100, R155) -/

/-- The sequencer and the protection unit follow an engine and a HUNT entry that stand on their feeder (R84). -/
theorem State.HuntOf.park (engine : ∀ f, t.huntOn f = decide (some g = some f))
    (entries : ∀ f, huntEntries (t.holdTable f).list = if some g = some f then 1 else 0)
    (parked : ∀ f, f ≠ g → (t.sequencer f).state ≠ .hunt) (frozen : ∀ f, f ≠ g → (t.unit f).base.frozen = false) :
    (t.park g).HuntOf (some g) := by
  unfold State.park State.moveSequencer State.setFreeze
  refine ⟨engine, entries, fun f => ?_, fun f => ?_⟩
  · rw [State.setUnit_sequencer, State.setSequencer_sequencer]
    split
    · next here => simp [here, Sequencer.enterHunt]
    · next there => exact iff_of_false (parked f there) fun here => there (Option.some.inj here).symm
  · rw [State.setUnit_unit]
    split
    · next here => simp [here]
    · next there => simp [frozen f there, Ne.symm there]

/-- A HUNT entry is handed on to the sequencer and the protection unit alone (R92). -/
theorem State.placed_parks {e : Hold} (own : e.owner = .hunt) (t : State) (r : Bool) (p : Option Port) (a : Option Feeder) :
    t.placed g e r p a = ((t.append (some g) (sourceOf p .holdTable)
      (.holdPlaced e r p (t.holdTable g).list.length a)).setFlag .holds).park g := by
  simp [State.placed, own, Hold.isRetained, Owner.isMaster]

/-- The HUNT placement of a hunt that has just taken its feeder: entry, sequencer and freeze mark follow the engine. -/
theorem State.HuntOf.placeHunt (h : t.HuntOf none) (x : Hunt) (feeder : x.feeder = some g) (standing : x.standing = true) :
    ((t.setHunt x).placeHunt g).HuntOf (some g) := by
  have free : hasOwner ((t.setHunt x).holdTable g).list .hunt = false := by
    rw [State.setHunt_holdTable, hasOwner_hunt, h.entries]
    rfl
  unfold State.placeHunt State.placeAutomatic State.placeHold
  rw [free]
  dsimp only
  rw [if_neg Bool.false_ne_true, State.placed_parks rfl]
  refine State.HuntOf.park (fun f => ?_) (fun f => ?_) (fun f _ => ?_) fun f _ => ?_
  · simp [State.huntOn_standing, feeder, standing, beq_eq_decide]
  · have none_else := h.entries f
    by_cases here : f = g
    · subst here
      simpa [huntEntries, State.automaticHold] using none_else
    · simpa [State.setHoldTable_holdTable, here, Ne.symm here] using none_else
  · simpa using mt (h.parked f).1 (by simp)
  · simpa using h.frozen f

/-! ### The end of a hunt (R85, R100, R169, R170) -/

theorem State.HuntOf.cancelWindow (h : t.HuntOf o) : (t.cancelWindow g).HuntOf o := h.setUnit _

theorem State.HuntOf.huntRelease (h : t.HuntOf o) : (t.huntRelease g).HuntOf o := by
  unfold State.huntRelease
  dsimp only
  split
  · exact (h.withdrawHunt.setHunt _).cancelWindow
  · exact h.withdrawHunt.cancelWindow

/-- The sequencer and the protection unit of an ended hunt follow its entry and its engine (R85). -/
theorem State.HuntOf.unpark (entries : ∀ f, huntEntries (t.holdTable f).list = 0)
    (parked : ∀ f, f ≠ g → (t.sequencer f).state ≠ .hunt) (frozen : ∀ f, f ≠ g → (t.unit f).base.frozen = false)
    (x : Hunt) (ended : x.standing = false) : ((t.unpark g).setHunt x).HuntOf none := by
  unfold State.unpark State.moveSequencer State.setFreeze
  refine ⟨fun f => ?_, entries, fun f => ?_, fun f => ?_⟩
  · simp [State.huntOn_standing, ended]
  · rw [State.setHunt_sequencer, State.setUnit_sequencer, State.setSequencer_sequencer]
    refine iff_of_false ?_ nofun
    split
    · simp only [Sequencer.leaveHunt]
      split <;> decide
    · next there => exact parked f there
  · rw [State.setHunt_unit, State.setUnit_unit]
    split
    · rfl
    · next there => simp [frozen f there]

/-- The HUNT removal of a hunt that ends: entry, sequencer and freeze mark follow the engine. -/
theorem State.HuntOf.removeHunt (h : t.HuntOf (some g)) (x : Hunt) (ended : x.standing = false) :
    ((t.removeHunt g).setHunt x).HuntOf none := by
  have one : huntEntries (t.holdTable g).list = 1 := by rw [h.entries, if_pos rfl]
  unfold State.removeHunt
  split
  · next e found =>
    have own : e.owner = .hunt := by simpa using List.find?_some found
    unfold State.takeOffHold
    dsimp only
    rw [if_pos own]
    refine State.HuntOf.unpark (fun f => ?_) (fun f there => ?_) (fun f there => ?_) x ended
    · have entries := h.entries f
      by_cases here : f = g
      · subst here
        simp only [huntEntries] at one
        simp [huntEntries, List.countP_erase, own, List.mem_of_find?_eq_some found, one]
      · simpa [State.setHoldTable_holdTable, here, Ne.symm here] using entries
    · simpa using mt (h.parked f).1 fun here => there (Option.some.inj here).symm
    · simpa [Ne.symm there] using h.frozen f
  · next missing =>
    rw [List.find?_eq_none] at missing
    have zero : huntEntries (t.holdTable g).list = 0 := List.countP_eq_zero.2 missing
    exact absurd (zero.symm.trans one) Nat.zero_ne_one

theorem State.HuntOf.huntFinish (h : t.HuntOf (some g)) (r : EndReason) (d : EndDetail) :
    (t.huntFinish g r d).HuntOf none := ((h.huntRelease.removeHunt _ rfl).record _ _ _).setFlag _

theorem State.HuntOf.huntAborted (h : t.HuntOf (some g)) : (t.huntAborted g).HuntOf none := by
  unfold State.huntAborted
  split
  · exact .causedBy _ _ (h.huntFinish _ _)
  · exact h.huntFinish _ _

/-! ### Chains of blocks (R156, R162) -/

/-- The four marks stand together where a chain of blocks has come to, and on its feeder where another block begins. -/
structure GoKept (f : Feeder) (go : Go) : Prop where
  kept : go.1.HuntKept
  next : ∀ b, go.2 = some b → go.1.HuntOf (some f)

/-- No block begins. -/
theorem State.HuntKept.rests (h : t.HuntKept) : GoKept g (t, none) := ⟨h, fun _ begins => nomatch begins⟩

theorem State.HuntOf.rests (h : t.HuntOf o) : GoKept g (t, none) := h.kept.rests

/-- A block begins where the hunt stands. -/
theorem State.HuntOf.begins (h : t.HuntOf (some g)) (b : Nat) : GoKept g (t, some b) := ⟨h.kept, fun _ _ => h⟩

/-- One of two ways to go on. -/
theorem GoKept.ite {c : Prop} [Decidable c] {a b : Go} (h : GoKept g a) (k : GoKept g b) : GoKept g (if c then a else b) := by
  split
  · exact h
  · exact k

theorem State.HuntOf.huntOver (h : t.HuntOf (some g)) (r : EndReason) (d : EndDetail) : GoKept g (t.huntOver g r d) :=
  (h.huntFinish r d).rests

theorem State.HuntOf.closePause (h : t.HuntOf (some g)) (r : PauseReason) : (t.closePause g r).HuntOf (some g) :=
  ((h.setHunt_on _).record _ _ _).setFlag _

theorem State.HuntOf.proceed (h : t.HuntOf (some g)) (b : Nat) : GoKept g (t.proceed b) :=
  .ite (State.HuntOf.rests (h.setHunt_on _)) (h.begins b)

theorem State.HuntOf.takeDetour (h : t.HuntOf (some g)) (n : Nat) : GoKept g (t.takeDetour g n) :=
  .ite (State.HuntOf.huntOver (h.setHunt _) _ _) (State.HuntOf.proceed (State.HuntOf.setHunt (h.setHunt _) _) _)

theorem State.HuntOf.chooseNext (h : t.HuntOf (some g)) (n : Nat) : GoKept g (t.chooseNext g n) := by
  unfold State.chooseNext
  dsimp only
  split
  · exact h.takeDetour n
  split
  · exact State.HuntOf.proceed (h.setHunt _) _
  · exact .ite (h.huntOver _ _) (h.proceed n)

theorem State.HuntOf.traceBlock (h : t.HuntOf o) (b : BlockOutcome) (r : Bool) : (t.traceBlock g b r).HuntOf o :=
  .ite (((h.setHunt _).record _ _ _).setFlag _) (h.setHunt _)

theorem State.HuntOf.completeBlock (h : t.HuntOf (some g)) (b : BlockOutcome) (r : Bool) : GoKept g (t.completeBlock g b r) :=
  (h.traceBlock b r).chooseNext _

theorem State.HuntOf.detourBlock (h : t.HuntOf (some g)) : GoKept g (t.detourBlock g) :=
  State.HuntOf.completeBlock (h.cancelWindow.setHunt _) _ _

/-! ### Unit and breaker operations of the engine (R157, R158, R160) -/

theorem State.HuntOf.huntOffer (h : t.HuntOf o) (k : UnitCommandKind) : (t.huntOffer g k).1.HuntOf o := by
  have offered : (t.offerHunt g t.currentBlock.unit k).1.HuntOf o :=
    h.within ((State.Within.refl _ _ _).offerHunt (by decide) g _ k)
  unfold State.huntOffer
  dsimp only
  split
  · exact offered.setHunt _
  · exact offered
  · exact offered

theorem State.HuntOf.huntTrip (h : t.HuntOf o) : (t.huntTrip g).1.HuntOf o := by
  unfold State.huntTrip
  dsimp only
  split
  · exact (h.tripRequest _).tellCut _
  · exact h.tripRequest _

theorem State.HuntOf.huntTripFailed (h : t.HuntOf (some g)) : GoKept g (t.huntTripFailed g) :=
  (h.huntFinish _ _).seqBreakerFail.rests

theorem State.HuntOf.awaitTrip (h : t.HuntOf o) : GoKept g t.awaitTrip := State.HuntOf.rests (h.setHunt _)

theorem State.HuntOf.huntSecure (h : t.HuntOf (some g)) : GoKept g (t.huntSecure g) := by
  have securing := h.setHunt { t.hunt with phase := .securing, awaiting := .nothing }
  unfold State.huntSecure
  dsimp only
  split
  · refine .ite (securing.completeBlock _ _) ?_
    split
    · exact (securing.huntOffer _).rests
    · exact (securing.huntOffer _).huntOver _ _
  refine .ite (securing.completeBlock _ _) ?_
  split
  · exact securing.huntTrip.awaitTrip
  · exact securing.huntTrip.awaitTrip
  · exact securing.huntTrip.awaitTrip
  · exact securing.huntTrip.completeBlock _ _
  · exact securing.huntTrip.huntTripFailed

theorem State.HuntOf.testDecided (h : t.HuntOf (some g)) (b : Bool) : GoKept g (t.testDecided g b) :=
  .ite h.huntSecure (h.completeBlock _ _)

/-! ### Observation (R159, R160) -/

theorem State.HuntOf.openWindow (h : t.HuntOf o) : (t.openWindow g).HuntOf o := State.HuntOf.setUnit (h.setHunt _) _

theorem State.HuntOf.countWindow (h : t.HuntOf o) (n : Nat) : (t.countWindow n).HuntOf o := h.setHunt _

theorem State.HuntOf.huntObserve (n : Nat) (h : t.HuntOf (some g)) : GoKept g (huntObserve g n t) := by
  induction n generalizing t with
  | zero => exact h.testDecided _
  | succ n ih =>
    exact .ite (.ite ((h.countWindow 0).testDecided _) (ih (h.countWindow 0))) h.openWindow.rests

theorem State.HuntOf.windowClosed (h : t.HuntOf (some g)) (w : WindowReport) : GoKept g (t.windowClosed g w) :=
  .ite ((h.countWindow _).testDecided _) ((h.countWindow _).huntObserve _)

/-! ### Acting (R156 to R158, R161, R165) -/

theorem State.HuntOf.actionEnded (h : t.HuntOf (some g)) (b : BlockOutcome) : GoKept g (t.actionEnded g b) :=
  .ite (State.HuntOf.detourBlock (h.setHunt _)) (State.HuntOf.huntObserve _ (h.setHunt _))

theorem State.HuntOf.unitFailed (h : t.HuntOf (some g)) (c : FailCode) : GoKept g (t.unitFailed g c) :=
  .ite (.ite (State.HuntOf.detourBlock (h.setHunt _)) (State.HuntOf.testDecided (h.setHunt _) _))
    (State.HuntOf.huntOver (h.setHunt _) _ _)

theorem State.HuntOf.actUnit (h : t.HuntOf (some g)) (k : UnitCommandKind) : GoKept g (t.actUnit g k) := by
  unfold State.actUnit
  dsimp only
  refine .ite (h.unitFailed _) ?_
  split
  · exact (h.huntOffer k).rests
  · exact (h.huntOffer k).unitFailed _

theorem State.HuntOf.actOpenBreaker (h : t.HuntOf (some g)) : GoKept g (t.actOpenBreaker g) := by
  unfold State.actOpenBreaker
  dsimp only
  split
  · exact h.huntTrip.awaitTrip
  · exact h.huntTrip.awaitTrip
  · exact h.huntTrip.awaitTrip
  · exact h.huntTrip.actionEnded _
  · exact h.huntTrip.huntTripFailed

theorem State.HuntOf.huntRefused (h : t.HuntOf (some g)) (r : CloseRefusal) : GoKept g (t.huntRefused g r) := by
  cases r with
  | notOpen => exact h.actionEnded _
  | barred => exact (h.closePause _).rests
  | busy => exact .ite (h.actionEnded _) (h.huntOver _ _)

/-- The engine acts on the taking of its close only where its hunt stands (R158, R167). -/
theorem State.HuntKept.huntCloseTaken (h : t.HuntKept) (c : CloseTaken) : GoKept g (t.huntCloseTaken g c) := by
  obtain same | ⟨_, feeder, ⟨_, granted⟩ | ⟨r, _, _, ⟨state, refused⟩ | ⟨state, aborted⟩⟩⟩ := t.huntCloseTaken_cases g c
  · rw [same]; exact h.rests
  · rw [granted]; exact State.HuntKept.rests (h.keep fun k => k.setHunt _)
  · rw [refused]; exact (h.on (by simp [State.huntOn, feeder, state])).huntRefused r
  · rw [aborted]; exact (h.on (by simp [State.huntOn, feeder, state])).huntAborted.rests

theorem State.HuntKept.takeHuntClose (h : t.HuntKept) : GoKept g (t.takeHuntClose g) :=
  State.HuntKept.huntCloseTaken (h.keep fun k => (k.setBreaker _).closeRequest _ _) _

theorem State.HuntOf.actCloseBreaker (h : t.HuntOf (some g)) : GoKept g (t.actCloseBreaker g) := by
  have sent : (t.sendHuntClose g).HuntOf (some g) := State.HuntOf.setBreaker (h.setHunt _) _
  exact .ite (h.actionEnded _) (.ite sent.kept.takeHuntClose sent.rests)

theorem State.HuntOf.actClose (h : t.HuntOf (some g)) : GoKept g (t.actClose g) := by
  unfold State.actClose
  split
  · exact h.actUnit _
  · exact h.actUnit _
  · exact h.actCloseBreaker

theorem State.HuntOf.markUnit (h : t.HuntOf o) : (t.markUnit g).HuntOf o := by
  unfold State.markUnit
  dsimp only
  split
  · exact h
  · exact State.HuntOf.setIsolated (.ite h (h.setHunt _)) _ _

theorem State.HuntOf.huntReturn (h : t.HuntOf (some g)) : GoKept g (t.huntReturn g) := by
  unfold State.huntReturn
  dsimp only
  split
  · exact (h.traceBlock _ _).huntOver _ _
  · exact State.HuntOf.chooseNext ((h.traceBlock _ _).setHunt _) _

theorem State.HuntOf.beginBlock (h : t.HuntOf (some g)) (b : Nat) : GoKept g (t.beginBlock g b) := by
  have entered := h.setHunt_on (t.hunt.enterBlock b)
  unfold State.beginBlock
  dsimp only
  split
  · exact (entered.traceBlock _ _).huntOver _ _
  · exact entered.huntReturn
  · exact entered.markUnit.completeBlock _ _
  · exact entered.huntObserve _
  · exact entered.actUnit _
  · exact entered.actOpenBreaker
  split
  · exact (entered.closePause _).rests
  · exact entered.actClose

/-- A chain of blocks carried on within the step budget (R156). -/
theorem GoKept.huntRun {go : Go} (h : GoKept g go) : (State.huntRun go g).HuntKept := by
  unfold State.huntRun
  generalize stepBudget - go.1.hunt.steps = n
  induction n generalizing go with
  | zero =>
    obtain ⟨t, _ | b⟩ := go
    · exact h.kept
    · exact ((h.next b rfl).huntFinish _ _).kept
  | succ n ih =>
    obtain ⟨t, _ | b⟩ := go
    · exact h.kept
    · exact ih ((h.next b rfl).beginBlock b)

/-! ### What the engine is told (R156 to R168) -/

/-- An engine that is in a standing state on a feeder has its hunt there (R152). -/
theorem State.HuntKept.running (h : t.HuntKept) (is : t.huntIs g .running = true) : t.HuntOf (some g) :=
  h.on (by simp [State.huntOn_iff, is])

theorem State.HuntKept.paused (h : t.HuntKept) (is : t.huntIs g .paused = true) : t.HuntOf (some g) :=
  h.on (by simp [State.huntOn_iff, is])

theorem State.HuntKept.stopping (h : t.HuntKept) (is : t.huntIs g .stopping = true) : t.HuntOf (some g) :=
  h.on (by simp [State.huntOn_iff, is])

theorem State.HuntKept.alive (h : t.HuntKept) (is : t.huntAlive g = true) : t.HuntOf (some g) := by
  obtain is | is := Bool.or_eq_true _ _ ▸ is
  · exact h.running is
  · exact h.paused is

theorem State.HuntKept.huntNote (h : t.HuntKept) (k : StoppingNotes → StoppingNotes) : (t.huntNote k).HuntKept :=
  h.keep fun k => k.setHunt _

/-- The end of a hunt that is RUNNING or PAUSED, told of by an event in STOPPING in a note alone (R167, R168). -/
theorem State.HuntKept.huntFinish_alive (h : t.HuntKept) (k : StoppingNotes → StoppingNotes) (r : EndReason)
    (d : EndDetail) :
    (if t.huntIs g .stopping then t.huntNote k else if t.huntAlive g then t.huntFinish g r d else t).HuntKept := by
  split
  · exact h.huntNote k
  split
  · next alive => exact ((h.alive alive).huntFinish r d).kept
  · exact h

theorem State.HuntOf.tripRunning (h : t.HuntOf (some g)) : (t.tripRunning g).HuntKept := by
  unfold State.tripRunning
  dsimp only
  split
  · split
    · exact State.HuntOf.kept (h.setHunt _)
    · exact h.detourBlock.huntRun
  · exact State.HuntOf.kept (h.setHunt _)
  split
  · exact h.kept
  have told := State.HuntOf.ite (c := 1 ≤ t.currentBlock.window ∧ t.currentBlock.tests.trip)
    (h.setHunt { t.hunt with run := { t.hunt.run with heldTrip := true } })
    (h.setHunt { t.hunt with pendingDetour := true })
  split
  · exact (told.actionEnded _).huntRun
  · exact told.kept

theorem State.HuntOf.tripPaused (h : t.HuntOf (some g)) : (t.tripPaused g).HuntKept := by
  unfold State.tripPaused
  dsimp only
  split
  · exact (h.huntFinish _ _).kept
  split
  · exact State.HuntOf.kept (h.setHunt _)
  · exact GoKept.huntRun (State.HuntOf.begins (h.setHunt _) _)

theorem State.HuntKept.huntTripTaken (h : t.HuntKept) : (t.huntTripTaken g).HuntKept := by
  unfold State.huntTripTaken
  split
  · next is => exact (h.running is).tripRunning
  split
  · next is => exact (h.paused is).tripPaused
  · exact h

theorem State.HuntKept.huntTripReport (h : t.HuntKept) : (t.huntTripReport g).HuntKept := by
  unfold State.huntTripReport
  split
  · exact h.huntNote _
  · exact h.huntTripTaken

theorem State.HuntKept.huntUnexpected (h : t.HuntKept) (b : Bool) : (t.huntUnexpected g b).HuntKept := by
  cases b with
  | false => exact h.huntFinish_alive _ _ _
  | true =>
    unfold State.huntUnexpected
    split
    · exact h.huntNote _
    · exact h.huntTripTaken

theorem State.HuntKept.huntUnitMove (h : t.HuntKept) (i : Nat) : (t.huntUnitMove g i).HuntKept := h.huntFinish_alive _ _ _

theorem State.HuntKept.huntMeasurementLost (h : t.HuntKept) : (t.huntMeasurementLost g).HuntKept :=
  h.huntFinish_alive _ _ _

theorem State.HuntKept.huntBreakerFail (h : t.HuntKept) : (t.huntBreakerFail g).HuntKept := h.huntFinish_alive _ _ _

theorem State.HuntKept.huntTripAnswer (h : t.HuntKept) : (t.huntTripAnswer g).HuntKept := by
  unfold State.huntTripAnswer
  split
  · exact h
  split
  · next is => exact (h.stopping is).huntAborted.kept
  split
  · next is =>
    split
    · exact ((h.running is).completeBlock _ _).huntRun
    · exact ((h.running is).actionEnded _).huntRun
  · exact h

theorem State.HuntKept.huntCloseAnswer (h : t.HuntKept) (b : Bool) : (t.huntCloseAnswer g b).HuntKept := by
  unfold State.huntCloseAnswer
  split
  · exact h
  split
  · next is => exact (h.stopping is).huntAborted.kept
  split
  · next is =>
    split
    · exact ((h.running is).actionEnded _).huntRun
    · exact ((h.running is).huntFinish _ _).kept
  · exact h

theorem State.HuntKept.huntCloseCut (h : t.HuntKept) : (t.huntCloseCut g).HuntKept := by
  unfold State.huntCloseCut
  split
  · exact h
  split
  · next is => exact (h.stopping is).huntAborted.kept
  split
  · next is =>
    split
    · exact ((h.running is).actionEnded _).huntRun
    · exact h.keep fun k => k.setHunt _
  · exact h

theorem State.HuntKept.huntWindowReport (h : t.HuntKept) (w : WindowReport) : (t.huntWindowReport g w).HuntKept := by
  unfold State.huntWindowReport
  split
  · next is => exact ((h.running (Bool.and_eq_true _ _ ▸ is).1).windowClosed w).huntRun
  · exact h

theorem State.HuntKept.huntUnitDone (h : t.HuntKept) (c : CompletionCode) : (t.huntUnitDone c).HuntKept := by
  unfold State.huntUnitDone
  split
  · exact h
  next f feeder =>
  split
  · next stopping => exact (h.on (by simp [State.huntOn, feeder, stopping.2])).huntAborted.kept
  split
  · next running =>
    have stands : t.HuntOf (some f) := h.on (by simp [State.huntOn, feeder, running.2])
    split
    · split
      · exact (stands.completeBlock _ _).huntRun
      · exact (stands.huntFinish _ _).kept
    split
    · exact (stands.actionEnded _).huntRun
    · exact (stands.unitFailed _).huntRun
  · exact h.keep fun k => k.setHunt _

theorem State.HuntKept.huntAttemptFailed (h : t.HuntKept) : t.huntAttemptFailed.HuntKept := by
  unfold State.huntAttemptFailed
  split
  · exact h
  next f feeder =>
  split
  · next stopping =>
    have stands : t.HuntOf (some f) := h.on (by simp [State.huntOn, feeder, stopping.1])
    exact stands.withdrawHunt.huntAborted.kept
  split
  · exact h
  · exact h.keep fun k => k.withdrawHunt.setHunt _

theorem State.HuntKept.takeHuntCloses (h : t.HuntKept) : t.takeHuntCloses.HuntKept :=
  State.HuntKept.foldl (fun k _ => .ite k.takeHuntClose.huntRun k) h _

theorem State.HuntKept.huntRecheck (h : t.HuntKept) : (t.huntRecheck g).HuntKept := by
  unfold State.huntRecheck
  split
  · next is =>
    have stands := h.paused (Bool.and_eq_true _ _ ▸ is).1
    split
    · exact h.keep fun k => k.setHunt _
    · exact GoKept.huntRun (State.HuntOf.actClose (stands.setHunt_on _))
  · exact h

/-- The waiting block of a paused hunt begins (R166). -/
theorem State.HuntOf.huntResume (h : t.HuntOf (some g)) : (t.huntResume g).HuntKept :=
  GoKept.huntRun (State.HuntOf.begins (h.setHunt _) _)

theorem State.HuntKept.huntAbortBy (h : t.HuntKept) (p : Port) : (t.huntAbortBy g p).HuntKept := by
  unfold State.huntAbortBy
  split
  · next alive =>
    have stopping := ((h.alive alive).setHunt_on
      { t.hunt with
        state := .stopping, abortPort := some p, pauseTimer := none, pendingDetour := false
        insertion := none }).cancelWindow (g := g)
    dsimp only
    split
    · split
      · exact stopping.withdrawHunt.kept
      · exact stopping.withdrawHunt.huntAborted.kept
    · exact stopping.kept
    · exact stopping.kept
    · exact stopping.kept
    · exact stopping.huntAborted.kept
  · exact h

end Sys2Proof.Machine
end

section
/-! SUPPORT. Every command keeps the four marks of R36, R84 and R152 together: the movements of a breaker, samples and
recomputations, the line bus, the requests, the store and the resets. -/

namespace Sys2Proof.Machine

variable {s t u : State} {o : Option Feeder} {f g : Feeder} {p : Port}

theorem State.HuntKept.respond (h : t.HuntKept) (p : Port) (st : Status) (d : List Byte) : (t.respond p st d).HuntKept :=
  h.keep fun k => k.respond p st d

theorem State.HuntKept.reply (h : t.HuntKept) (p : Port) (st : Status) : (t.reply p st).HuntKept := h.respond p st []

theorem State.HuntKept.badArgument (h : t.HuntKept) (p : Port) : (t.badArgument p).HuntKept := h.reply _ _

theorem State.HuntKept.setPort (h : t.HuntKept) (p : Port) (x : PortState) : (t.setPort p x).HuntKept :=
  h.keep fun k => k.setPort p x

/-- A record and its flag. -/
theorem State.HuntKept.said (h : t.HuntKept) (x : Option Feeder) (b : RecordSource) (d : Details) (fl : AttentionFlag) :
    ((t.append x b d).setFlag fl).HuntKept := h.keep fun k => (k.append _ _ _).setFlag _

theorem State.HuntKept.causedBy (p : Port) (op : State → State) (h : (op t).HuntKept) : (t.causedBy p op).HuntKept :=
  h.keep fun k => k.causedBy p op

/-- A standing RESTART moves. -/
theorem State.HuntOf.setRestart (h : t.HuntOf o) (r : Option RestartWait) : State.HuntOf { t with restart := r } o :=
  ⟨h.engine, h.entries, h.parked, h.frozen⟩

theorem State.HuntKept.pollRestart (h : t.HuntKept) : t.pollRestart.HuntKept := by
  unfold State.pollRestart
  split
  · exact .ite (h.keep fun k => k.setRestart _) h
  · exact h

/-! ### Movements of a breaker (R49 to R63) -/

theorem State.HuntKept.answerTripConfirmed (h : t.HuntKept) (r : Requester) : (t.answerTripConfirmed g r).HuntKept := by
  cases r with
  | master p => exact h.reply _ _
  | hunt => exact h.huntTripAnswer
  | protection => exact h
  | sequencer => exact h

theorem State.HuntKept.answerBreakerFail (h : t.HuntKept) (r : Requester) : (t.answerBreakerFail g r).HuntKept := by
  cases r with
  | master p => exact h.reply _ _
  | hunt => exact h.huntBreakerFail.huntTripAnswer
  | protection => exact h
  | sequencer => exact h

theorem State.HuntKept.tripConfirmed (h : t.HuntKept) (op : TripOp) : (t.tripConfirmed g op).HuntKept :=
  (State.HuntKept.foldl (fun k r => k.answerTripConfirmed r) (h.keep fun k => k.tripConfirmedRecord op) _).keep
    fun k => k.seqTripConfirmed _ _

theorem State.HuntKept.closeConfirmed (h : t.HuntKept) (op : CloseOp) : (t.closeConfirmed g op).HuntKept := by
  have said : (t.closeConfirmedRecord g op).HuntKept := h.keep fun k => k.closeConfirmedRecord op
  unfold State.closeConfirmed
  refine State.HuntKept.keep ?_ fun k => k.seqCloseConfirmed _
  cases op.requester with
  | master p => exact said.reply _ _
  | hunt => exact said.huntCloseAnswer _
  | protection => exact said
  | sequencer => exact said

theorem State.HuntKept.closeFailed (h : t.HuntKept) (op : CloseOp) : (t.closeFailed g op).HuntKept := by
  have said : (t.closeFailRecord g op).HuntKept := h.keep fun k => k.closeFailRecord op
  unfold State.closeFailed
  cases op.requester with
  | master p => exact .causedBy _ _ ((said.reply _ _).keep fun k => k.seqCloseFail _)
  | hunt => exact (said.huntCloseAnswer _).keep fun k => k.seqCloseFail _
  | protection => exact said.keep fun k => k.seqCloseFail _
  | sequencer => exact said.keep fun k => k.seqCloseFail _

theorem State.HuntKept.closeCut (h : t.HuntKept) (op : CloseOp) : (t.closeCut g op).HuntKept := by
  unfold State.closeCut
  split
  · exact h.huntCloseCut.keep fun k => k.seqCut _
  · exact h.keep fun k => k.tellCut op

theorem State.HuntKept.passTrip (h : t.HuntKept) (p : Port) : (t.passTrip g p).HuntKept := by
  have asked : (t.tripRequest g { purpose := .manual, requester := .master p, cause := none }).1.HuntKept :=
    h.keep fun k => k.tripRequest _
  unfold State.passTrip
  dsimp only
  split
  · exact asked
  · exact asked
  · exact asked.closeCut _
  · exact (asked.reply _ _).keep fun k => k.seqAlreadyOpen _ _
  · exact (asked.reply _ _).huntBreakerFail.keep fun k => k.seqBreakerFail

theorem State.HuntKept.failSequencer (h : t.HuntKept) : (t.failSequencer g).HuntKept :=
  .ite h (State.HuntKept.foldl (fun k p => k.passTrip p) (h.keep fun k => k.seqBreakerFail) _)

theorem State.HuntKept.breakerFailed (h : t.HuntKept) (op : TripOp) : (t.breakerFailed g op).HuntKept :=
  (State.HuntKept.foldl (fun k r => k.answerBreakerFail r)
    (h.keep fun k => k.breakerFailRecord op) _).huntBreakerFail.failSequencer

theorem State.HuntKept.unexpectedMovement (h : t.HuntKept) (b : Bool) (x y : Decoded) :
    (t.unexpectedMovement g b x y).HuntKept :=
  State.HuntKept.huntUnexpected (h.keep fun k => (k.unexpectedRecord b x y).seqUnexpected b) b

theorem State.HuntKept.changedToOpen (h : t.HuntKept) (b : Bool) (x : Decoded) : (t.changedToOpen g b x).HuntKept := by
  unfold State.changedToOpen
  dsimp only
  split
  · split
    · split
      · exact h.keep fun k => (k.setBreaker _).lateOpen _
      · exact h.keep fun k => k.setBreaker _
    · exact h.tripConfirmed _
  · split
    · exact h.keep fun k => k.lateOpen _
    · exact .ite (h.unexpectedMovement _ _ _) h

theorem State.HuntKept.changedToClosed (h : t.HuntKept) (b : Bool) (x : Decoded) : (t.changedToClosed g b x).HuntKept := by
  unfold State.changedToClosed
  dsimp only
  split
  · exact h.closeConfirmed _
  · exact .ite h (.ite (h.keep fun k => k.setBreaker _) (h.unexpectedMovement _ _ _))
  · exact .ite h (h.unexpectedMovement _ _ _)

theorem State.HuntKept.contactChange (h : t.HuntKept) (c : Contacts) : (t.contactChange g c).HuntKept := by
  have read : (t.readContacts g c).HuntKept := h.keep fun k => k.readContacts c
  unfold State.contactChange
  dsimp only
  refine .ite h ?_
  split
  · exact read.changedToOpen _ _
  · exact read.changedToClosed _ _
  · exact read
  · exact read

theorem State.HuntKept.pulseEnd (h : t.HuntKept) : (t.pulseEnd g).HuntKept := by
  unfold State.pulseEnd
  dsimp only
  split
  · exact h
  · split
    · exact .ite (h.tripConfirmed _) (h.keep fun k => k.setBreaker _)
    · exact h
    · exact h.keep fun k => k.setBreaker _
  · exact .ite (h.keep fun k => k.setBreaker _) h

theorem State.HuntKept.tripTimeEnd (h : t.HuntKept) : (t.tripTimeEnd g).HuntKept := by
  unfold State.tripTimeEnd
  dsimp only
  split
  · exact .ite h (.ite (h.tripConfirmed _) (h.breakerFailed _))
  · exact h

theorem State.HuntKept.closeTimeEnd (h : t.HuntKept) : (t.closeTimeEnd g).HuntKept := by
  unfold State.closeTimeEnd
  split
  · exact h.closeFailed _
  · exact h

/-! ### Samples and losses (R1 to R9, R25, R26, R34, R45) -/

theorem State.HuntKept.protectionTrip (h : t.HuntKept) (c : Cause) : (t.protectionTrip g c).HuntKept := by
  have asked : (t.tripRequest g { purpose := .protection, requester := .protection, cause := some c }).1.HuntKept :=
    h.keep fun k => k.tripRequest _
  unfold State.protectionTrip
  refine State.HuntKept.huntTripReport (State.HuntKept.keep ?_ fun k => k.protectionReport c)
  split
  · exact asked
  · exact asked
  · exact asked.huntBreakerFail.failSequencer
  · exact asked.closeCut _
  · exact asked.keep fun k => k.seqAlreadyOpen _ _

theorem State.HuntKept.evaluateSample (h : t.HuntKept) (x : Sample) : (t.evaluateSample g x).HuntKept := by
  unfold State.evaluateSample
  dsimp only
  generalize evaluated : (t.unit g).evaluate (t.effective g) _ _ x = v
  have unit : (t.setUnit g v.unit).HuntKept := h.keep fun k => k.setUnit _ (evaluated ▸ Protection.evaluate_frozen _ _ _ _ _)
  have seeded := State.HuntKept.ite (c := v.seedHigh)
    (unit.keep fun k => k.baselineHigh (g := g) x.i0 (t.effective g).group.limit) unit
  have alarmed := State.HuntKept.ite (c := v.alarm) (seeded.said (some g) (.block .protectionUnit)
    (.sefAlarm v.unit.sef.residual (v.unit.base.value (t.effective g).group.shift) (t.effective g).sefDelay) .measurement)
    seeded
  split
  · exact alarmed.protectionTrip _
  · exact alarmed

theorem State.HuntKept.windowSample (h : t.HuntKept) : (t.windowSample g).HuntKept := by
  unfold State.windowSample
  dsimp only
  split
  · exact h
  · exact .ite (State.HuntKept.huntWindowReport (h.keep fun k => k.setUnit _) _) (h.keep fun k => k.setUnit _)

theorem State.HuntKept.takeSample (h : t.HuntKept) (x : Sample) : (t.takeSample g x).HuntKept :=
  State.HuntKept.windowSample (.ite (h.evaluateSample x) ((h.evaluateSample x).keep fun k => k.updateBaseline x))

theorem State.HuntKept.acceptFrame (h : t.HuntKept) (m : Measured) : (t.acceptFrame m).HuntKept := by
  have cleared := State.HuntKept.ite (c := ((t.receiver m.feeder).samples m).1)
    (h.keep fun k => k.setUnit (g := m.feeder) (t.unit m.feeder).clearCounts) h
  have sampled := State.HuntKept.foldl (fun k x => k.takeSample (g := m.feeder) x) cleared ((t.receiver m.feeder).samples m).2
  have received := sampled.keep fun k => k.setReceiver (g := m.feeder) (receiverAfter t.ms m)
  exact .ite (received.said _ _ _ _) received

theorem State.HuntKept.measurementTransfer (h : t.HuntKept) (l : List Byte) : (t.measurementTransfer l).HuntKept := by
  unfold State.measurementTransfer
  split
  · exact .ite h (h.acceptFrame _)
  · exact h

theorem State.HuntKept.watchdogEnd (h : t.HuntKept) : (t.watchdogEnd g).HuntKept := by
  have gone : (t.setReceiver g { t.receiver g with state := .lost, watchdog := none }).HuntKept := h.keep fun k => k.setReceiver _
  exact State.HuntKept.huntMeasurementLost (State.HuntKept.said (gone.keep fun k => k.setUnit _) _ _ _ _)

/-! ### Removals and recomputation (R92, R99, R109 to R113, R120) -/

theorem State.HuntKept.removeHold (h : t.HuntKept) {e : Hold} (ne : e.owner ≠ .hunt) (c : RemovalCause) (p : Option Port) :
    (t.removeHold g e c p).HuntKept :=
  (State.HuntKept.huntRecheck (h.keep fun k => k.takeOffHold ne c p)).keep fun k => k.retainAfter e

/-- An entry found by its owner has it. -/
theorem owner_of_find {l : List Hold} {w : Owner} {e : Hold} (found : l.find? (fun h => h.owner == w) = some e) :
    e.owner = w := by
  simpa using List.find?_some found

/-- An entry found by owner and tag has its owner (R89). -/
theorem owner_of_find_isOf {l : List Hold} {w : Owner} {tag : Nat} {e : Hold} (found : l.find? (Hold.isOf w tag) = some e) :
    e.owner = w := by
  have is := List.find?_some found
  simp only [Hold.isOf, Bool.and_eq_true, beq_iff_eq] at is
  exact is.1

theorem State.HuntKept.reconcileFire (h : t.HuntKept) (e : Effective) : (t.reconcileFire g e).HuntKept := by
  unfold State.reconcileFire State.removeFire
  refine .ite (h.keep fun k => k.placeAutomatic (by decide) _ _) ?_
  split
  · next found => exact h.removeHold (by simp [owner_of_find found]) _ _
  · exact h

theorem State.HuntKept.recomputeFeeder (h : t.HuntKept) (c : FireCause) (f : Feeder) :
    (State.recomputeFeeder c t f).HuntKept := by
  have levelled : ((t.setEffective f (t.computeEffective f)).levelChanged f (t.effective f) (t.computeEffective f) c).HuntKept :=
    h.keep fun k => State.HuntOf.levelChanged (k.setFire _) _ _ _
  exact State.HuntKept.huntRecheck ((levelled.reconcileFire _).keep fun k => k.push _ _)

theorem State.HuntKept.setFire (h : t.HuntKept) (x : FireController) : (t.setFire x).HuntKept := h.keep fun k => k.setFire x

theorem State.HuntKept.recomputeAll (h : t.HuntKept) (c : FireCause) : (t.recomputeAll c).HuntKept :=
  State.HuntKept.foldl (fun k f => k.recomputeFeeder c f) (h.setFire _) _

theorem State.HuntKept.recomputeOne (h : t.HuntKept) (f : Feeder) (c : FireCause) : (t.recomputeOne f c).HuntKept :=
  State.HuntKept.recomputeFeeder (h.setFire _) c f

theorem State.HuntKept.fireRequestChanged (h : t.HuntKept) (p : Port) (r : Option FireRequest) (c : LevelCause) :
    (t.fireRequestChanged p r c).HuntKept :=
  (State.HuntKept.recomputeAll (h.setFire _) _).keep fun k => k.requestRetention _

/-! ### Line bus (R131 to R146) -/

theorem State.HuntOf.gapEnd (h : t.HuntOf o) : t.gapEnd.HuntOf o :=
  .ite ((h.mapQueue _).enterBus _ _) (h.mapQueue _).startPreamble

theorem State.HuntOf.activeSeen (h : t.HuntOf o) : t.activeSeen.HuntOf o := .ite (h.enterBus _ _) (.ite (h.setBus _) h)

theorem State.HuntKept.attemptEnds (h : t.HuntKept) (c : CompletionCode) : (t.attemptEnds c).HuntKept := by
  have ended : (t.endAttempt c).1.HuntKept := h.keep fun k => k.endAttempt c
  unfold State.attemptEnds
  dsimp only
  split
  · exact ended
  · exact .ite ended.huntAttemptFailed ended
  · exact .ite (ended.huntUnitDone _) ended

theorem State.HuntKept.takeReply (h : t.HuntKept) (l : List Byte) (b : Bool) : (t.takeReply l b).HuntKept := by
  unfold State.takeReply
  dsimp only
  split
  · exact State.HuntKept.attemptEnds (h.keep fun k => k.unitHeard _ _) _
  · exact h.attemptEnds _

theorem State.HuntKept.hearFrame (h : t.HuntKept) (l : List Byte) (b : Bool) : (t.hearFrame l b).HuntKept := by
  unfold State.hearFrame
  split
  · exact h.keep fun k => k.enterBus _ _
  · next r _ =>
    have taken : ((t.takeReport r).1.setBus { (t.takeReport r).1.bus with ackTimer := some (t.timer windowOpensMs) }).HuntKept :=
      h.keep fun k => (k.takeReport r).setBus _
    dsimp only
    split
    · exact taken.huntUnitMove _
    · exact taken

theorem State.HuntOf.clampSeen (h : t.HuntOf o) : t.clampSeen.HuntOf o := State.HuntOf.setBus ((h.mapQueue _).enterBus _ _) _

theorem State.HuntKept.completeAll (h : t.HuntKept) (c : CompletionCode) : (t.completeAll c).HuntKept := by
  refine State.HuntKept.foldl (fun {u} k e => ?_) (h.keep fun k => k.mapQueue _) _
  have handed : (u.busHandOn e c).HuntKept := k.keep fun m => m.busHandOn e c
  exact .ite (handed.huntUnitDone c) handed

theorem State.HuntKept.linebusReset (h : t.HuntKept) (p : Port) : (t.linebusReset p).HuntKept := by
  have clamped := State.HuntKept.ite (c := t.bus.state = .clampOut) h (h.keep fun k => k.enterBus .clampOut [])
  exact (clamped.completeAll .aborted).keep fun k => k.setBus _

theorem State.HuntOf.clampOutEnd (h : t.HuntOf o) : t.clampOutEnd.HuntOf o :=
  State.HuntOf.foldl (fun k p => k.reply p _) (State.HuntOf.setBus (h.enterBus _ _) _) _

theorem State.HuntKept.becomeStuck (h : t.HuntKept) : t.becomeStuck.HuntKept :=
  State.HuntKept.said (State.HuntKept.completeAll (h.keep fun k => State.HuntOf.setBus (k.enterBus _ _) _) _) _ _ _ _

theorem State.HuntOf.busRestored (h : t.HuntOf o) : t.busRestored.HuntOf o := ((h.enterBus _ _).append _ _ _).setFlag _

theorem State.HuntOf.unitCommand (h : t.HuntOf o) (p : Port) (a : Nat) (k : UnitCommandKind) :
    (t.unitCommand p a k).HuntOf o :=
  .ite (h.reply _ _) (.ite (h.reply _ _) (.ite (h.reply _ _) (.ite (h.reply _ _) ((h.busEnqueue _).respond _ _ _))))

/-! ### Hold tables (R93 to R102) -/

theorem State.HuntKept.answerHold (h : t.HuntKept) (p : Port) (a : HoldAnswer) : (t.answerHold p a).HuntKept :=
  .ite (h.respond _ _ _) (h.reply _ _)

theorem State.HuntKept.placeMasterHold (h : t.HuntKept) (p : Port) (k : HoldKind) (tag reason minutes : Nat) :
    (t.placeMasterHold p g k tag reason minutes).HuntKept := by
  unfold State.placeMasterHold
  dsimp only
  split
  · next found =>
    have ne := owner_of_find_isOf found
    exact State.HuntKept.answerHold (h.keep fun m => m.refreshHold (by simp [ne]) (by simp [ne]) p) _ _
  · exact .ite (h.reply _ _) (State.HuntKept.answerHold (h.keep fun m => m.placeHold (by simp) _ _) _ _)

theorem State.HuntKept.removeMasterHold (h : t.HuntKept) (p : Port) (w : Owner) (tag : Nat) :
    (t.removeMasterHold p g w tag).HuntKept := by
  unfold State.removeMasterHold
  split
  · exact h.reply _ _
  next master =>
  split
  · next found =>
    have ne : w ≠ .hunt := fun hunt => master (by rw [hunt]; rfl)
    exact (h.removeHold ((owner_of_find_isOf found).trans_ne ne) _ _).answerHold _ _
  · exact h.reply _ _

theorem State.HuntKept.holdExpires (h : t.HuntKept) (p : Port) (tag : Nat) : (t.holdExpires g p tag).HuntKept := by
  unfold State.holdExpires
  split
  · next found => exact .ite (h.removeHold ((owner_of_find_isOf found).trans_ne nofun) _ _) h
  · exact h

theorem State.HuntKept.patrolClear (h : t.HuntKept) (p : Port) : (t.patrolClear p g).HuntKept := by
  unfold State.patrolClear
  split
  · next found => exact (h.removeHold ((owner_of_find found).trans_ne nofun) _ _).answerHold _ _
  · exact h.reply _ _

/-! ### Hunt requests (R153 to R167) -/

/-- A hunt begins only where none stands: an engine that is not BUSY has ended its last (R153). -/
theorem State.HuntKept.startHunt (h : t.HuntKept) (free : t.hunt.busy = false) (p : Port) (a b : Nat) (m : Bool) :
    (t.startHunt p g a b m).HuntKept := by
  have ended : t.hunt.standing = false := by
    simp only [Hunt.busy, Bool.or_eq_false_iff] at free
    simp [Hunt.standing, free]
  obtain ⟨o, stands⟩ := h
  have nowhere : o = none := by
    cases o with
    | none => rfl
    | some f =>
      have engine := stands.engine f
      simp [State.huntOn_standing, ended] at engine
  subst nowhere
  have placed := stands.placeHunt (g := g)
    (t.hunt.begun g b m (reachable t.hunt.memory [a, b]) t.time) rfl rfl
  exact GoKept.huntRun (State.HuntOf.begins (((placed.append _ _ _).setFlag _).reply _ _) _)

theorem State.HuntOf.insertHunt (h : t.HuntOf (some g)) (a : Nat) : (t.insertHunt g a).HuntKept :=
  .ite (State.HuntOf.kept (h.setHunt _)) (.ite (State.HuntOf.kept (h.setHunt _))
    (GoKept.huntRun (State.HuntOf.begins (h.setHunt _) _)))

theorem State.HuntKept.pauseEnd (h : t.HuntKept) : t.pauseEnd.HuntKept := by
  unfold State.pauseEnd
  split
  · exact h
  next f feeder =>
  split
  · next paused => exact ((h.on (g := f) (by simp [State.huntOn, feeder, paused.1])).huntFinish _ _).kept
  · exact h

/-! ### Reclose sequencer (R72 to R80) -/

theorem State.HuntKept.manualOpen (h : t.HuntKept) (p : Port) : (t.manualOpen g p).HuntKept := by
  have opened : (t.sequencer g).state ≠ .hunt → (t.setSequencer g (t.sequencer g).enterOpen).HuntKept :=
    fun state => h.keep fun k => k.enterOpen (k.away state) _
  unfold State.manualOpen
  dsimp only
  split
  · next state => exact (opened (by simp [state])).passTrip p
  · next state => exact (opened (by simp [state])).passTrip p
  · next state => exact (opened (by simp [state])).passTrip p
  · next state => exact .ite (h.keep fun k => k.setSequencer _) ((opened (by simp [state])).passTrip p)
  · exact State.HuntKept.passTrip (h.keep fun k => k.setSequencer _) p
  · exact h.passTrip p
  · exact (h.huntAbortBy p).passTrip p
  · exact .ite (h.passTrip p) (h.reply _ _)

theorem State.HuntOf.manualClose (h : t.HuntOf o) (p : Port) : (t.manualClose g p).HuntOf o := by
  unfold State.manualClose
  refine .ite ?_ (h.reply _ _)
  dsimp only
  split
  · exact State.HuntOf.setSequencer (h.closeRequest _ _) _
  · exact (h.closeRequest _ _).respond _ _ _

theorem State.HuntKept.releaseOpens (h : t.HuntKept) (l : List Port) : (t.releaseOpens g l).HuntKept :=
  State.HuntKept.foldl (fun k p => k.passTrip p) (h.keep fun k => k.setSequencer _) _

theorem State.HuntKept.takeAutoClose (h : t.HuntKept) : (t.takeAutoClose g).HuntKept := by
  unfold State.takeAutoClose
  dsimp only
  split
  · exact State.HuntKept.releaseOpens (h.keep fun k => State.HuntOf.seqGrant ((k.setBreaker _).closeRequest _ _)) _
  · exact State.HuntKept.releaseOpens (h.keep fun k => State.HuntOf.seqRefused ((k.setBreaker _).closeRequest _ _) _) _

theorem State.HuntOf.deadEnd (h : t.HuntOf o) (dead : (t.sequencer g).state = .dead) : (t.deadEnd g).HuntOf o := by
  have away := h.away (g := g) (by simp [dead])
  exact .ite (h.lockout away _ _) (.ite (h.lockout away _ _) (State.HuntOf.setBreaker (h.setSequencer_away away _) _))

theorem State.HuntKept.deadTimer (h : t.HuntKept) (b : Bool) : (t.deadTimer g b).HuntKept := by
  unfold State.deadTimer
  refine .ite h.takeAutoClose ?_
  split
  · next due =>
    have dead : (t.sequencer g).state = .dead := eq_of_beq (Bool.and_eq_true _ _ ▸ due).1
    have ended : (t.deadEnd g).HuntKept := h.keep fun k => k.deadEnd dead
    exact .ite ended.takeAutoClose ended
  · exact h

theorem State.HuntKept.reclaimEnds (h : t.HuntKept) (c : Bool) :
    (if (t.sequencer g).state = .reclaim ∧ c then
      t.setSequencer g { t.sequencer g with state := .inService, shots := 0, mark := false, timer := none } else t).HuntKept := by
  split
  · next ended => exact h.keep fun k => k.setSequencer_away (k.away (by simp [ended.1])) _
  · exact h

/-! ### Time and ports (R11, R12, R175, R184 to R194) -/

/-- The clock moves. -/
theorem State.HuntOf.setTime (h : t.HuntOf o) (ms : Ms) (d : TimeOfDay) (b : Bool) :
    State.HuntOf { t with ms := ms, time := d, timeSet := b } o := ⟨h.engine, h.entries, h.parked, h.frozen⟩

theorem State.HuntKept.tick (h : t.HuntKept) : t.tick.HuntKept := by
  have clock : t.clock.HuntKept := h.keep fun k => k.setTime _ _ _
  exact State.HuntKept.takeHuntCloses (.ite (clock.keep fun k => k.enterBus _ _) clock)

theorem State.HuntKept.restartAsked (h : t.HuntKept) (p : Port) : (t.restartAsked p).HuntKept := by
  unfold State.restartAsked
  split
  · exact State.HuntKept.pollRestart (h.keep fun k => k.setRestart _)
  · exact h

theorem State.HuntOf.readTransfer (h : t.HuntOf o) (p : Port) (n : Nat) : (t.readTransfer p n).HuntOf o := by
  have out : ∀ l, (t.clockOut p l).HuntOf o := fun _ => h.setPort _ _
  unfold State.readTransfer
  dsimp only
  refine .ite h ?_
  split
  · exact .ite (State.HuntOf.setPort (out _) _ _) (out _)
  · split
    · exact State.HuntOf.setPort (out _) _ _
    · exact out _
  · exact out _

theorem State.HuntKept.answers {c : Bool} (h : s.HuntKept) (k : s.Answers p c t) : t.HuntKept :=
  h.keep fun m => m.changesOnly (State.changesOnly_mono k.parts (by decide))

theorem State.HuntKept.readRequest {code : Byte} {granted c : Bool} {fr : Frame} {owner : State → State} (h : s.HuntKept)
    (owned : ∀ u, s.Answers p c u → s.Answers p c (owner u)) : (s.readRequest p code granted fr owner).HuntKept :=
  h.answers ((State.Answers.refl s p c).readRequest owned)

theorem State.HuntKept.controlRequest {code : Byte} {granted : Bool} {fr : Frame} {owner : State → State} (h : s.HuntKept)
    (owned : ∀ {u : State}, u.HuntKept → (owner u).HuntKept) : (s.controlRequest p code granted fr owner).HuntKept := by
  obtain same | ⟨q, port⟩ | ⟨q, caused⟩ := s.controlRequest_cases p code granted fr owner
  · rw [same]; exact h
  · rw [port]; exact h.setPort p q
  · rw [caused]; exact .causedBy p owner (owned (h.setPort p q))

/-! ### Owners of requests -/

section

variable (p : Port) (pl : List Byte)

theorem ownerSetTime_huntKept (h : s.HuntKept) : (ownerSetTime p pl s).HuntKept :=
  .ite (h.keep fun k => ((k.setTime _ _ _).append _ _ _).reply _ _) (h.badArgument p)

theorem ownerManualOpen_huntKept (h : s.HuntKept) : (ownerManualOpen p pl s).HuntKept := by
  unfold ownerManualOpen
  split
  · exact h.manualOpen p
  · exact h.badArgument p

theorem ownerManualClose_huntKept (h : s.HuntKept) : (ownerManualClose p pl s).HuntKept := by
  unfold ownerManualClose
  split
  · exact h.keep fun k => k.manualClose p
  · exact h.badArgument p

theorem ownerPlaceHold_huntKept (h : s.HuntKept) : (ownerPlaceHold p pl s).HuntKept := by
  unfold ownerPlaceHold
  split
  · exact .ite (h.placeMasterHold _ _ _ _ _) (h.badArgument p)
  · exact h.badArgument p

theorem ownerRemoveHold_huntKept (h : s.HuntKept) : (ownerRemoveHold p pl s).HuntKept := by
  unfold ownerRemoveHold
  split
  · exact .ite (h.removeMasterHold _ _ _) (h.badArgument p)
  · exact h.badArgument p

theorem ownerPatrolClear_huntKept (h : s.HuntKept) : (ownerPatrolClear p pl s).HuntKept := by
  unfold ownerPatrolClear
  split
  · exact h.patrolClear p
  · exact h.badArgument p

theorem ownerSetFireRequest_huntKept (h : s.HuntKept) : (ownerSetFireRequest p pl s).HuntKept := by
  unfold ownerSetFireRequest
  split
  · exact .ite ((h.fireRequestChanged _ _ _).respond _ _ _) (h.badArgument p)
  · exact h.badArgument p

theorem ownerWithdrawFireRequest_huntKept (h : s.HuntKept) : (ownerWithdrawFireRequest p pl s).HuntKept :=
  .ite (.ite (h.reply _ _) ((h.fireRequestChanged _ _ _).reply _ _)) (h.badArgument p)

theorem ownerUnitCommand_huntKept (h : s.HuntKept) : (ownerUnitCommand p pl s).HuntKept := by
  unfold ownerUnitCommand
  dsimp only
  split
  · exact .ite (h.keep fun k => k.unitCommand _ _ _) (h.badArgument p)
  · exact h.badArgument p

theorem ownerClearIsolation_huntKept (h : s.HuntKept) : (ownerClearIsolation p pl s).HuntKept :=
  .ite (.ite (h.keep fun k => (k.setIsolated _ _).reply _ _) (h.reply _ _)) (h.badArgument p)

theorem ownerLinebusReset_huntKept (h : s.HuntKept) : (ownerLinebusReset p pl s).HuntKept :=
  .ite (.ite (h.reply _ _) (h.linebusReset p)) (h.badArgument p)

theorem ownerStartHunt_huntKept (h : s.HuntKept) : (ownerStartHunt p pl s).HuntKept := by
  unfold ownerStartHunt
  dsimp only
  split
  · refine .ite ?_ (h.badArgument p)
    split
    · exact h.reply _ _
    next free =>
    refine .ite (h.reply _ _) ?_
    split
    · exact h.respond _ _ _
    split
    · exact h.respond _ _ _
    · exact h.startHunt (Bool.not_eq_true _ ▸ free) _ _ _ _
  · exact h.badArgument p

theorem ownerHuntInsert_huntKept (h : s.HuntKept) : (ownerHuntInsert p pl s).HuntKept := by
  unfold ownerHuntInsert
  dsimp only
  refine .ite ?_ (h.badArgument p)
  split
  · exact h.reply _ _
  split
  · exact h.reply _ _
  next alive =>
  refine .ite (h.reply _ _) ?_
  split
  · exact h.respond _ _ _
  split
  · exact h.respond _ _ _
  · exact State.HuntOf.insertHunt ((h.alive (by simpa using alive)).reply _ _) _

theorem ownerHuntStepMode_huntKept (h : s.HuntKept) : (ownerHuntStepMode p pl s).HuntKept := by
  unfold ownerHuntStepMode
  split
  · next m _ =>
    refine .ite ?_ (h.badArgument p)
    split
    · exact h.reply _ _
    split
    · next stands =>
      have moded := (State.HuntOf.setHunt (h.on stands) { s.hunt with stepMode := m }).reply p .accepted
      exact .ite moded.huntResume moded.kept
    · exact h.reply _ _
  · exact h.badArgument p

theorem ownerHuntContinue_huntKept (h : s.HuntKept) : (ownerHuntContinue p pl s).HuntKept := by
  unfold ownerHuntContinue
  refine .ite ?_ (h.badArgument p)
  split
  · exact h.reply _ _
  next f feeder =>
  split
  · next paused =>
    simp only [Hunt.stepPaused, Bool.and_eq_true, beq_iff_eq] at paused
    have stands : s.HuntOf (some f) := h.on (by simp [State.huntOn, feeder, paused.1])
    exact (stands.reply p .accepted).huntResume
  · exact h.reply _ _

theorem ownerHuntAbort_huntKept (h : s.HuntKept) : (ownerHuntAbort p pl s).HuntKept := by
  unfold ownerHuntAbort
  refine .ite ?_ (h.badArgument p)
  split
  · exact h.reply _ _
  · exact .ite ((h.huntAbortBy p).reply _ _) (h.reply _ _)

theorem ownerReadLog_huntKept (h : s.HuntKept) : (ownerReadLog p pl s).HuntKept :=
  .ite (State.HuntKept.respond (h.setPort _ _) _ _ _) (h.badArgument p)

theorem ownerLogSeek_huntKept (h : s.HuntKept) : (ownerLogSeek p pl s).HuntKept := by
  unfold ownerLogSeek
  refine .ite ?_ (h.badArgument p)
  split
  · exact State.HuntKept.respond (h.setPort _ _) _ _ _
  · exact h.reply _ _

theorem ownerSetAttentionMask_huntKept (h : s.HuntKept) : (ownerSetAttentionMask p pl s).HuntKept :=
  .ite ((h.setPort _ _).reply _ _) (h.badArgument p)

theorem ownerRestart_huntKept (h : s.HuntKept) : (ownerRestart p pl s).HuntKept :=
  .ite (h.restartAsked p) (h.badArgument p)

/-! ### Writes of settings (R27, R103, R113, R115, R117, R124, R144, R151, R182) -/

theorem State.HuntKept.storeEnqueue (h : t.HuntKept) (j : StoreJob) : (t.storeEnqueue j).HuntKept :=
  h.keep fun k => k.storeEnqueue j

theorem State.HuntKept.queueWrite (h : t.HuntKept) (w : PortWrite) : (t.queueWrite p w).HuntKept :=
  .ite (h.reply _ _) (h.storeEnqueue _)

theorem ownerWriteCurve_huntKept (h : s.HuntKept) : (ownerWriteCurve p pl s).HuntKept :=
  .ite (.ite (h.reply _ _) (h.queueWrite p _)) (h.badArgument p)

theorem ownerWriteCorridor_huntKept (h : s.HuntKept) : (ownerWriteCorridor p pl s).HuntKept := by
  unfold ownerWriteCorridor
  dsimp only
  split
  · exact .ite (h.queueWrite p _) (h.badArgument p)
  · exact h.badArgument p

theorem ownerWriteExposure_huntKept (h : s.HuntKept) : (ownerWriteExposure p pl s).HuntKept := by
  unfold ownerWriteExposure
  refine .ite ?_ (h.badArgument p)
  split
  · exact h.queueWrite p _
  · exact h.badArgument p

theorem ownerWriteFireBlock_huntKept (h : s.HuntKept) : (ownerWriteFireBlock p pl s).HuntKept :=
  .ite (.ite (h.reply _ _) (h.queueWrite p _)) (h.badArgument p)

theorem ownerRestoreFireTable_huntKept (h : s.HuntKept) : (ownerRestoreFireTable p pl s).HuntKept :=
  .ite (h.queueWrite p _) (h.badArgument p)

theorem ownerWriteGroup_huntKept (h : s.HuntKept) : (ownerWriteGroup p pl s).HuntKept := by
  unfold ownerWriteGroup
  refine .ite ?_ (h.badArgument p)
  split
  · exact .ite (h.reply _ _) (h.queueWrite p _)
  · exact h.badArgument p

theorem ownerWriteUnitList_huntKept (h : s.HuntKept) : (ownerWriteUnitList p pl s).HuntKept := by
  unfold ownerWriteUnitList
  dsimp only
  split
  · exact .ite (.ite (h.reply _ _) (.ite (h.reply _ _) (State.HuntKept.storeEnqueue (h.keep fun k => k.setBus _) _)))
      (h.badArgument p)
  · exact h.badArgument p

theorem ownerWriteHuntBlocks_huntKept (h : s.HuntKept) : (ownerWriteHuntBlocks p pl s).HuntKept := by
  unfold ownerWriteHuntBlocks
  dsimp only
  split
  · exact .ite (.ite (h.reply _ _) (.ite (h.reply _ _) (State.HuntKept.storeEnqueue (h.keep fun k => k.setHunt _) _)))
      (h.badArgument p)
  · exact h.badArgument p

theorem ownerStoreRepair_huntKept (h : s.HuntKept) : (ownerStoreRepair p pl s).HuntKept :=
  .ite (.ite (h.reply _ _) (.ite (h.reply _ _) (h.storeEnqueue _))) (h.badArgument p)

end

/-! ### Completions of the store (R178, R179) -/

/-- A setting that has come into force, its record, and the recomputation that follows it. -/
theorem State.HuntKept.settled (h : t.HuntKept) (x : Option Feeder) (d : Details) (c : FireCause) :
    (((t.append x (.port p) d).recomputeAll c).reply p .accepted).HuntKept :=
  (State.HuntKept.recomputeAll (h.keep fun k => k.append _ _ _) c).reply _ _

theorem State.HuntKept.settledOne (h : t.HuntKept) (x : Option Feeder) (d : Details) (f : Feeder) (c : FireCause) :
    (((t.append x (.port p) d).recomputeOne f c).reply p .accepted).HuntKept :=
  (State.HuntKept.recomputeOne (h.keep fun k => k.append _ _ _) f c).reply _ _

theorem State.HuntOf.repaired (h : t.HuntOf o) : (t.repaired p).HuntOf o := by
  have mended := ((h.setStore { t.store with fault := none, damaged := [] }).append none (.block .settingStore)
    .storeFaultCleared).setFlag .store
  have holds := State.HuntOf.foldl (fun k f => k.requestRetention (.holds f)) mended allFeeders
  exact ((holds.requestRetention .fireRequests).requestRetention .isolation).reply p .accepted

theorem State.HuntKept.portWriteDone (h : t.HuntKept) (p : Port) (w : PortWrite) : (t.portWriteDone p w).HuntKept := by
  cases w with
  | curve n c => exact State.HuntKept.settled (h.setFire _) _ _ _
  | group f l x => exact State.HuntKept.settledOne (h.setFire _) _ _ _ _
  | fireBlock start values => exact State.HuntKept.settled (h.setFire _) _ _ _
  | restoreTable => exact State.HuntKept.settled (h.setFire _) _ _ _
  | exposure f e => exact State.HuntKept.settledOne (h.setFire _) _ _ _ _
  | corridor f c => exact h.keep fun k => State.HuntOf.reply (State.HuntOf.append (k.setHoldTable _) _ _ _) _ _
  | unitList f l => exact h.keep fun k => (k.append _ _ _).reply _ _
  | huntBlocks first l => exact h.keep fun k => (k.append _ _ _).reply _ _
  | repair => exact h.keep fun k => k.repaired

theorem State.HuntOf.setImage (h : t.HuntOf o) (x : Image) : (t.setImage x).HuntOf o :=
  ⟨h.engine, h.entries, h.parked, h.frozen⟩

theorem State.HuntOf.countFixed (h : t.HuntOf o) : t.countFixed.HuntOf o := by
  unfold State.countFixed
  split
  · exact h.setRestart _
  · exact h

theorem State.HuntOf.dropFixed (h : t.HuntOf o) : t.dropFixed.HuntOf o := by
  unfold State.dropFixed
  split
  · exact h.setRestart _
  · exact h

theorem State.HuntOf.jobFailed (h : t.HuntOf o) (e : StoreEntry) : (t.jobFailed e).HuntOf o := by
  unfold State.jobFailed
  split
  · exact h.reply _ _
  · exact h.reply _ _
  · exact h.reply _ _
  · exact h.setPendingMark _ _

theorem State.HuntKept.writeDone (h : t.HuntKept) (e : StoreEntry) : (t.writeDone e).HuntKept := by
  have written : (t.setImage (t.writeRecords e.job e.job.records.length)).HuntKept := h.keep fun k => k.setImage _
  have done : ((t.setImage (t.writeRecords e.job e.job.records.length)).jobDone e.job).HuntKept := by
    unfold State.jobDone
    split
    · exact .causedBy _ _ (written.portWriteDone _ _)
    · exact written
  exact done.keep fun k => (State.HuntOf.countFixed (k.setStore _)).beginHead

theorem State.HuntOf.writeFailed (h : t.HuntOf o) (e : StoreEntry) (n : Nat) (bad : RecordId) :
    (t.writeFailed e n bad).HuntOf o :=
  State.HuntOf.dropFixed (State.HuntOf.foldl (fun k e => k.jobFailed e)
    (State.HuntOf.setFlag (State.HuntOf.append (State.HuntOf.setStore (h.setImage _) _) _ _ _) _) _)

theorem execStoreWriteCompletion_huntKept {bad : Option Nat} (h : s.HuntKept)
    (ran : execStoreWriteCompletion bad s = .next t) : t.HuntKept := by
  unfold execStoreWriteCompletion at ran
  split at ran
  · cases ran; exact h
  split at ran
  · cases ran; exact h
  split at ran
  · cases ran; exact h
  split at ran
  · cases ran; exact h.writeDone _
  split at ran
  · cases ran; exact h.keep fun k => k.writeFailed _ _ _
  · cases ran

/-! ### Resets and supply (R105, R176, R180, R194) -/

theorem huntEntries_of_retained {l : List Hold} (valid : retainedHoldsValid l = true) : huntEntries l = 0 := by
  simp only [retainedHoldsValid, Bool.and_eq_true, List.all_eq_true] at valid
  refine List.countP_eq_zero.2 fun e mem own => ?_
  have kept := valid.1.1 e mem
  rw [beq_iff_eq] at own
  simp [retainedHoldValid, own] at kept

/-- No HUNT entry is retained (R104, R106). -/
theorem huntEntries_loaded (im : Image) (now : Stamp) (f : Feeder) :
    huntEntries (feederGet (loadStore im now).holds f).value = 0 := by
  have loaded : ∀ i x, huntEntries (loadRecord holdsFormat retainedHoldsValid [damagedHold now] i x).value = 0 := by
    intro i x
    unfold loadRecord
    split
    · next passes => exact huntEntries_of_retained (Bool.and_eq_true _ _ ▸ passes).2
    · rfl
  cases f <;> exact loaded _ _

theorem huntEntries_rebuilt (l : List Hold) (e : Effective) (now : Stamp) :
    huntEntries (rebuiltList l e now) = huntEntries l := by
  unfold rebuiltList
  split
  · exact huntEntries_append (by simp) l
  · rfl

/-- At a start no hunt stands (R22, R67, R106, R152). -/
theorem State.rebuild_huntOf (s : State) (pins : Pins) : (s.rebuild pins).HuntOf none := by
  unfold State.rebuild
  dsimp only
  refine State.HuntOf.foldl (fun k f => .ite k.positionFault k) ⟨fun f => rfl, fun f => ?_, fun f => ?_, fun f => ?_⟩ _
  · cases f <;> exact (huntEntries_rebuilt _ _ _).trans (huntEntries_loaded _ _ _)
  · refine iff_of_false ?_ nofun
    simp only [State.sequencer, feederGet_map, sequencerStart]
    split <;> decide
  · cases f <;> rfl

theorem State.powerOn_huntOf (s : State) (pins : Pins) : (s.powerOn pins).HuntOf none := by
  unfold State.powerOn
  exact State.rebuild_huntOf _ pins

theorem State.reinitialise_huntOf (s : State) (p : Port) (pins : Pins) : (s.reinitialise p pins).HuntOf none := by
  unfold State.reinitialise
  exact State.rebuild_huntOf _ pins

theorem State.HuntKept.powerLoss (h : t.HuntKept) (n : Nat) : (t.powerLoss n).HuntKept := by
  have off : State.HuntKept { t with powered := false } := h.keep fun k => ⟨k.engine, k.entries, k.parked, k.frozen⟩
  unfold State.powerLoss
  dsimp only
  split
  · exact off
  · exact .ite (off.keep fun k => k.setImage _) off

/-! ### Requests by their code (R197) -/

theorem State.HuntKept.takeFrame {check : State → State} (h : t.HuntKept) (n : Nat) (code : Byte) (m : Bool)
    (checked : ∀ {u : State}, u.HuntKept → (check u).HuntKept) : (t.takeFrame p n code m check).HuntKept := by
  obtain same | ⟨q, port⟩ | ⟨q, took⟩ := t.takeFrame_cases p n code m check
  · rw [same]; exact h
  · rw [port]; exact h.setPort p q
  · rw [took]; exact checked (h.setPort p q)

theorem State.HuntKept.frameByCode (h : s.HuntKept) (p : Port) (code : Byte) (fr : Frame) :
    (s.frameByCode p code fr).HuntKept := by
  unfold State.frameByCode
  split
  · exact h.controlRequest (ownerSetTime_huntKept p _)
  · exact h.readRequest (c := false) fun _ k => k.readFeeder _ _
  · exact h.readRequest (c := false) fun _ k => k.readAll _
  · exact h.controlRequest (ownerWriteCurve_huntKept p _)
  · exact h.readRequest (c := false) fun _ k => k.readFeeder _ _
  · exact h.controlRequest (ownerManualOpen_huntKept p _)
  · exact h.controlRequest (ownerManualClose_huntKept p _)
  · exact h.readRequest (c := false) fun _ k => k.readFeeder _ _
  · exact h.controlRequest (ownerPlaceHold_huntKept p _)
  · exact h.controlRequest (ownerRemoveHold_huntKept p _)
  · exact h.controlRequest (ownerPatrolClear_huntKept p _)
  · exact h.controlRequest (ownerWriteCorridor_huntKept p _)
  · exact h.readRequest (c := false) fun _ k => k.readFeeder _ _
  · exact h.controlRequest (ownerSetFireRequest_huntKept p _)
  · exact h.controlRequest (ownerWithdrawFireRequest_huntKept p _)
  · exact h.controlRequest (ownerWriteExposure_huntKept p _)
  · exact h.controlRequest (ownerWriteFireBlock_huntKept p _)
  · exact h.controlRequest (ownerRestoreFireTable_huntKept p _)
  · exact h.controlRequest (ownerWriteGroup_huntKept p _)
  · exact h.readRequest (c := false) fun _ k => k.readAll _
  · exact h.readRequest (c := false) fun _ k => k.readAll _
  · exact h.readRequest (c := false) fun _ k => k.readGroup _
  · exact h.controlRequest (ownerUnitCommand_huntKept p _)
  · exact h.controlRequest (ownerWriteUnitList_huntKept p _)
  · exact h.controlRequest (ownerClearIsolation_huntKept p _)
  · exact h.controlRequest (ownerLinebusReset_huntKept p _)
  · exact h.readRequest (c := false) fun _ k => k.readAll _
  · exact h.readRequest (c := false) fun _ k => k.readAll _
  · exact h.controlRequest (ownerWriteHuntBlocks_huntKept p _)
  · exact h.controlRequest (ownerStartHunt_huntKept p _)
  · exact h.controlRequest (ownerHuntInsert_huntKept p _)
  · exact h.controlRequest (ownerHuntContinue_huntKept p _)
  · exact h.controlRequest (ownerHuntStepMode_huntKept p _)
  · exact h.controlRequest (ownerHuntAbort_huntKept p _)
  · exact h.readRequest (c := false) fun _ k => k.readAll _
  · exact h.readRequest (c := false) fun _ k => k.readAll _
  · exact h.readRequest (c := false) fun _ k => k.readAll _
  · exact h.controlRequest (ownerReadLog_huntKept p _)
  · exact h.controlRequest (ownerLogSeek_huntKept p _)
  · exact h.controlRequest (ownerStoreRepair_huntKept p _)
  · exact h.readRequest (c := false) fun _ k => k.readAll _
  · exact h.readRequest (c := true) fun _ k => k.readAttention _
  · exact h.readRequest (c := false) fun _ k => k.readAll _
  · exact h.controlRequest (ownerSetAttentionMask_huntKept p _)
  · exact h.controlRequest (ownerRestart_huntKept p _)
  · exact h.takeFrame _ _ _ fun k => (k.setPort _ _).reply _ _

theorem State.HuntKept.rawFrame (h : t.HuntKept) (p : Port) (l : List Byte) : (t.rawFrame p l).HuntKept := by
  unfold State.rawFrame
  split
  · exact h
  · split
    · exact h.frameByCode _ _ _
    · exact h.takeFrame _ _ _ fun k => (k.setPort _ _).reply _ _

end Sys2Proof.Machine
end

section
/-! Every step keeps HUNT entry, hunt engine, sequencer and freeze mark together (R36, R84, R152). -/

namespace Sys2Proof.Machine

variable {s t : State}

/-- An event runs its effect or leaves the state. -/
theorem State.HuntKept.event {op : State → State} (h : s.HuntKept) (k : (op s).HuntKept) (ran : event s op = .next t) :
    t.HuntKept := by
  obtain rfl | rfl := event_cases ran
  · exact k
  · exact h

/-- A command that is no request is an event, or a power-on. -/
theorem State.HuntKept.exec {i : Instr} (h : s.HuntKept) (ran : exec i s = .next t) : t.HuntKept := by
  have row := ran
  unfold Machine.exec at ran
  cases i with
  | powerOn pins => cases ran; exact (s.powerOn_huntOf pins).kept
  | restartReinitialisation pins =>
    refine h.event ?_ ran
    split
    · exact .ite (s.reinitialise_huntOf _ pins).kept h
    · exact h
  | portReset p => exact h.event (h.setPort _ _) ran
  | portResetRelease p => exact h.event (h.setPort _ _) ran
  | keySwitchChange k =>
    exact h.event (op := fun s => { s with key := k }) (h.keep fun m => ⟨m.engine, m.entries, m.parked, m.frozen⟩) ran
  | millisecondTick => exact h.event h.tick ran
  | measurementFrame bytes => exact h.event (h.measurementTransfer bytes) ran
  | frameWatchdogExpiry f => exact h.event (.ite h.watchdogEnd h) ran
  | positionContactChange f c => exact h.event (h.contactChange c).pollRestart ran
  | positionFaultTimerExpiry f => exact h.event (.ite (h.keep fun k => k.positionFault) h) ran
  | pulseTimerExpiry f => exact h.event (.ite h.pulseEnd.pollRestart h) ran
  | tripConfirmTimeExpiry f => exact h.event (.ite h.tripTimeEnd.pollRestart h) ran
  | closeConfirmTimeExpiry f => exact h.event (.ite h.closeTimeEnd.pollRestart h) ran
  | deadTimerExpiry f taken => exact h.event (h.deadTimer taken) ran
  | reclaimTimerExpiry f => exact h.event (h.reclaimEnds _) ran
  | holdExpiry f owner tag => exact h.event (h.holdExpires owner tag.toNat) ran
  | fireRequestExpiry p => exact h.event (.ite (h.fireRequestChanged _ _ _) h) ran
  | storeWriteCompletion bad => exact execStoreWriteCompletion_huntKept h ran
  | quietGapEnd => exact h.event (.ite (h.keep fun k => k.gapEnd) h) ran
  | activeSeen => exact h.event (h.keep fun k => k.activeSeen) ran
  | lostArbitration => exact h.event (.ite (h.keep fun k => (k.mapQueue _).enterBus _ _) h) ran
  | preambleWon => exact h.event (.ite (h.keep fun k => (k.mapQueue _).enterBus _ _) h) ran
  | checkSent => exact h.event (.ite (h.keep fun k => k.enterBus _ _) h) ran
  | echoMismatch => exact h.event (.ite (h.keep fun k => k.setBus _) h) ran
  | echoFail => exact h.event (.ite (.ite (h.attemptEnds _) (.ite (h.keep fun k => k.enterBus _ _) h)) h) ran
  | reply chars framing => exact h.event (.ite (h.takeReply _ _) h) ran
  | replyWindowClose => exact h.event (.ite (h.attemptEnds _) h) ran
  | replyIncomplete => exact h.event (.ite (h.attemptEnds _) h) ran
  | report chars framing => exact h.event (.ite (h.hearFrame _ _) h) ran
  | ackSent => exact h.event (.ite (h.keep fun k => k.enterBus _ _) h) ran
  | heardFrameEnd => exact h.event (.ite (h.keep fun k => k.enterBus _ _) h) ran
  | clampSeen => exact h.event (.ite (h.keep fun k => k.clampSeen) h) ran
  | clampEnd => exact h.event (.ite (h.keep fun k => k.enterBus _ _) h) ran
  | clampOutEnd => exact h.event (.ite (h.keep fun k => k.clampOutEnd) h) ran
  | linebusStuck => exact h.event (.ite h.becomeStuck h) ran
  | linebusRestored => exact h.event (.ite (h.keep fun k => k.busRestored) h) ran
  | pauseTimeout => exact h.event h.pauseEnd ran
  | requestFrame p bytes => exact h.event (h.rawFrame p bytes) ran
  | responseRead p count => exact h.event (h.keep fun k => k.readTransfer p count) ran
  | powerLoss written => exact h.event (h.powerLoss written) ran
  | _ => exact h.event (h.frameByCode _ _ _) ((exec_request rfl rfl s).symm.trans row)

theorem State.HuntKept.step (h : s.HuntKept) (ran : step s = .next t) : t.HuntKept := by
  unfold Machine.step at ran
  split at ran
  · cases ran; exact h
  · next rest _ =>
    have queued : (s.withPending rest).HuntKept := h.keep fun k => ⟨k.engine, k.entries, k.parked, k.frozen⟩
    exact queued.exec ran

/-- Settles O6: under the law of the hold lists the four marks of a hunt stand on one feeder or on none, and every command
moves them together. -/
theorem stepKeepsHuntLaw : Obligations.StepKeepsHuntLaw := fun _ _ holds law ran => by
  obtain ⟨_, stands⟩ := (law.huntKept holds).step ran
  exact stands.huntLaw

end Sys2Proof.Machine
end

section
/-! The sensitive earth-fault element: its leaky counter, the settings pushed to it, and the observation window (R39, R41, R42,
R44 to R46). -/

namespace Sys2Proof.Machine

/-! ### The leaky counter (R39, R41, R42) -/

/-- A sample at or above the pickup gains 2, and the element operates at the full count with both marks clear. -/
theorem Sef.sample_above {e ps : Nat} (above : ps ≤ e) (x : Sef) (ds : Nat) (frozen : Bool) :
    x.sample e ps ds frozen =
      ({ residual := e, pickup := true, count := min (2 * ds) (x.count + 2)
         operated := x.operated || (min (2 * ds) (x.count + 2) == 2 * ds && !x.operated && !frozen)
         alarm := x.alarm && min (2 * ds) (x.count + 2) != 0 },
        min (2 * ds) (x.count + 2) == 2 * ds && !x.operated && !frozen) := if_pos above

/-- Any other sample loses 1 and clears the mark. -/
theorem Sef.sample_below {e ps : Nat} (below : e < ps) (x : Sef) (ds : Nat) (frozen : Bool) :
    x.sample e ps ds frozen =
      ({ residual := e, pickup := false, count := x.count - 1, operated := false, alarm := x.alarm && x.count - 1 != 0 },
        false) := if_neg (not_le.2 below)

/-- With its mark set the element operates no more while it is picked up. -/
theorem Sef.run_operated {x : Sef} (mark : x.operated = true) {ps : Nat} (ds : Nat) {es : List Nat}
    (picked : ∀ e ∈ es, ps ≤ e) : Sef.run ps ds x es = List.replicate es.length false := by
  induction es generalizing x with
  | nil => rfl
  | cons e rest ih =>
    obtain ⟨first, others⟩ := List.forall_mem_cons.1 picked
    rw [Sef.run, Sef.sample_above first, ih (by simp [mark]) others, mark]
    simp [List.replicate_succ]

/-- After k samples of a continuous pickup, DSeff less k are left to the operation. -/
theorem Sef.run_pickup {x : Sef} {k ps ds : Nat} (count : x.count = 2 * k) (below : k < ds) (mark : x.operated = false)
    {es : List Nat} (picked : ∀ e ∈ es, ps ≤ e) :
    Sef.run ps ds x es = (List.range es.length).map (fun i => k + i + 1 == ds) := by
  induction es generalizing x k with
  | nil => rfl
  | cons e rest ih =>
    obtain ⟨first, others⟩ := List.forall_mem_cons.1 picked
    have risen : min (2 * ds) (2 * k + 2) = 2 * (k + 1) := by omega
    rw [Sef.run, Sef.sample_above first, count, mark, risen, List.length_cons, List.range_succ_eq_map, List.map_cons,
      List.map_map]
    by_cases last : k + 1 = ds
    · subst last
      rw [Sef.run_operated (by simp) _ others]
      refine congrArg₂ List.cons (by simp) (List.eq_replicate_iff.2 ⟨by simp, ?_⟩).symm
      simp only [List.forall_mem_map, Function.comp_apply, beq_eq_false_iff_ne]
      omega
    · have short : (2 * (k + 1) == 2 * ds) = false := beq_false_of_ne (by omega)
      rw [short, ih rfl (by omega) rfl others]
      refine congrArg₂ List.cons (by simp [last]) (List.map_congr_left fun i _ => ?_)
      rw [Function.comp_apply, Nat.succ_eq_add_one, Nat.add_right_comm k 1 i, Nat.add_assoc k i 1]

/-! ### The observation window (R45, R46) -/

theorem State.windowSample_none {s : State} {f : Feeder} (closed : (s.unit f).window = none) : s.windowSample f = s := by
  simp only [State.windowSample, closed]

/-- What an open window makes of a sample: its counts, and its report when they are complete. -/
theorem State.windowSample_some {s : State} {f : Feeder} {w : Window} (opened : (s.unit f).window = some w) :
    s.windowSample f =
      if w.length ≤ w.samples + 1 then
        (s.setUnit f { s.unit f with window := none }).huntWindowReport f
          ((w.count (decide ((s.effective f).group.huntPickup ≤ (s.unit f).sef.residual))
            ((s.unit f).oc.pickup || (s.unit f).ef.pickup)).report (s.effective f).group.huntQuorum)
      else
        s.setUnit f
          { s.unit f with
            window := some (w.count (decide ((s.effective f).group.huntPickup ≤ (s.unit f).sef.residual))
              ((s.unit f).oc.pickup || (s.unit f).ef.pickup)) } := by
  simp only [State.windowSample, opened]
  rfl

/-- A window's counts after one more sample, each raised or kept. -/
theorem Window.count_eq (w : Window) (a : Prop) [Decidable a] (b c : Bool) :
    w.count (decide a) (b || c) =
      { length := w.length, samples := w.samples + 1
        sefSamples := if a then w.sefSamples + 1 else w.sefSamples
        pickupSamples := if b = true ∨ c = true then w.pickupSamples + 1 else w.pickupSamples } := by
  unfold Window.count
  congr 1
  · by_cases raised : a <;> simp [raised]
  · by_cases raised : b = true ∨ c = true <;> simp [raised]

/-- Settles O30, from the two equations of a sample, the run of a pickup and the counts of a window. -/
theorem sefLeakyCounter : Obligations.SefLeakyCounter := by
  refine ⟨fun x y op e ps ds frozen sampled => ?_, fun x ps ds es picked empty mark long => ?_, fun x old new ds => ?_,
    fun f s => ⟨State.windowSample_none, fun w v opened counted => ?_⟩⟩
  · by_cases above : ps ≤ e
    · rw [Sef.sample_above above] at sampled
      cases sampled
      refine ⟨rfl, by simp [above], fun _ => ⟨rfl, ?_, by simp⟩, fun below => absurd above (not_le.2 below), ?_⟩
      · simp [and_assoc]
      · simp
    · have below := not_le.1 above
      rw [Sef.sample_below below] at sampled
      cases sampled
      exact ⟨rfl, by simp [above], fun picked => absurd picked above, fun _ => ⟨rfl, rfl, rfl⟩, by simp⟩
  · rw [Sef.run_pickup (k := 0) empty (by omega) mark picked]
    simp
  · refine ⟨rfl, rfl, rfl, fun above => min_eq_right above.le, fun within => min_eq_left within, ?_, ?_⟩
    · rintro rfl rfl
      simp [Sef.push]
    · rintro (rfl | rfl) <;> simp [Sef.push]
  · rw [State.windowSample_some opened, Window.count_eq, ← counted]
    subst counted
    exact ⟨fun short => if_neg (not_le.2 short), fun complete => if_pos complete⟩

end Sys2Proof.Machine
end

section
/-! The residual baseline: its seeding, its update under the limit, and the settings pushed to it (R35 to R38). -/

namespace Sys2Proof.Machine

/-! ### A change under the limit (R37) -/

theorem Baseline.limited_over {acc k limit : Nat} (above : limit < acc / 2 ^ k) (b : Baseline) :
    b.limited acc k limit = { b with acc := limit * 2 ^ k, high := true } := if_pos above

theorem Baseline.limited_within {acc k limit : Nat} (within : acc / 2 ^ k ≤ limit) (b : Baseline) :
    b.limited acc k limit = { b with acc := acc, high := b.high && !decide (acc / 2 ^ k < limit) } :=
  if_neg (not_lt.2 within)

/-- Within the limit the latch stands only where it stood, and only at the limit. -/
theorem Baseline.limited_high {acc k limit : Nat} (within : acc / 2 ^ k ≤ limit) (b : Baseline) :
    (b.limited acc k limit).high = true ↔ b.high = true ∧ (b.limited acc k limit).value k = limit := by
  rw [Baseline.limited_within within]
  simp only [Baseline.value, Bool.and_eq_true, Bool.not_eq_true', decide_eq_false_iff_not, not_lt]
  exact and_congr_right fun _ => ⟨within.antisymm, Eq.ge⟩

/-! ### The push of settings (R38) -/

/-- The accumulator with which a seeded baseline meets new settings: rebased on its value when k changes. -/
def Baseline.rebased (b : Baseline) (old new : Nat) : Nat := if old = new then b.acc else b.value old * 2 ^ new

theorem Baseline.push_seeded_eq {b : Baseline} (seeded : b.seeded = true) (old new limit : Nat) :
    b.push old new limit = b.limited (b.rebased old new) new limit := if_pos seeded

/-- A change of k keeps the baseline's value. -/
theorem Baseline.rebased_value (b : Baseline) (old new : Nat) : b.rebased old new / 2 ^ new = b.value old := by
  unfold Baseline.rebased
  split
  · next same => rw [same]; rfl
  · exact Nat.mul_div_cancel _ (Nat.two_pow_pos new)

/-! ### The update (R36) -/

/-- An update within the limit adds the residual and takes off the baseline. -/
theorem Baseline.update_balance {b : Baseline} {i0 k limit : Nat}
    (within : (b.acc + i0 - b.acc / 2 ^ k) / 2 ^ k ≤ limit) : (b.update i0 k limit).acc + b.value k = b.acc + i0 := by
  rw [Baseline.update, Baseline.limited_within within]
  exact Nat.sub_add_cancel ((Nat.div_le_self _ _).trans (Nat.le_add_right _ _))

theorem Baseline.seed_value (b : Baseline) (i0 k limit : Nat) : (b.seed i0 k limit).value k = min i0 limit :=
  Nat.mul_div_cancel _ (Nat.two_pow_pos k)

/-- Settles O31, from what a change under the limit leaves, the value a push rebases on and the balance of an update. -/
theorem baselineFollowsResidual : Obligations.BaselineFollowsResidual := by
  refine ⟨fun b old new limit => ⟨fun unseeded => by simp [Baseline.push, unseeded], fun seeded => ?_⟩,
    fun b i0 k limit => ⟨⟨rfl, b.seed_value i0 k limit, by simp [Baseline.seed]⟩, fun above => b.limited_over above,
      fun within => ?_, b.limited_value_le _ _ _⟩⟩
  · have value := b.rebased_value old new
    rw [Baseline.push_seeded_eq seeded]
    refine ⟨fun above => b.limited_over (value.symm ▸ above), fun within => ?_⟩
    have within' : b.rebased old new / 2 ^ new ≤ limit := value.symm ▸ within
    have kept : (b.limited (b.rebased old new) new limit).acc = b.rebased old new := by rw [b.limited_within within']
    have held : (b.limited (b.rebased old new) new limit).value new = b.value old := by rw [Baseline.value, kept, value]
    refine ⟨held, by simpa using seeded, b.limited_frozen _ _ _, fun same => ?_, fun changed => ?_, ?_⟩
    · rw [kept, Baseline.rebased, if_pos same]
    · rw [kept, Baseline.rebased, if_neg changed]
    · rw [b.limited_high within', held]
  · have balance := Baseline.update_balance within
    exact ⟨balance, b.limited_high within, fun _ => by omega, fun _ => by omega, fun _ => by omega⟩

end Sys2Proof.Machine
end

section
/-! SUPPORT. The PATROL placement (R83, R92, R101), read at each feeder's hold list and sequencer: it joins the list, locks a
sequencer in DEAD out, and a placement that finds its entry standing changes neither. -/

namespace Sys2Proof.Machine

variable {s t : State} {f g k : Feeder}

/-! ### What a placement reads and moves of a feeder -/

/-- The hold list and the sequencer of a feeder. -/
def State.holdView (s : State) (g : Feeder) : List Hold × Sequencer := ((s.holdTable g).list, s.sequencer g)

theorem State.holdView_of_feederOnly (h : s.feederOnly f t) (ne : g ≠ f) : t.holdView g = s.holdView g := by
  obtain ⟨-, -, -, sequencer, holds⟩ := h g ne
  rw [State.holdView, State.holdView, sequencer, holds]

/-- A sequencer that has entered LOCKOUT (R77). -/
def Sequencer.lockedOut (q : Sequencer) (r : LockoutReason) : Sequencer :=
  { q with
    state := .lockout, phase := none, openTaken := false, manualClose := none, timer := none, reason := some r }

theorem State.lockout_sequencer (s : State) (f : Feeder) (r : LockoutReason) (c : Option CloseRefusal) :
    (s.lockout f r c).sequencer f = (s.sequencer f).lockedOut r := by
  simp [State.lockout, Sequencer.lockedOut]

/-- A sequencer that has taken a placement other than HUNT (R83). -/
def Sequencer.meetsHold (q : Sequencer) : Sequencer := if q.state = .dead then q.lockedOut .holdInDead else q

theorem State.sequencerPlacement_sequencer (s : State) (f : Feeder) :
    (s.sequencerPlacement f).sequencer f = (s.sequencer f).meetsHold := by
  unfold State.sequencerPlacement Sequencer.meetsHold
  split
  · exact s.lockout_sequencer f _ _
  · rfl

/-! ### The retention request (R104, R178) -/

theorem State.setPendingMark_holdView (s : State) (o : RetentionOwner) (m : Bool) (g : Feeder) :
    (s.setPendingMark o m).holdView g = s.holdView g := by
  cases o with
  | holds k =>
    by_cases same : g = k
    · subst same
      simp [State.holdView, State.setPendingMark]
    · simp [State.holdView, State.setPendingMark, State.setHoldTable_holdTable_ne _ same]
  | fireRequests => rfl
  | isolation => rfl

theorem State.beginHead_holdView (s : State) (g : Feeder) : s.beginHead.holdView g = s.holdView g := by
  unfold State.beginHead
  split
  · rfl
  split
  · rfl
  split
  · rfl
  · exact State.setPendingMark_holdView _ _ _ _

/-- A retention request leaves every list and every sequencer. -/
theorem State.requestRetention_holdView (s : State) (o : RetentionOwner) (g : Feeder) :
    (s.requestRetention o).holdView g = s.holdView g := by
  unfold State.requestRetention
  split
  · rfl
  split
  · rfl
  · exact (State.beginHead_holdView _ g).trans (s.setPendingMark_holdView o true g)

/-! ### One list (R92, R101) -/

/-- The entry that a PATROL placement joins to a list. -/
def patrolEntry (now : Stamp) : Hold :=
  { owner := .patrol, kind := .all, tag := 0, reason := 0, expiry := none, stamp := now }

/-- A feeder's list and sequencer after a PATROL placement. -/
def patrolView (now : Stamp) (v : List Hold × Sequencer) : List Hold × Sequencer :=
  if hasOwner v.1 .patrol then v else (v.1 ++ [patrolEntry now], v.2.meetsHold)

theorem patrolView_stands (now : Stamp) (v : List Hold × Sequencer) : hasOwner (patrolView now v).1 .patrol = true := by
  unfold patrolView
  split
  · assumption
  · simp [hasOwner, patrolEntry]

/-- A second placement finds the entry of the first. -/
theorem patrolView_idem (now : Stamp) (v : List Hold × Sequencer) :
    patrolView now (patrolView now v) = patrolView now v := if_pos (patrolView_stands now v)

/-- Outside DEAD a placement leaves the sequencer. -/
theorem patrolView_sequencer (now : Stamp) {v : List Hold × Sequencer} (h : v.2.state ≠ .dead) :
    (patrolView now v).2 = v.2 := by
  unfold patrolView
  split
  · rfl
  · exact if_neg h

theorem State.placePatrolOn_standing (stands : hasOwner (s.holdTable g).list .patrol = true) (a : Feeder) :
    s.placePatrolOn a g = s := if_pos stands

/-- The list, the record with its flag, the sequencer, the retention write (R92). -/
theorem State.placePatrolOn_new (free : hasOwner (s.holdTable g).list .patrol = false) (a : Feeder) :
    ∃ d, s.placePatrolOn a g =
      ((((s.setHoldTable g
        { s.holdTable g with list := (s.holdTable g).list ++ [patrolEntry s.stamp] }).append (some g)
          (.block .holdTable) d).setFlag .holds).sequencerPlacement g).requestRetention (.holds g) :=
  ⟨_, if_neg (Bool.eq_false_iff.1 free)⟩

theorem State.placePatrolOn_holdView (s : State) (a g k : Feeder) :
    (s.placePatrolOn a g).holdView k = if k = g then patrolView s.stamp (s.holdView g) else s.holdView k := by
  cases free : hasOwner (s.holdTable g).list .patrol with
  | true =>
    rw [State.placePatrolOn_standing free, show patrolView s.stamp (s.holdView g) = s.holdView g from if_pos free]
    split
    · next same => rw [same]
    · rfl
  | false =>
    obtain ⟨d, new⟩ := State.placePatrolOn_new free a
    have joined : patrolView s.stamp (s.holdView g) =
        ((s.holdTable g).list ++ [patrolEntry s.stamp], (s.sequencer g).meetsHold) := if_neg (Bool.eq_false_iff.1 free)
    have told := fun u : State => (State.Within.refl u [.sequencers, .log, .ports] (some g)).sequencerPlacement (g := g)
      (by decide) (by decide) (by decide) (by simp)
    rw [new, State.requestRetention_holdView, joined]
    split
    · next same =>
      subst same
      have holds := fun u : State => (told u).parts .holds (by decide)
      simp only [State.agree] at holds
      rw [State.holdView, State.holdTable, holds, State.sequencerPlacement_sequencer]
      simp
    · next other =>
      rw [State.holdView_of_feederOnly (told _).feeder other]
      simp [State.holdView, State.setHoldTable_holdTable_ne _ other]

theorem State.placePatrolOn_stamp (s : State) (a g : Feeder) : (s.placePatrolOn a g).stamp = s.stamp := by
  have spared := (State.Spares.refl s g).placePatrolOn a g
  rw [State.stamp, State.stamp, spared.time, spared.timeSet]

/-! ### A feeder and its corridor (R101) -/

theorem State.foldl_placePatrolOn_holdView (s : State) (a k : Feeder) (l : List Feeder) :
    (l.foldl (fun t g => t.placePatrolOn a g) s).holdView k =
      if k ∈ l then patrolView s.stamp (s.holdView k) else s.holdView k := by
  induction l generalizing s with
  | nil => rfl
  | cons g rest ih =>
    rw [List.foldl_cons, ih, State.placePatrolOn_stamp, State.placePatrolOn_holdView]
    by_cases head : k = g
    · subst head
      simp [patrolView_idem]
    · simp [head]

theorem State.placePatrol_holdView (s : State) (f k : Feeder) :
    (s.placePatrol f).holdView k =
      if k = f ∨ feederGet (s.holdTable f).corridor k = true then patrolView s.stamp (s.holdView k) else s.holdView k := by
  have listed : k ∈ allFeeders.filter (fun g => feederGet (s.holdTable f).corridor g && g != f) ↔
      feederGet (s.holdTable f).corridor k = true ∧ k ≠ f := by
    have mem : k ∈ allFeeders := by cases k <;> decide
    simp [mem]
  rw [State.placePatrol, State.foldl_placePatrolOn_holdView, State.placePatrolOn_stamp, State.placePatrolOn_holdView]
  by_cases own : k = f
  · simp [own]
  · simp [listed, own]

/-! ### The HOLDS flag (R92) -/

theorem State.flagSet.lockout {fl : AttentionFlag} (h : s.flagSet fl) (f : Feeder) (r : LockoutReason)
    (c : Option CloseRefusal) : (s.lockout f r c).flagSet fl :=
  ((h.congr (t := s.setSequencer f _) rfl).append _ _ _).setFlag _

theorem State.flagSet.sequencerPlacement {fl : AttentionFlag} (h : s.flagSet fl) (f : Feeder) :
    (s.sequencerPlacement f).flagSet fl := by
  unfold State.sequencerPlacement
  split
  · exact h.lockout _ _ _
  · exact h

/-- A new PATROL entry sets the HOLDS flag. -/
theorem State.placePatrolOn_flagSet (free : hasOwner (s.holdTable g).list .patrol = false) (a : Feeder) :
    (s.placePatrolOn a g).flagSet .holds := by
  obtain ⟨d, new⟩ := State.placePatrolOn_new free a
  rw [new]
  exact ((State.flagSet_setFlag _ _).sequencerPlacement g).congr (State.requestRetention_ports _ _)

theorem State.flagSet.placePatrolOn (h : s.flagSet .holds) (a g : Feeder) : (s.placePatrolOn a g).flagSet .holds := by
  cases free : hasOwner (s.holdTable g).list .patrol with
  | true => rwa [State.placePatrolOn_standing free]
  | false => exact State.placePatrolOn_flagSet free a

theorem State.flagSet.foldl_placePatrolOn (h : s.flagSet .holds) (a : Feeder) (l : List Feeder) :
    (l.foldl (fun t g => t.placePatrolOn a g) s).flagSet .holds := by
  induction l generalizing s with
  | nil => exact h
  | cons g rest ih => exact ih (h.placePatrolOn a g)

theorem State.foldl_placePatrolOn_flagSet (a : Feeder) {l : List Feeder} (mem : g ∈ l)
    (free : hasOwner (s.holdTable g).list .patrol = false) :
    (l.foldl (fun t g => t.placePatrolOn a g) s).flagSet .holds := by
  induction l generalizing s with
  | nil => cases mem
  | cons x rest ih =>
    by_cases head : g = x
    · subst head
      exact (State.placePatrolOn_flagSet free a).foldl_placePatrolOn a rest
    · refine ih ((List.mem_cons.1 mem).resolve_left head) ?_
      have same : (s.placePatrolOn a x).holdView g = s.holdView g := by rw [State.placePatrolOn_holdView, if_neg head]
      exact (congrArg (fun v => hasOwner v.1 .patrol) same).trans free

end Sys2Proof.Machine
end

section
/-! What a confirmed trip decides (R71, R76), after the PATROL placements of its level (R83, R91, R101). -/

namespace Sys2Proof.Machine

variable {s : State} {f g : Feeder}

/-! ### The placement a trip makes (R71, R101) -/

/-- A feeder's list and sequencer after the placement, where the level's record asks for it. -/
theorem State.patrolIfDue_holdView (s : State) (f g : Feeder) :
    (s.patrolIfDue f).holdView g =
      if (s.effective f).patrol = true ∧ (g = f ∨ feederGet (s.holdTable f).corridor g = true) then
        patrolView s.stamp (s.holdView g)
      else s.holdView g := by
  unfold State.patrolIfDue
  split
  · next due => rw [State.placePatrol_holdView]; simp [due]
  · next idle => simp [idle]

theorem State.patrolIfDue_idle (idle : (s.effective f).patrol = false) : s.patrolIfDue f = s := by
  simp [State.patrolIfDue, idle]

/-- The feeder's own sequencer is not in DEAD, so the placement leaves it. -/
theorem State.patrolIfDue_sequencer (state : (s.sequencer f).state = .tripping) :
    (s.patrolIfDue f).sequencer f = s.sequencer f := by
  have moved := congrArg Prod.snd (s.patrolIfDue_holdView f f)
  have kept : (patrolView s.stamp (s.holdView f)).2 = s.sequencer f :=
    patrolView_sequencer _ (show (s.sequencer f).state ≠ .dead by simp [state])
  rw [apply_ite Prod.snd, kept] at moved
  exact moved.trans (ite_self _)

theorem State.patrolIfDue_effective (s : State) (f g : Feeder) : (s.patrolIfDue f).effective g = s.effective g := by
  obtain ⟨m, fire⟩ := ((State.Steady.refl s).patrolIfDue (g := f)).fire
  rw [State.effective, State.effective, fire]

/-- A corridor feeder's new entry sets the HOLDS flag. -/
theorem State.patrolIfDue_flagSet (due : (s.effective f).patrol = true) (ne : g ≠ f)
    (corridor : feederGet (s.holdTable f).corridor g = true) (free : hasOwner (s.holdTable g).list .patrol = false) :
    (s.patrolIfDue f).flagSet .holds := by
  have free' : hasOwner ((s.placePatrolOn f f).holdTable g).list .patrol = false := by
    have same : (s.placePatrolOn f f).holdView g = s.holdView g := by rw [State.placePatrolOn_holdView, if_neg ne]
    exact (congrArg (fun v => hasOwner v.1 .patrol) same).trans free
  have mem : g ∈ allFeeders := by cases g <;> decide
  rw [State.patrolIfDue, if_pos due]
  exact State.foldl_placePatrolOn_flagSet f (by simp [mem, corridor, ne]) free'

/-! ### The five tests (R71) -/

/-- The reason of the first test of R71 that fails. -/
def State.recloseRefusal (s : State) (f : Feeder) : Option LockoutReason :=
  if (s.sequencer f).mark then some .switchOnToFault
  else if (s.effective f).patrol then some .patrol
  else if (s.holdTable f).list ≠ [] then some .hold
  else if (s.effective f).shotLimit ≤ (s.sequencer f).shots then some .shots
  else if (s.effective f).mayReclose (s.sequencer f).cause then none
  else some .cause

/-- All five tests of R71 pass. -/
def State.mayEnterDead (s : State) (f : Feeder) : Prop :=
  (s.sequencer f).mark = false ∧ (s.effective f).patrol = false ∧ (s.holdTable f).list = [] ∧
    (s.sequencer f).shots < (s.effective f).shotLimit ∧ (s.effective f).mayReclose (s.sequencer f).cause = true

theorem State.recloseRefusal_passed (h : s.mayEnterDead f) : s.recloseRefusal f = none := by
  obtain ⟨mark, patrol, hold, shots, cause⟩ := h
  simp [State.recloseRefusal, mark, patrol, hold, not_le.2 shots, cause]

theorem State.recloseRefusal_failed (h : ¬ s.mayEnterDead f) :
    s.recloseRefusal f = some
      (if (s.sequencer f).mark then .switchOnToFault
      else if (s.effective f).patrol then .patrol
      else if (s.holdTable f).list ≠ [] then .hold
      else if (s.effective f).shotLimit ≤ (s.sequencer f).shots then .shots
      else .cause) := by
  unfold State.recloseRefusal
  split
  · rfl
  split
  · rfl
  split
  · rfl
  split
  · rfl
  next mark patrol hold shots =>
    rw [if_neg fun cause => h
      ⟨by simpa using mark, by simpa using patrol, by simpa using hold, by simpa using shots, cause⟩]

/-- The decision by the first test that fails. -/
theorem State.decideReclose_eq (s : State) (f : Feeder) :
    s.decideReclose f =
      match s.recloseRefusal f with
      | some r => (s.setSequencer f { s.sequencer f with mark := false }).lockout f r none
      | none => s.setSequencer f
          { s.sequencer f with
            state := .dead, mark := false, phase := none, openTaken := false
            timer := some (s.timer ((s.effective f).group.deadTime (s.sequencer f).shots)) } := by
  unfold State.decideReclose State.recloseRefusal
  dsimp only
  split
  · rfl
  split
  · rfl
  split
  · rfl
  by_cases few : (s.sequencer f).shots < (s.effective f).shotLimit
  · cases cause : (s.effective f).mayReclose (s.sequencer f).cause <;> simp [few, not_le.2 few]
  · simp [few, not_lt.1 few]

theorem State.decideReclose_dead (h : s.recloseRefusal f = none) :
    s.decideReclose f = s.setSequencer f
      { s.sequencer f with
        state := .dead, mark := false, phase := none, openTaken := false
        timer := some (s.timer ((s.effective f).group.deadTime (s.sequencer f).shots)) } := by
  rw [State.decideReclose_eq, h]

theorem State.decideReclose_lockout {r : LockoutReason} (h : s.recloseRefusal f = some r) :
    s.decideReclose f = (s.setSequencer f { s.sequencer f with mark := false }).lockout f r none := by
  rw [State.decideReclose_eq, h]

/-- The placements of the trip move no test: with the patrol flag set, the second fails before the list is read. -/
theorem State.patrolIfDue_recloseRefusal (state : (s.sequencer f).state = .tripping) :
    (s.patrolIfDue f).recloseRefusal f = s.recloseRefusal f := by
  cases due : (s.effective f).patrol with
  | false => rw [State.patrolIfDue_idle due]
  | true =>
    simp only [State.recloseRefusal, State.patrolIfDue_sequencer state, State.patrolIfDue_effective, due, if_true]

/-! ### The confirmed trip (R71) -/

theorem State.confirmTrip_taken (taken : (s.sequencer f).openTaken = true) :
    s.confirmTrip f = (s.patrolIfDue f).moveSequencer f Sequencer.enterOpen := if_pos taken

theorem State.confirmTrip_decides (free : (s.sequencer f).openTaken = false) :
    s.confirmTrip f = (s.patrolIfDue f).decideReclose f := if_neg (Bool.eq_false_iff.1 free)

/-- After its placements the trip moves the feeder's own sequencer, with the record and the flag of a LOCKOUT. -/
theorem State.confirmTrip_within (s : State) (f : Feeder) :
    (s.patrolIfDue f).Within [.sequencers, .log, .ports] (some f) (s.confirmTrip f) := by
  have same := State.Within.refl (s.patrolIfDue f) [.sequencers, .log, .ports] (some f)
  unfold State.confirmTrip
  dsimp only
  split
  · exact same.setSequencer (by decide) (by simp) _
  · exact same.decideReclose (by decide) (by decide) (by decide) (by simp)

theorem State.confirmTrip_holds (s : State) (f : Feeder) : (s.confirmTrip f).holds = (s.patrolIfDue f).holds :=
  (s.confirmTrip_within f).parts .holds (by decide)

/-- Every other feeder's list and sequencer stand as the placements left them. -/
theorem State.confirmTrip_holdView (s : State) (ne : g ≠ f) :
    (s.confirmTrip f).holdView g =
      if (s.effective f).patrol = true ∧ feederGet (s.holdTable f).corridor g = true then
        patrolView s.stamp (s.holdView g)
      else s.holdView g := by
  rw [State.holdView_of_feederOnly (s.confirmTrip_within f).feeder ne, State.patrolIfDue_holdView]
  simp [ne]

theorem State.flagSet.decideReclose {fl : AttentionFlag} (h : s.flagSet fl) (f : Feeder) : (s.decideReclose f).flagSet fl := by
  have moved : ∀ q, (s.setSequencer f q).flagSet fl := fun _ => h
  rw [State.decideReclose_eq]
  split
  · exact (moved _).lockout _ _ _
  · exact moved _

theorem State.confirmTrip_flagSet {fl : AttentionFlag} (h : (s.patrolIfDue f).flagSet fl) : (s.confirmTrip f).flagSet fl := by
  unfold State.confirmTrip
  dsimp only
  split
  · exact h
  · exact h.decideReclose f

theorem State.confirmTrip_locksOut {r : LockoutReason} (state : (s.sequencer f).state = .tripping)
    (free : (s.sequencer f).openTaken = false) (refused : s.recloseRefusal f = some r) :
    (s.confirmTrip f).flagSet .lockout ∧
      (s.confirmTrip f).sequencer f = { s.sequencer f with mark := false }.lockedOut r := by
  rw [State.confirmTrip_decides free,
    State.decideReclose_lockout ((State.patrolIfDue_recloseRefusal state).trans refused), State.lockout_sequencer,
    State.setSequencer_sequencer_self, State.patrolIfDue_sequencer state]
  exact ⟨State.flagSet_setFlag _ _, rfl⟩

/-- Settles O39: the placements by the view of each feeder's list and sequencer, the decision by the first test that fails. -/
theorem confirmedTripDecides : Obligations.ConfirmedTripDecides := by
  intro f s state
  refine ⟨fun law => ?parts, fun due => ?own, fun g ne => ⟨fun due corridor free => ?placed, fun spared => ?spared⟩,
    fun taken => ?taken, fun free => ⟨fun passes => ?dead, fun fails => ?lockout⟩⟩
  case parts =>
    exact ((State.Within.refl s _ none).confirmTrip (by decide) (by decide) (by decide) (by decide) (by decide) law f).parts
  case own =>
    have placed := s.patrolIfDue_holdView f f
    rw [if_pos ⟨due, .inl rfl⟩] at placed
    rw [State.holdTable, State.confirmTrip_holds]
    exact (congrArg (fun v => hasOwner v.1 .patrol) placed).trans (patrolView_stands _ _)
  case placed =>
    have joined : (s.confirmTrip f).holdView g =
        ((s.holdTable g).list ++ [patrolEntry s.stamp], (s.sequencer g).meetsHold) := by
      rw [s.confirmTrip_holdView ne, if_pos ⟨due, corridor⟩]
      exact if_neg (Bool.eq_false_iff.1 free)
    obtain ⟨list, sequencer⟩ := Prod.ext_iff.1 joined
    refine ⟨list, State.confirmTrip_flagSet (State.patrolIfDue_flagSet due ne corridor free), fun dead => ?_,
      fun other => sequencer.trans (if_neg other)⟩
    have locked : (s.confirmTrip f).sequencer g = _ := sequencer.trans (if_pos dead)
    rw [locked]
    exact ⟨rfl, rfl⟩
  case spared =>
    have same : (s.confirmTrip f).holdView g = s.holdView g := by
      rw [s.confirmTrip_holdView ne]
      split
      · next reached =>
        obtain ⟨due, corridor⟩ := reached
        have stands : hasOwner (s.holdTable g).list .patrol = true := by simpa [due, corridor] using spared
        exact if_pos stands
      · rfl
    exact Prod.ext_iff.1 same
  case taken =>
    rw [State.confirmTrip_taken taken, State.moveSequencer, State.setSequencer_sequencer_self,
      State.patrolIfDue_sequencer state]
    rfl
  case dead =>
    obtain ⟨-, patrol, -⟩ := id passes
    rw [State.confirmTrip_decides free, State.patrolIfDue_idle patrol,
      State.decideReclose_dead (State.recloseRefusal_passed passes)]
    rfl
  case lockout =>
    exact State.confirmTrip_locksOut state free (State.recloseRefusal_failed fails)

end Sys2Proof.Machine
end

section
/-! MANUAL-CLOSE (R52, R59, R80, R90): the breaker interface's four answers to a close request, and the request whole. -/

namespace Sys2Proof.Machine

variable {s t : State} {f : Feeder} {p : Port} {fr : Frame} {code : Byte}

/-! ### The close request (R52, R59) -/

theorem State.closeRequest_busy (slot : (s.breaker f).slot ≠ .empty) (u : ClosePurpose) (r : Requester) :
    s.closeRequest f u r = (s, .refused .busy none) := if_pos slot

theorem State.closeRequest_notOpen (slot : (s.breaker f).slot = .empty) (closed : (s.breaker f).stableClosed = true)
    (u : ClosePurpose) (r : Requester) : s.closeRequest f u r = (s, .refused .notOpen none) := by
  simp [State.closeRequest, slot, closed]

theorem State.closeRequest_barred {u : ClosePurpose} {h : Hold} (slot : (s.breaker f).slot = .empty)
    (position : (s.breaker f).stableClosed = false) (bar : barring (s.holdTable f).list u = some h) (r : Requester) :
    s.closeRequest f u r = (s, .refused .barred (some h)) := by
  simp [State.closeRequest, slot, position, bar]

theorem State.closeRequest_granted {u : ClosePurpose} (slot : (s.breaker f).slot = .empty)
    (position : (s.breaker f).stableClosed = false) (free : barring (s.holdTable f).list u = none) (r : Requester) :
    s.closeRequest f u r = (s.setBreaker f { s.breaker f with slot := .close (s.newClose f u r) }, .granted) := by
  simp [State.closeRequest, slot, position, free]

/-! ### The sequencer's part (R80) -/

theorem Sequencer.standsOpen_iff (q : Sequencer) : q.standsOpen = true ↔ q.state = .open ∨ q.state = .lockout := by
  simp [Sequencer.standsOpen]

theorem State.manualClose_elsewhere (away : (s.sequencer f).standsOpen = false) (p : Port) :
    s.manualClose f p = s.reply p .state := if_neg (Bool.eq_false_iff.1 away)

theorem State.manualClose_refused (stands : (s.sequencer f).standsOpen = true) {c : CloseRefusal} {bar : Option Hold}
    (taken : s.closeRequest f (manualPurpose p) (.master p) = (t, .refused c bar)) :
    s.manualClose f p = t.respond p c.status (refusalData bar) := by
  rw [State.manualClose, if_pos stands, taken]

theorem State.manualClose_granted (stands : (s.sequencer f).standsOpen = true)
    (taken : s.closeRequest f (manualPurpose p) (.master p) = (t, .granted)) :
    s.manualClose f p = t.moveSequencer f (fun q => { q with manualClose := some p }) := by
  rw [State.manualClose, if_pos stands, taken]

/-! ### The request (R80, R188, R189) -/

theorem manualPurpose_eq (p : Port) : manualPurpose p = if p = .remote then .remote else .localClose := by
  cases p <;> rfl

/-- The key condition of the remote and of the panel grants the close. -/
theorem grantClose_of_key {k : KeyPosition} (remote : p = .remote → k = .remotePos) (panel : p = .panel → k = .localPos) :
    grantClose k p = true := by
  cases p with
  | station => rfl
  | remote => simp [grantClose, remote rfl]
  | panel => simp [grantClose, panel rfl]

theorem oneFeeder_names {pl : List Byte} (length : pl.length = 1) (names : feederOf (byteAt pl 0) = some f) :
    oneFeeder pl = some f := (if_pos length).trans names

/-- A granted MANUAL-CLOSE that appends no record leaves what the sequencer makes of it. -/
theorem exec_manualClose (taken : s.controlTaken p 0x07 fr) (granted : grantClose s.key p = true)
    (names : oneFeeder fr.payload = some f) (closed : (s.controlInFlight p 0x07 fr).manualClose f p = t)
    (silent : t.log = s.log) : exec (.manualClose p fr) s = .next t := by
  obtain ⟨⟨⟨powered, -⟩, -⟩, -⟩ := id taken
  have row : exec (.manualClose p fr) s = event s (reqManualClose p fr) := rfl
  have owned : ownerManualClose p fr.payload (s.controlInFlight p 0x07 fr) = t := by
    rw [ownerManualClose, names]
    exact closed
  rw [row, event_powered _ _ powered, reqManualClose, State.controlRequest_taken taken granted,
    State.causedBy_same (by rw [owned, silent]; rfl), owned]

/-- A refusal of the breaker interface, answered with its detail. -/
theorem exec_manualClose_refused (taken : s.controlTaken p 0x07 fr) (granted : grantClose s.key p = true)
    (names : oneFeeder fr.payload = some f) (stands : (s.sequencer f).standsOpen = true) {c : CloseRefusal}
    {bar : Option Hold}
    (refused : (s.controlInFlight p 0x07 fr).closeRequest f (manualPurpose p) (.master p) =
      (s.controlInFlight p 0x07 fr, .refused c bar)) :
    exec (.manualClose p fr) s = .next (s.controlAnswered p 0x07 fr c.status (refusalData bar)) := by
  obtain ⟨⟨free, -⟩, -⟩ := id taken
  refine exec_manualClose taken granted names ?_ rfl
  rw [State.manualClose_refused (s := s.controlInFlight p 0x07 fr) stands refused, State.controlInFlight_respond free]

/-- Settles O42: each answer of the breaker interface to the close request, on the port with the request in flight. -/
theorem manualCloseIsTested : Obligations.ManualCloseIsTested := by
  intro p f fr s taken remote panel length feeder
  have granted := grantClose_of_key remote panel
  have names := oneFeeder_names length feeder
  obtain ⟨⟨free, -⟩, -⟩ := id taken
  refine ⟨fun notOpen notLockout => ?elsewhere, fun state => ?stands⟩
  case elsewhere =>
    have away : (s.sequencer f).standsOpen = false := by simp [Sequencer.standsOpen, notOpen, notLockout]
    refine exec_manualClose taken granted names ?_ rfl
    rw [State.manualClose_elsewhere (s := s.controlInFlight p 0x07 fr) away, State.controlInFlight_reply free]
  case stands =>
    have stands := (s.sequencer f).standsOpen_iff.2 state
    rw [← manualPurpose_eq]
    refine ⟨fun slot => ?busy, fun slot closed => ?notOpen,
      fun slot position => ⟨fun h bar => ?barred, fun unbarred => ?granted⟩⟩
    case busy =>
      exact exec_manualClose_refused taken granted names stands
        (State.closeRequest_busy (s := s.controlInFlight p 0x07 fr) slot _ _)
    case notOpen =>
      exact exec_manualClose_refused taken granted names stands
        (State.closeRequest_notOpen (s := s.controlInFlight p 0x07 fr) slot closed _ _)
    case barred =>
      exact exec_manualClose_refused taken granted names stands
        (State.closeRequest_barred (s := s.controlInFlight p 0x07 fr) slot position bar _)
    case granted =>
      have begun := State.closeRequest_granted (s := s.controlInFlight p 0x07 fr) slot position unbarred (.master p)
      exact exec_manualClose taken granted names
        (State.manualClose_granted (s := s.controlInFlight p 0x07 fr) stands begun) rfl

end Sys2Proof.Machine
end

section
/-! SUPPORT. What a step can do to the hold lists (R88 to R106): a run of the few moves listed here, each of which keeps the law
of R89. Here stand the moves, the operations of the lists, the sequencer's and the hunt engine's. -/

namespace Sys2Proof.Machine

variable {s t u : State} {f g : Feeder}

/-! ### One list (R88, R89) -/

/-- Owner and tag of an entry, which no two entries of a list share (R89). -/
def Hold.key (h : Hold) : Owner × Nat := (h.owner, h.tag)

/-- The law of R89 on one list. -/
def HoldsLawful (l : List Hold) : Prop :=
  masterCount l ≤ masterHoldLimit ∧ holdsDistinct l = true ∧ ∀ h ∈ l, h.lawful

theorem holdsDistinct_iff (l : List Hold) : holdsDistinct l = true ↔ (l.map Hold.key).Nodup := by
  induction l with
  | nil => simp [holdsDistinct]
  | cons h rest ih => simp [holdsDistinct, ih, Hold.key, imp_iff_not_or]

theorem Hold.isOf_key {o : Owner} {tag : Nat} {h : Hold} : h.isOf o tag = true ↔ h.key = (o, tag) := by
  simp [Hold.isOf, Hold.key]

theorem hasOwner_eq_false {l : List Hold} {o : Owner} : hasOwner l o = false ↔ ∀ h ∈ l, h.owner ≠ o := by
  simp [hasOwner]

theorem HoldsLawful.erase {l : List Hold} (law : HoldsLawful l) (e : Hold) : HoldsLawful (l.erase e) := by
  obtain ⟨count, distinct, lawful⟩ := law
  have sub : (l.erase e).Sublist l := List.erase_sublist
  refine ⟨(sub.countP_le).trans count, ?_, fun h mem => lawful h (sub.subset mem)⟩
  rw [holdsDistinct_iff] at distinct ⊢
  exact distinct.sublist (sub.map _)

/-- A lawful entry of an owner and tag that do not stand joins a list with room for it. -/
theorem HoldsLawful.append {l : List Hold} (law : HoldsLawful l) {e : Hold} (lawful : e.lawful)
    (new : ∀ h ∈ l, h.key ≠ e.key) (room : e.owner.isMaster = true → masterCount l < masterHoldLimit) :
    HoldsLawful (l ++ [e]) := by
  obtain ⟨count, distinct, all⟩ := law
  refine ⟨?_, ?_, ?_⟩
  · rw [masterCount, List.countP_append, ← masterCount]
    by_cases master : e.owner.isMaster = true
    · simpa [master] using room master
    · simpa [master] using count
  · rw [holdsDistinct_iff] at distinct ⊢
    rw [List.map_append, List.map_singleton, List.nodup_append_comm, List.singleton_append, List.nodup_cons]
    exact ⟨by simpa [eq_comm] using new, distinct⟩
  · exact List.forall_mem_append.2 ⟨all, List.forall_mem_singleton.2 lawful⟩

theorem map_replace_key {old new : Hold} (same : new.key = old.key) (l : List Hold) :
    (l.replace old new).map Hold.key = l.map Hold.key := by
  induction l with
  | nil => rfl
  | cons h rest ih =>
    rw [List.replace_cons]
    split
    · next here => rw [List.map_cons, List.map_cons, same, eq_of_beq here]
    · rw [List.map_cons, List.map_cons, ih]

theorem mem_replace {old new h : Hold} {l : List Hold} (mem : h ∈ l.replace old new) : h ∈ l ∨ h = new := by
  induction l with
  | nil => exact .inl mem
  | cons x rest ih =>
    rw [List.replace_cons] at mem
    split at mem
    · exact (List.mem_cons.1 mem).symm.imp_left (List.mem_cons_of_mem x)
    · obtain rfl | mem := List.mem_cons.1 mem
      · exact .inl List.mem_cons_self
      · exact (ih mem).imp_left (List.mem_cons_of_mem x)

/-- An entry is refreshed in its place under its owner and tag. -/
theorem HoldsLawful.replace {l : List Hold} (law : HoldsLawful l) {old new : Hold} (lawful : new.lawful)
    (same : new.key = old.key) : HoldsLawful (l.replace old new) := by
  obtain ⟨count, distinct, all⟩ := law
  have counted : ∀ k, masterCount k = (k.map Hold.key).countP (fun x => x.1.isMaster) := fun k => by
    rw [List.countP_map]
    rfl
  refine ⟨?_, ?_, fun h mem => ?_⟩
  · rwa [counted, map_replace_key same, ← counted]
  · rwa [holdsDistinct_iff, map_replace_key same, ← holdsDistinct_iff]
  · obtain mem | rfl := mem_replace mem
    · exact all h mem
    · exact lawful

/-! ### Loaded lists (R104, R106) -/

theorem retainedHold_lawful {h : Hold} (valid : retainedHoldValid h = true) : h.lawful := by
  obtain ⟨owner, kind, tag, reason, expiry, stamp⟩ := h
  cases owner <;> simp_all [retainedHoldValid, Hold.lawful, within]

/-- A retained record that passes its range check keeps the law. -/
theorem holdsLawful_of_retained {l : List Hold} (valid : retainedHoldsValid l = true) : HoldsLawful l := by
  simp only [retainedHoldsValid, Bool.and_eq_true, List.all_eq_true, decide_eq_true_eq] at valid
  obtain ⟨⟨all, distinct⟩, count⟩ := valid
  exact ⟨count, distinct, fun h mem => retainedHold_lawful (all h mem)⟩

/-- A list as it is loaded keeps the law and holds no FIRE entry. -/
theorem loadedList_lawful (im : Image) (now : Stamp) (f : Feeder) :
    HoldsLawful (feederGet (loadStore im now).holds f).value ∧
      ∀ h ∈ (feederGet (loadStore im now).holds f).value, h.owner ≠ .fire := by
  have loaded : ∀ i x, HoldsLawful (loadRecord holdsFormat retainedHoldsValid [damagedHold now] i x).value ∧
      ∀ h ∈ (loadRecord holdsFormat retainedHoldsValid [damagedHold now] i x).value, h.owner ≠ .fire := by
    intro i x
    unfold loadRecord
    split
    · next passes =>
      have valid := (Bool.and_eq_true _ _ ▸ passes).2
      refine ⟨holdsLawful_of_retained valid, fun h mem own => ?_⟩
      simp only [retainedHoldsValid, Bool.and_eq_true, List.all_eq_true] at valid
      have kept := valid.1.1 h mem
      simp [retainedHoldValid, own] at kept
    · refine ⟨⟨by simp [masterCount, damagedHold, Owner.isMaster], rfl, ?_⟩, ?_⟩ <;> simp [damagedHold, Hold.lawful]
  cases f <;> exact loaded _ _

/-- A list as it is rebuilt: the loaded entries, then FIRE where the level asks for it (R106). -/
theorem rebuiltList_lawful {l : List Hold} (law : HoldsLawful l) (free : ∀ h ∈ l, h.owner ≠ .fire) (e : Effective)
    (now : Stamp) : HoldsLawful (rebuiltList l e now) := by
  unfold rebuiltList
  split
  · refine law.append (by simp [Hold.lawful]) (fun h mem same => free h mem ?_) (by simp [Owner.isMaster])
    exact congrArg Prod.fst same
  · exact law

/-! ### Moves of the lists -/

/-- The hold list of every feeder. -/
def State.lists (s : State) (f : Feeder) : List Hold := (s.holdTable f).list

/-- The moves of the hold lists: an entry joins a list, is refreshed in its place, or leaves it; and the lists of a start. -/
inductive HoldMove (l : Feeder → List Hold) : (Feeder → List Hold) → Prop where
  /-- A placement (R92, R93, R99 to R101). -/
  | joins (f : Feeder) (e : Hold) (lawful : e.lawful) (new : ∀ h ∈ l f, h.key ≠ e.key)
      (room : e.owner.isMaster = true → masterCount (l f) < masterHoldLimit) :
      HoldMove l (Function.update l f (l f ++ [e]))
  /-- A refresh (R94). -/
  | refreshed (f : Feeder) (old new : Hold) (lawful : new.lawful) (same : new.key = old.key) :
      HoldMove l (Function.update l f ((l f).replace old new))
  /-- A removal (R92). -/
  | leaves (f : Feeder) (e : Hold) : HoldMove l (Function.update l f ((l f).erase e))
  /-- The lists of a start (R106). -/
  | rebuilt (k : Feeder → List Hold) (lawful : ∀ f, HoldsLawful (k f)) : HoldMove l k

/-- From s to t the hold lists run through moves. -/
def State.HoldMoves (s t : State) : Prop := Relation.ReflTransGen HoldMove s.lists t.lists

theorem HoldMove.keepsLaw {l k : Feeder → List Hold} (move : HoldMove l k) (law : ∀ f, HoldsLawful (l f)) (f : Feeder) :
    HoldsLawful (k f) := by
  have updated : ∀ g x, HoldsLawful x → HoldsLawful (Function.update l g x f) := fun g x good => by
    rw [Function.update_apply]
    split
    · exact good
    · exact law f
  cases move with
  | joins g e lawful new room => exact updated g _ ((law g).append lawful new room)
  | refreshed g old new lawful same => exact updated g _ ((law g).replace lawful same)
  | leaves g e => exact updated g _ ((law g).erase e)
  | rebuilt _ lawful => exact lawful f

/-- A run of moves keeps the law of R89. -/
theorem State.HoldMoves.keepsLaw (h : s.HoldMoves t) (law : s.HoldLaw) : t.HoldLaw := by
  change ∀ f, HoldsLawful (s.lists f) at law
  change ∀ f, HoldsLawful (t.lists f)
  unfold State.HoldMoves at h
  generalize t.lists = l at h
  induction h with
  | refl => exact law
  | tail _ move ih => exact move.keepsLaw ih

theorem State.HoldMoves.refl (s : State) : s.HoldMoves s := Relation.ReflTransGen.refl

theorem State.HoldMoves.move (h : s.HoldMoves t) (k : HoldMove t.lists u.lists) : s.HoldMoves u := Relation.ReflTransGen.tail h k

theorem State.HoldMoves.trans (h : s.HoldMoves t) (k : t.HoldMoves u) : s.HoldMoves u := Relation.ReflTransGen.trans h k

/-- What leaves the lists is no move. -/
theorem State.HoldMoves.sameLists (h : s.HoldMoves t) (k : u.lists = t.lists) : s.HoldMoves u := by
  unfold State.HoldMoves
  rwa [k]

/-- What leaves the hold tables is no move. -/
theorem State.HoldMoves.same (h : s.HoldMoves t) (k : u.holds = t.holds) : s.HoldMoves u :=
  h.sameLists (by funext f; rw [State.lists, State.lists, State.holdTable, State.holdTable, k])

/-- A record and its flag. -/
theorem State.HoldMoves.said (h : s.HoldMoves t) (x : Option Feeder) (b : RecordSource) (d : Details) (fl : AttentionFlag) :
    s.HoldMoves ((t.append x b d).setFlag fl) := h.same (by simp)

theorem State.HoldMoves.append (h : s.HoldMoves t) (x : Option Feeder) (b : RecordSource) (d : Details) :
    s.HoldMoves (t.append x b d) := h.same (by simp)

theorem State.HoldMoves.respond (h : s.HoldMoves t) (p : Port) (st : Status) (d : List Byte) :
    s.HoldMoves (t.respond p st d) := h.same (by simp)

theorem State.HoldMoves.reply (h : s.HoldMoves t) (p : Port) (st : Status) : s.HoldMoves (t.reply p st) := h.same (by simp)

theorem State.HoldMoves.ite {c : Prop} [Decidable c] (h : s.HoldMoves t) (k : s.HoldMoves u) :
    s.HoldMoves (if c then t else u) := by
  split
  · exact h
  · exact k

/-- One of two ways for the hunt engine to go on. -/
theorem State.HoldMoves.goIte {c : Prop} [Decidable c] {a b : Go} (h : s.HoldMoves a.1) (k : s.HoldMoves b.1) :
    s.HoldMoves (if c then a else b).1 := by
  split
  · exact h
  · exact k

theorem State.HoldMoves.foldl {α : Type} {op : State → α → State}
    (step : ∀ {u : State}, s.HoldMoves u → ∀ x, s.HoldMoves (op u x)) (h : s.HoldMoves t) (l : List α) :
    s.HoldMoves (l.foldl op t) := by
  induction l generalizing t with
  | nil => exact h
  | cons x rest ih => exact ih (step h x)

theorem State.setHoldTable_lists (t : State) (g : Feeder) (x : HoldTable) :
    (t.setHoldTable g x).lists = Function.update t.lists g x.list := by
  funext f
  rw [Function.update_apply, State.lists, State.setHoldTable_holdTable]
  split
  · rfl
  · rfl

/-! ### Operations that leave the hold tables -/

theorem State.Within.holds_same {l : List Part} {o : Option Feeder} (h : s.Within l o t) (free : .holds ∉ l) :
    t.holds = s.holds := h.parts .holds free

section

variable (s : State) (f : Feeder)

@[simp] theorem State.badArgument_holds (p : Port) : (s.badArgument p).holds = s.holds := rfl

@[simp] theorem State.moveSequencer_holds (k : Sequencer → Sequencer) : (s.moveSequencer f k).holds = s.holds := rfl

@[simp] theorem State.dropHead_holds : s.dropHead.holds = s.holds := rfl

@[simp] theorem State.setUnitList_holds (l : List Nat) : (s.setUnitList f l).holds = s.holds := rfl

@[simp] theorem State.answerData_holds (p : Port) (l : List Byte) : (s.answerData p l).holds = s.holds := rfl

@[simp] theorem State.beginHead_lists : s.beginHead.lists = s.lists :=
  funext fun g => congrArg Prod.fst (s.beginHead_holdView g)

@[simp] theorem State.requestRetention_lists (o : RetentionOwner) : (s.requestRetention o).lists = s.lists :=
  funext fun g => congrArg Prod.fst (s.requestRetention_holdView o g)

@[simp] theorem State.setPendingMark_lists (o : RetentionOwner) (m : Bool) : (s.setPendingMark o m).lists = s.lists :=
  funext fun g => congrArg Prod.fst (s.setPendingMark_holdView o m g)

@[simp] theorem State.storeEnqueue_lists (j : StoreJob) : (s.storeEnqueue j).lists = s.lists := State.beginHead_lists _

@[simp] theorem State.lockout_holds (r : LockoutReason) (c : Option CloseRefusal) : (s.lockout f r c).holds = s.holds := by
  simp [State.lockout]

@[simp] theorem State.sequencerPlacement_holds : (s.sequencerPlacement f).holds = s.holds := by
  unfold State.sequencerPlacement
  split <;> simp

@[simp] theorem State.park_holds : (s.park f).holds = s.holds := rfl

@[simp] theorem State.unpark_holds : (s.unpark f).holds = s.holds := rfl

@[simp] theorem State.decideReclose_holds : (s.decideReclose f).holds = s.holds :=
  ((State.Within.refl s [.sequencers, .log, .ports] none).decideReclose (by decide) (by decide) (by decide) (by simp)).holds_same
    (by decide)

@[simp] theorem State.protectionReport_holds (c : Cause) : (s.protectionReport f c).holds = s.holds :=
  ((State.Within.refl s [.sequencers] none).protectionReport (by decide) (by simp) c).holds_same (by decide)

@[simp] theorem State.seqBreakerFail_holds : (s.seqBreakerFail f).holds = s.holds :=
  ((State.Within.refl s [.sequencers] none).seqBreakerFail (by decide) (by simp)).holds_same (by decide)

@[simp] theorem State.seqGrant_holds : (s.seqGrant f).holds = s.holds :=
  ((State.Within.refl s [.sequencers] none).seqGrant (by decide) (by simp)).holds_same (by decide)

@[simp] theorem State.seqCloseConfirmed_holds (p : ClosePurpose) : (s.seqCloseConfirmed f p).holds = s.holds :=
  ((State.Within.refl s [.sequencers] none).seqCloseConfirmed (by decide) (by simp) p).holds_same (by decide)

@[simp] theorem State.seqCut_holds (p : ClosePurpose) : (s.seqCut f p).holds = s.holds :=
  ((State.Within.refl s [.sequencers] none).seqCut (by decide) (by simp) p).holds_same (by decide)

@[simp] theorem State.seqUnexpected_holds (b : Bool) : (s.seqUnexpected f b).holds = s.holds :=
  ((State.Within.refl s [.sequencers] none).seqUnexpected (by decide) (by simp) b).holds_same (by decide)

@[simp] theorem State.seqLateOpen_holds : (s.seqLateOpen f).holds = s.holds :=
  ((State.Within.refl s [.sequencers, .log, .ports] none).seqLateOpen (by decide) (by decide) (by decide) (by simp)).holds_same
    (by decide)

@[simp] theorem State.seqCloseFail_holds (p : ClosePurpose) : (s.seqCloseFail f p).holds = s.holds :=
  ((State.Within.refl s [.sequencers, .log, .ports] none).seqCloseFail (by decide) (by decide) (by decide) (by simp) p).holds_same
    (by decide)

@[simp] theorem State.seqRefused_holds (r : CloseRefusal) : (s.seqRefused f r).holds = s.holds :=
  ((State.Within.refl s [.sequencers, .log, .ports] none).seqRefused (by decide) (by decide) (by decide) (by simp) r).holds_same
    (by decide)

@[simp] theorem State.tripRequest_holds (r : TripRequest) : (s.tripRequest f r).1.holds = s.holds :=
  ((State.Within.refl s [.breakers] none).tripRequest (by decide) (by simp) r).holds_same (by decide)

@[simp] theorem State.closeRequest_holds (p : ClosePurpose) (r : Requester) : (s.closeRequest f p r).1.holds = s.holds :=
  ((State.Within.refl s [.breakers] none).closeRequest (by decide) (by simp) p r).holds_same (by decide)

@[simp] theorem State.tellCut_holds (op : CloseOp) : (s.tellCut f op).holds = s.holds :=
  ((State.Within.refl s [.sequencers, .ports] none).tellCut (by decide) (by decide) (by simp) op).holds_same (by decide)

@[simp] theorem State.tripConfirmedRecord_holds (op : TripOp) : (s.tripConfirmedRecord f op).holds = s.holds := by
  simp [State.tripConfirmedRecord]

@[simp] theorem State.breakerFailRecord_holds (op : TripOp) : (s.breakerFailRecord f op).holds = s.holds := by
  simp [State.breakerFailRecord]

@[simp] theorem State.lateOpenRecord_holds (x : FailedTrip) : (s.lateOpenRecord f x).holds = s.holds := by
  simp [State.lateOpenRecord]

@[simp] theorem State.closeConfirmedRecord_holds (op : CloseOp) : (s.closeConfirmedRecord f op).holds = s.holds := by
  simp [State.closeConfirmedRecord]

@[simp] theorem State.closeFailRecord_holds (op : CloseOp) : (s.closeFailRecord f op).holds = s.holds := by
  simp [State.closeFailRecord]

@[simp] theorem State.unexpectedRecord_holds (b : Bool) (x y : Decoded) : (s.unexpectedRecord f b x y).holds = s.holds := by
  simp [State.unexpectedRecord]

@[simp] theorem State.positionFault_holds : (s.positionFault f).holds = s.holds := by simp [State.positionFault]

@[simp] theorem State.clearPositionFault_holds : (s.clearPositionFault f).holds = s.holds := by
  unfold State.clearPositionFault
  dsimp only
  split <;> simp

@[simp] theorem State.enterBus_holds (b : BusState) (l : List Byte) : (s.enterBus b l).holds = s.holds := rfl

@[simp] theorem State.mapQueue_holds (k : List BusEntry → List BusEntry) : (s.mapQueue k).holds = s.holds := rfl

@[simp] theorem State.startPreamble_holds : s.startPreamble.holds = s.holds :=
  ((State.Within.refl s [.bus] none).startPreamble (by decide)).holds_same (by decide)

@[simp] theorem State.busEnqueue_holds (e : BusEntry) : (s.busEnqueue e).holds = s.holds :=
  ((State.Within.refl s [.bus] none).busEnqueue (by decide) e).holds_same (by decide)

@[simp] theorem State.unitHeard_holds (a : Nat) (w : UnitWord) : (s.unitHeard a w).holds = s.holds :=
  ((State.Within.refl s [.bus, .ports] none).unitHeard (by decide) (by decide) a w).holds_same (by decide)

@[simp] theorem State.takeReport_holds (r : ReportTaken) : (s.takeReport r).1.holds = s.holds :=
  ((State.Within.refl s [.bus, .ports] none).takeReport (by decide) (by decide) r).holds_same (by decide)

@[simp] theorem State.busHandOn_holds (e : BusEntry) (c : CompletionCode) : (s.busHandOn e c).holds = s.holds :=
  ((State.Within.refl s [.bus, .log, .ports] none).busHandOn (by decide) (by decide) (by decide) e c).holds_same (by decide)

@[simp] theorem State.endAttempt_holds (c : CompletionCode) : (s.endAttempt c).1.holds = s.holds :=
  ((State.Within.refl s [.bus, .log, .ports] none).endAttempt (by decide) (by decide) (by decide) c).holds_same (by decide)

@[simp] theorem State.withdrawHunt_holds : s.withdrawHunt.1.holds = s.holds :=
  ((State.Within.refl s [.bus] none).withdrawHunt (by decide)).holds_same (by decide)

@[simp] theorem State.offerHunt_holds (i : Nat) (k : UnitCommandKind) : (s.offerHunt f i k).1.holds = s.holds :=
  ((State.Within.refl s [.bus] none).offerHunt (by decide) f i k).holds_same (by decide)

@[simp] theorem State.huntRelease_holds : (s.huntRelease f).holds = s.holds :=
  ((State.Within.refl s [.protection, .bus, .hunt] none).huntRelease (by decide) (by decide) (by decide) (by simp)).holds_same
    (by decide)

@[simp] theorem State.traceBlock_holds (o : BlockOutcome) (b : Bool) : (s.traceBlock f o b).holds = s.holds :=
  ((State.Within.refl s [.hunt, .log, .ports] none).traceBlock (by decide) (by decide) (by decide) f o b).holds_same (by decide)

@[simp] theorem State.closePause_holds (r : PauseReason) : (s.closePause f r).holds = s.holds := by simp [State.closePause]

@[simp] theorem State.cancelWindow_holds : (s.cancelWindow f).holds = s.holds := rfl

@[simp] theorem State.updateBaseline_holds (x : Sample) : (s.updateBaseline f x).holds = s.holds :=
  ((State.Within.refl s [.protection, .log, .ports] none).updateBaseline (by decide) (by decide) (by decide) (by simp)
    x).holds_same (by decide)

@[simp] theorem State.push_holds (old new : Effective) : (s.push f old new).holds = s.holds :=
  ((State.Within.refl s [.protection, .log, .ports] none).push (by decide) (by decide) (by decide) (by simp) old new).holds_same
    (by decide)

@[simp] theorem State.levelChanged_holds (old new : Effective) (c : FireCause) : (s.levelChanged f old new c).holds = s.holds :=
  ((State.Within.refl s [.log, .ports] none).levelChanged (by decide) (by decide) f old new c).holds_same (by decide)

end

end Sys2Proof.Machine
end

section
/-! SUPPORT. The operations of the hold lists, of the sequencer and of the hunt engine as runs of moves of the lists. -/

namespace Sys2Proof.Machine

variable {s t u : State} {f g : Feeder}

/-! ### Setting store (R104, R146, R178) -/

theorem State.HoldMoves.beginHead (h : s.HoldMoves t) : s.HoldMoves t.beginHead := h.sameLists (by simp)

theorem State.HoldMoves.requestRetention (h : s.HoldMoves t) (o : RetentionOwner) : s.HoldMoves (t.requestRetention o) :=
  h.sameLists (by simp)

theorem State.HoldMoves.storeEnqueue (h : s.HoldMoves t) (j : StoreJob) : s.HoldMoves (t.storeEnqueue j) :=
  h.sameLists (by simp)

theorem State.HoldMoves.setIsolated (h : s.HoldMoves t) (a : Nat) (v : Bool) : s.HoldMoves (t.setIsolated a v) :=
  have updated : s.HoldMoves ((t.updateUnit a fun r => { r with isolated := v }).setFlag .linebus) := h
  .ite h (updated.requestRetention _)

/-! ### Hold list (R88 to R101) -/

theorem State.placed_lists (t : State) (g : Feeder) (e : Hold) (r : Bool) (p : Option Port) (a : Option Feeder) :
    (t.placed g e r p a).lists = t.lists := by
  have told : ∀ u : State, u.holds = t.holds → u.lists = t.lists := fun u same => by
    funext f
    rw [State.lists, State.lists, State.holdTable, State.holdTable, same]
  unfold State.placed
  dsimp only
  split
  · rw [State.requestRetention_lists]
    apply told
    split <;> simp
  · apply told
    split <;> simp

theorem State.HoldMoves.placeHold (h : s.HoldMoves t) {e : Hold} (lawful : e.lawful) (new : ∀ x ∈ t.lists g, x.key ≠ e.key)
    (room : e.owner.isMaster = true → masterCount (t.lists g) < masterHoldLimit) (p : Option Port) (a : Option Feeder) :
    s.HoldMoves (t.placeHold g e p a) := by
  refine h.move ?_
  rw [State.placeHold, State.placed_lists, State.setHoldTable_lists]
  exact .joins g e lawful new room

theorem State.HoldMoves.refreshHold (h : s.HoldMoves t) (old : Hold) {new : Hold} (lawful : new.lawful)
    (same : new.key = old.key) (p : Port) : s.HoldMoves (t.refreshHold g old new p) := by
  refine h.move ?_
  rw [State.refreshHold, State.placed_lists, State.setHoldTable_lists]
  exact .refreshed g old new lawful same

theorem State.HoldMoves.takeOffHold (h : s.HoldMoves t) (e : Hold) (c : RemovalCause) (p : Option Port) :
    s.HoldMoves (t.takeOffHold g e c p) := by
  have off : s.HoldMoves (t.setHoldTable g { t.holdTable g with list := (t.holdTable g).list.erase e }) := by
    refine h.move ?_
    rw [State.setHoldTable_lists]
    exact .leaves g e
  exact .ite (off.same (by simp)) (off.same (by simp))

/-- A placement of an automatic owner finds its entry standing, or adds one in that owner's form (R88, R99 to R101). -/
theorem State.HoldMoves.placeAutomatic (h : s.HoldMoves t) {o : Owner} {k : HoldKind} (auto : o.isMaster = false)
    (lawful : (t.automaticHold o k 0).lawful) (a : Option Feeder) : s.HoldMoves (t.placeAutomatic g o k a) := by
  unfold State.placeAutomatic
  split
  · exact h
  next free =>
  refine h.placeHold lawful (fun x mem same => ?_) (fun master => ?_) _ _
  · exact hasOwner_eq_false.1 (Bool.not_eq_true _ ▸ free) x mem (congrArg Prod.fst same)
  · exact absurd (master.symm.trans auto) (by decide)

theorem State.HoldMoves.placePatrolOn (h : s.HoldMoves t) (a k : Feeder) : s.HoldMoves (t.placePatrolOn a k) :=
  h.placeAutomatic rfl (by simp [Hold.lawful, State.automaticHold]) _

theorem State.HoldMoves.placePatrol (h : s.HoldMoves t) (a : Feeder) : s.HoldMoves (t.placePatrol a) :=
  State.HoldMoves.foldl (fun k x => k.placePatrolOn a x) (h.placePatrolOn a a) _

theorem State.HoldMoves.removeHunt (h : s.HoldMoves t) : s.HoldMoves (t.removeHunt g) := by
  unfold State.removeHunt
  split
  · exact h.takeOffHold _ _ _
  · exact h

theorem State.HoldMoves.retainAfter (h : s.HoldMoves t) (e : Hold) : s.HoldMoves (t.retainAfter g e) :=
  .ite (h.requestRetention _) h

/-! ### Reports to the sequencer (R70, R71) -/

theorem State.HoldMoves.patrolIfDue (h : s.HoldMoves t) : s.HoldMoves (t.patrolIfDue g) := .ite (h.placePatrol g) h

theorem State.HoldMoves.confirmTrip (h : s.HoldMoves t) : s.HoldMoves (t.confirmTrip g) :=
  h.patrolIfDue.same (State.confirmTrip_holds t g)

theorem State.HoldMoves.seqTripConfirmed (h : s.HoldMoves t) (b : Bool) (c : Option Cause) :
    s.HoldMoves (t.seqTripConfirmed g b c) := by
  have failed : s.HoldMoves (if b then t.patrolIfDue g else t) := .ite h.patrolIfDue h
  exact .ite (h.same (by simp)).confirmTrip (.ite (failed.same (State.lockout_holds _ _ _ _))
    (.ite (h.same (by simp)).confirmTrip (.ite (h.same (by simp)) h)))

theorem State.HoldMoves.seqAlreadyOpen (h : s.HoldMoves t) (b : Bool) (c : Option Cause) :
    s.HoldMoves (t.seqAlreadyOpen g b c) :=
  .ite h (.ite (h.same (by simp)).confirmTrip (.ite (h.same (by simp)).confirmTrip h))

/-! ### The end of a hunt and the choice of a block (R162 to R166, R169) -/

theorem State.HoldMoves.huntFinish (h : s.HoldMoves t) (r : EndReason) (d : EndDetail) : s.HoldMoves (t.huntFinish g r d) := by
  have removed : s.HoldMoves ((t.huntRelease g).removeHunt g) := (h.same (by simp)).removeHunt
  exact removed.same (by simp [State.huntFinish])

theorem State.HoldMoves.huntAborted (h : s.HoldMoves t) : s.HoldMoves (t.huntAborted g) := by
  unfold State.huntAborted
  split
  · exact (h.huntFinish _ _).same rfl
  · exact h.huntFinish _ _

theorem State.HoldMoves.proceed (h : s.HoldMoves t) (b : Nat) : s.HoldMoves (t.proceed b).1 := .goIte h h

theorem State.HoldMoves.takeDetour (h : s.HoldMoves t) (n : Nat) : s.HoldMoves (t.takeDetour g n).1 :=
  .goIte ((h.same (by simp)).huntFinish _ _) ((h.same (by simp)).proceed _)

theorem State.HoldMoves.chooseNext (h : s.HoldMoves t) (n : Nat) : s.HoldMoves (t.chooseNext g n).1 := by
  unfold State.chooseNext
  dsimp only
  split
  · exact h.takeDetour n
  split
  · exact (h.same (by simp)).proceed _
  · exact .goIte (h.huntFinish _ _) (h.proceed n)

theorem State.HoldMoves.completeBlock (h : s.HoldMoves t) (o : BlockOutcome) (b : Bool) :
    s.HoldMoves (t.completeBlock g o b).1 := (h.same (by simp)).chooseNext _

theorem State.HoldMoves.detourBlock (h : s.HoldMoves t) : s.HoldMoves (t.detourBlock g).1 := (h.same (by simp)).completeBlock _ _

/-! ### Unit and breaker operations of the engine (R157, R158, R160) -/

@[simp] theorem State.huntOffer_holds (s : State) (f : Feeder) (k : UnitCommandKind) : (s.huntOffer f k).1.holds = s.holds := by
  unfold State.huntOffer
  dsimp only
  split <;> simp

@[simp] theorem State.huntTrip_holds (s : State) (f : Feeder) : (s.huntTrip f).1.holds = s.holds := by
  unfold State.huntTrip
  dsimp only
  split <;> simp

theorem State.HoldMoves.huntTripFailed (h : s.HoldMoves t) : s.HoldMoves (t.huntTripFailed g).1 :=
  (h.huntFinish .breakerFailed (.breakerAnswer .breakerFail)).same (State.seqBreakerFail_holds _ _)

theorem State.HoldMoves.huntSecure (h : s.HoldMoves t) : s.HoldMoves (t.huntSecure g).1 := by
  have securing : s.HoldMoves (t.setHunt { t.hunt with phase := .securing, awaiting := .nothing }) := h
  unfold State.huntSecure
  dsimp only
  split
  · refine .goIte (securing.completeBlock _ _) ?_
    split
    · exact securing.same (by simp)
    · exact State.HoldMoves.huntFinish (securing.same (by simp)) _ _
  refine .goIte (securing.completeBlock _ _) ?_
  split
  · exact securing.same (State.huntTrip_holds _ _)
  · exact securing.same (State.huntTrip_holds _ _)
  · exact securing.same (State.huntTrip_holds _ _)
  · exact (securing.same (by simp)).completeBlock _ _
  · exact (securing.same (by simp)).huntTripFailed

theorem State.HoldMoves.testDecided (h : s.HoldMoves t) (b : Bool) : s.HoldMoves (t.testDecided g b).1 :=
  .goIte h.huntSecure (h.completeBlock _ _)

/-! ### Observation (R159, R160) -/

theorem State.HoldMoves.huntObserve (n : Nat) (h : s.HoldMoves t) : s.HoldMoves (huntObserve g n t).1 := by
  induction n generalizing t with
  | zero => exact h.testDecided _
  | succ n ih =>
    have counted : s.HoldMoves (t.countWindow 0) := h
    exact .goIte (.goIte (counted.testDecided _) (ih counted)) h

theorem State.HoldMoves.windowClosed (h : s.HoldMoves t) (w : WindowReport) : s.HoldMoves (t.windowClosed g w).1 := by
  have counted : s.HoldMoves (t.countWindow w.sefSamples) := h
  exact .goIte (counted.testDecided _) (counted.huntObserve _)

/-! ### Acting (R156 to R158, R161, R165) -/

theorem State.HoldMoves.actionEnded (h : s.HoldMoves t) (o : BlockOutcome) : s.HoldMoves (t.actionEnded g o).1 :=
  .goIte (h.same (by simp)).detourBlock ((h.same (by simp)).huntObserve _)

theorem State.HoldMoves.unitFailed (h : s.HoldMoves t) (c : FailCode) : s.HoldMoves (t.unitFailed g c).1 :=
  .goIte (.goIte (h.same (by simp)).detourBlock ((h.same (by simp)).testDecided _)) ((h.same (by simp)).huntFinish _ _)

theorem State.HoldMoves.actUnit (h : s.HoldMoves t) (k : UnitCommandKind) : s.HoldMoves (t.actUnit g k).1 := by
  unfold State.actUnit
  dsimp only
  refine .goIte (h.unitFailed _) ?_
  split
  · exact h.same (by simp)
  · exact (h.same (by simp)).unitFailed _

theorem State.HoldMoves.actOpenBreaker (h : s.HoldMoves t) : s.HoldMoves (t.actOpenBreaker g).1 := by
  unfold State.actOpenBreaker
  dsimp only
  split
  · exact h.same (State.huntTrip_holds _ _)
  · exact h.same (State.huntTrip_holds _ _)
  · exact h.same (State.huntTrip_holds _ _)
  · exact (h.same (by simp)).actionEnded _
  · exact (h.same (by simp)).huntTripFailed

theorem State.HoldMoves.huntRefused (h : s.HoldMoves t) (r : CloseRefusal) : s.HoldMoves (t.huntRefused g r).1 := by
  cases r with
  | notOpen => exact h.actionEnded _
  | barred => exact h.same (State.closePause_holds _ _ _)
  | busy => exact .goIte (h.actionEnded _) (h.huntFinish _ _)

theorem State.HoldMoves.huntCloseTaken (h : s.HoldMoves t) (c : CloseTaken) : s.HoldMoves (t.huntCloseTaken g c).1 := by
  obtain same | ⟨_, _, ⟨_, granted⟩ | ⟨r, _, _, ⟨_, refused⟩ | ⟨_, aborted⟩⟩⟩ := t.huntCloseTaken_cases g c
  · rw [same]; exact h
  · rw [granted]; exact h
  · rw [refused]; exact h.huntRefused r
  · rw [aborted]; exact h.huntAborted

theorem State.HoldMoves.takeHuntClose (h : s.HoldMoves t) : s.HoldMoves (t.takeHuntClose g).1 :=
  (h.same (by simp)).huntCloseTaken _

theorem State.HoldMoves.actCloseBreaker (h : s.HoldMoves t) : s.HoldMoves (t.actCloseBreaker g).1 := by
  have sent : s.HoldMoves (t.sendHuntClose g) := h
  exact .goIte (h.actionEnded _) (.goIte sent.takeHuntClose sent)

theorem State.HoldMoves.actClose (h : s.HoldMoves t) : s.HoldMoves (t.actClose g).1 := by
  unfold State.actClose
  split
  · exact h.actUnit _
  · exact h.actUnit _
  · exact h.actCloseBreaker

theorem State.HoldMoves.markUnit (h : s.HoldMoves t) : s.HoldMoves (t.markUnit g) := by
  unfold State.markUnit
  dsimp only
  split
  · exact h
  · exact State.HoldMoves.setIsolated (.ite h (h.same (by simp))) _ _

theorem State.HoldMoves.huntReturn (h : s.HoldMoves t) : s.HoldMoves (t.huntReturn g).1 := by
  unfold State.huntReturn
  dsimp only
  split
  · exact State.HoldMoves.huntFinish (h.same (by simp)) _ _
  · exact (h.same (by simp)).chooseNext _

theorem State.HoldMoves.beginBlock (h : s.HoldMoves t) (b : Nat) : s.HoldMoves (t.beginBlock g b).1 := by
  have entered : s.HoldMoves (t.setHunt (t.hunt.enterBlock b)) := h
  unfold State.beginBlock
  dsimp only
  split
  · exact State.HoldMoves.huntFinish (entered.same (by simp)) _ _
  · exact entered.huntReturn
  · exact entered.markUnit.completeBlock _ _
  · exact entered.huntObserve _
  · exact entered.actUnit _
  · exact entered.actOpenBreaker
  split
  · exact entered.same (State.closePause_holds _ _ _)
  · exact entered.actClose

/-- A chain of blocks carried on within the step budget (R156). -/
theorem State.HoldMoves.huntRun {go : Go} (h : s.HoldMoves go.1) : s.HoldMoves (State.huntRun go g) := by
  unfold State.huntRun
  generalize stepBudget - go.1.hunt.steps = n
  induction n generalizing go with
  | zero =>
    obtain ⟨t, _ | b⟩ := go
    · exact h
    · exact h.huntFinish _ _
  | succ n ih =>
    obtain ⟨t, _ | b⟩ := go
    · exact h
    · exact ih (h.beginBlock b)

/-! ### What the engine is told (R156 to R168) -/

/-- The end of a hunt that is RUNNING or PAUSED, told of by an event in STOPPING in a note alone (R167, R168). -/
theorem State.HoldMoves.huntFinish_alive (h : s.HoldMoves t) (k : StoppingNotes → StoppingNotes) (r : EndReason)
    (d : EndDetail) :
    s.HoldMoves (if t.huntIs g .stopping then t.huntNote k else if t.huntAlive g then t.huntFinish g r d else t) :=
  .ite h (.ite (h.huntFinish r d) h)

theorem State.HoldMoves.tripRunning (h : s.HoldMoves t) : s.HoldMoves (t.tripRunning g) := by
  unfold State.tripRunning
  dsimp only
  split
  · exact .ite h h.detourBlock.huntRun
  · exact h
  refine .ite h ?_
  have told := State.HoldMoves.ite (c := 1 ≤ t.currentBlock.window ∧ t.currentBlock.tests.trip)
    (h.same (u := t.setRun { t.hunt.run with heldTrip := true }) rfl)
    (h.same (u := t.setHunt { t.hunt with pendingDetour := true }) rfl)
  exact .ite (told.actionEnded _).huntRun told

theorem State.HoldMoves.tripPaused (h : s.HoldMoves t) : s.HoldMoves (t.tripPaused g) :=
  .ite (h.huntFinish _ _) (.ite (h.same (by simp)) (State.HoldMoves.huntRun (h.same (by simp))))

theorem State.HoldMoves.huntTripTaken (h : s.HoldMoves t) : s.HoldMoves (t.huntTripTaken g) :=
  .ite h.tripRunning (.ite h.tripPaused h)

theorem State.HoldMoves.huntTripReport (h : s.HoldMoves t) : s.HoldMoves (t.huntTripReport g) := .ite h h.huntTripTaken

theorem State.HoldMoves.huntUnexpected (h : s.HoldMoves t) (b : Bool) : s.HoldMoves (t.huntUnexpected g b) :=
  .ite h (.ite h.huntTripTaken (.ite (h.huntFinish _ _) h))

theorem State.HoldMoves.huntUnitMove (h : s.HoldMoves t) (i : Nat) : s.HoldMoves (t.huntUnitMove g i) := h.huntFinish_alive _ _ _

theorem State.HoldMoves.huntMeasurementLost (h : s.HoldMoves t) : s.HoldMoves (t.huntMeasurementLost g) :=
  h.huntFinish_alive _ _ _

theorem State.HoldMoves.huntBreakerFail (h : s.HoldMoves t) : s.HoldMoves (t.huntBreakerFail g) := h.huntFinish_alive _ _ _

theorem State.HoldMoves.huntTripAnswer (h : s.HoldMoves t) : s.HoldMoves (t.huntTripAnswer g) :=
  .ite h (.ite h.huntAborted (.ite (.ite (h.completeBlock _ _).huntRun (h.actionEnded _).huntRun) h))

theorem State.HoldMoves.huntCloseAnswer (h : s.HoldMoves t) (b : Bool) : s.HoldMoves (t.huntCloseAnswer g b) :=
  .ite h (.ite h.huntAborted (.ite (.ite (h.actionEnded _).huntRun (h.huntFinish _ _)) h))

theorem State.HoldMoves.huntCloseCut (h : s.HoldMoves t) : s.HoldMoves (t.huntCloseCut g) :=
  .ite h (.ite h.huntAborted (.ite (.ite (h.actionEnded _).huntRun (h.same (by simp))) h))

theorem State.HoldMoves.huntWindowReport (h : s.HoldMoves t) (w : WindowReport) : s.HoldMoves (t.huntWindowReport g w) :=
  .ite (h.windowClosed w).huntRun h

theorem State.HoldMoves.huntUnitDone (h : s.HoldMoves t) (c : CompletionCode) : s.HoldMoves (t.huntUnitDone c) := by
  unfold State.huntUnitDone
  split
  · exact h
  refine .ite h.huntAborted (.ite (.ite ?secured ?acted) (h.same (by simp)))
  case secured => exact .ite (h.completeBlock _ _).huntRun (h.huntFinish _ _)
  case acted => exact .ite (h.actionEnded _).huntRun (h.unitFailed _).huntRun

theorem State.HoldMoves.huntAttemptFailed (h : s.HoldMoves t) : s.HoldMoves t.huntAttemptFailed := by
  unfold State.huntAttemptFailed
  split
  · exact h
  · exact .ite (State.HoldMoves.huntAborted (h.same (by simp))) (.ite h (h.same (by simp)))

theorem State.HoldMoves.takeHuntCloses (h : s.HoldMoves t) : s.HoldMoves t.takeHuntCloses :=
  State.HoldMoves.foldl (fun k _ => .ite k.takeHuntClose.huntRun k) h _

theorem State.HoldMoves.huntRecheck (h : s.HoldMoves t) : s.HoldMoves (t.huntRecheck g) := by
  unfold State.huntRecheck
  refine .ite ?_ h
  split
  · exact h
  · exact State.HoldMoves.huntRun (State.HoldMoves.actClose (h.same (by simp)))

theorem State.HoldMoves.huntResume (h : s.HoldMoves t) : s.HoldMoves (t.huntResume g) :=
  State.HoldMoves.huntRun (h.same (by simp))

theorem State.HoldMoves.huntAbortBy (h : s.HoldMoves t) (p : Port) : s.HoldMoves (t.huntAbortBy g p) := by
  unfold State.huntAbortBy
  refine .ite ?_ h
  dsimp only
  split
  · exact .ite (h.same (by simp)) (State.HoldMoves.huntAborted (h.same (by simp)))
  · exact h
  · exact h
  · exact h
  · exact State.HoldMoves.huntAborted (h.same (by simp))

end Sys2Proof.Machine
end

section
/-! SUPPORT. Every command as a run of moves of the hold lists: the movements of a breaker, samples and recomputations, the line
bus, the requests, the store and the resets. -/

namespace Sys2Proof.Machine

variable {s t u : State} {f g : Feeder} {p : Port}

/-! ### Movements of a breaker (R49 to R63) -/

theorem State.HoldMoves.answerTripConfirmed (h : s.HoldMoves t) (r : Requester) : s.HoldMoves (t.answerTripConfirmed g r) := by
  cases r with
  | hunt => exact h.huntTripAnswer
  | _ => exact h

theorem State.HoldMoves.answerBreakerFail (h : s.HoldMoves t) (r : Requester) : s.HoldMoves (t.answerBreakerFail g r) := by
  cases r with
  | hunt => exact h.huntBreakerFail.huntTripAnswer
  | _ => exact h

theorem State.HoldMoves.tripConfirmed (h : s.HoldMoves t) (op : TripOp) : s.HoldMoves (t.tripConfirmed g op) :=
  (State.HoldMoves.foldl (fun k r => k.answerTripConfirmed r) (h.same (by simp)) _).seqTripConfirmed _ _

theorem State.HoldMoves.closeConfirmed (h : s.HoldMoves t) (op : CloseOp) : s.HoldMoves (t.closeConfirmed g op) := by
  have said : s.HoldMoves (t.closeConfirmedRecord g op) := h.same (by simp)
  unfold State.closeConfirmed
  refine State.HoldMoves.same ?_ (State.seqCloseConfirmed_holds _ _ _)
  cases op.requester with
  | hunt => exact said.huntCloseAnswer _
  | _ => exact said

theorem State.HoldMoves.closeFailed (h : s.HoldMoves t) (op : CloseOp) : s.HoldMoves (t.closeFailed g op) := by
  have said : s.HoldMoves (t.closeFailRecord g op) := h.same (by simp)
  have told : ∀ {v : State}, s.HoldMoves v → s.HoldMoves (v.seqCloseFail g op.purpose) := fun k => k.same (by simp)
  unfold State.closeFailed
  cases op.requester with
  | hunt => exact told (said.huntCloseAnswer _)
  | _ => exact told said

theorem State.HoldMoves.closeCut (h : s.HoldMoves t) (op : CloseOp) : s.HoldMoves (t.closeCut g op) := by
  unfold State.closeCut
  split
  · exact h.huntCloseCut.same (State.seqCut_holds _ _ _)
  · exact h.same (by simp)

theorem State.HoldMoves.passTrip (h : s.HoldMoves t) (p : Port) : s.HoldMoves (t.passTrip g p) := by
  have asked : s.HoldMoves (t.tripRequest g { purpose := .manual, requester := .master p, cause := none }).1 := h.same (by simp)
  unfold State.passTrip
  dsimp only
  split
  · exact asked
  · exact asked
  · exact asked.closeCut _
  · exact State.HoldMoves.seqAlreadyOpen (asked.same (by simp)) _ _
  · have told := State.HoldMoves.huntBreakerFail (g := g) (asked.same (State.reply_holds _ p .breakerFail))
    exact told.same (State.seqBreakerFail_holds _ _)

theorem State.HoldMoves.failSequencer (h : s.HoldMoves t) : s.HoldMoves (t.failSequencer g) :=
  .ite h (State.HoldMoves.foldl (fun k p => k.passTrip p) (h.same (by simp)) _)

theorem State.HoldMoves.breakerFailed (h : s.HoldMoves t) (op : TripOp) : s.HoldMoves (t.breakerFailed g op) :=
  (State.HoldMoves.foldl (fun k r => k.answerBreakerFail r) (h.same (by simp)) _).huntBreakerFail.failSequencer

theorem State.HoldMoves.unexpectedMovement (h : s.HoldMoves t) (b : Bool) (x y : Decoded) :
    s.HoldMoves (t.unexpectedMovement g b x y) := State.HoldMoves.huntUnexpected (h.same (by simp)) b

theorem State.HoldMoves.lateOpen (h : s.HoldMoves t) (x : FailedTrip) : s.HoldMoves (t.lateOpen g x) :=
  h.same (by simp [State.lateOpen])

theorem State.HoldMoves.readContacts (h : s.HoldMoves t) (c : Contacts) : s.HoldMoves (t.readContacts g c) :=
  .ite (h.same (by simp)) h

theorem State.HoldMoves.changedToOpen (h : s.HoldMoves t) (b : Bool) (x : Decoded) : s.HoldMoves (t.changedToOpen g b x) := by
  unfold State.changedToOpen
  dsimp only
  split
  · refine .ite ?_ (h.tripConfirmed _)
    split
    · exact (h.same (by simp)).lateOpen _
    · exact h
  · split
    · exact h.lateOpen _
    · exact .ite (h.unexpectedMovement _ _ _) h

theorem State.HoldMoves.changedToClosed (h : s.HoldMoves t) (b : Bool) (x : Decoded) :
    s.HoldMoves (t.changedToClosed g b x) := by
  unfold State.changedToClosed
  dsimp only
  split
  · exact h.closeConfirmed _
  · exact .ite h (.ite (h.same (by simp)) (h.unexpectedMovement _ _ _))
  · exact .ite h (h.unexpectedMovement _ _ _)

theorem State.HoldMoves.contactChange (h : s.HoldMoves t) (c : Contacts) : s.HoldMoves (t.contactChange g c) := by
  have read := h.readContacts (g := g) c
  unfold State.contactChange
  dsimp only
  refine .ite h ?_
  split
  · exact read.changedToOpen _ _
  · exact read.changedToClosed _ _
  · exact read
  · exact read

theorem State.HoldMoves.pulseEnd (h : s.HoldMoves t) : s.HoldMoves (t.pulseEnd g) := by
  unfold State.pulseEnd
  dsimp only
  split
  · exact h
  · split
    · exact .ite (h.tripConfirmed _) (h.same (by simp))
    · exact h
    · exact h
  · exact .ite (h.same (by simp)) h

theorem State.HoldMoves.tripTimeEnd (h : s.HoldMoves t) : s.HoldMoves (t.tripTimeEnd g) := by
  unfold State.tripTimeEnd
  dsimp only
  split
  · exact .ite h (.ite (h.tripConfirmed _) (h.breakerFailed _))
  · exact h

theorem State.HoldMoves.closeTimeEnd (h : s.HoldMoves t) : s.HoldMoves (t.closeTimeEnd g) := by
  unfold State.closeTimeEnd
  split
  · exact h.closeFailed _
  · exact h

theorem State.HoldMoves.pollRestart (h : s.HoldMoves t) : s.HoldMoves t.pollRestart := by
  unfold State.pollRestart
  split
  · exact .ite h h
  · exact h

/-! ### Samples and losses (R1 to R9, R25, R26, R34, R45) -/

theorem State.HoldMoves.protectionTrip (h : s.HoldMoves t) (c : Cause) : s.HoldMoves (t.protectionTrip g c) := by
  have asked : s.HoldMoves (t.tripRequest g { purpose := .protection, requester := .protection, cause := some c }).1 :=
    h.same (by simp)
  unfold State.protectionTrip
  refine State.HoldMoves.huntTripReport (State.HoldMoves.same ?_ (State.protectionReport_holds _ _ _))
  split
  · exact asked
  · exact asked
  · exact asked.huntBreakerFail.failSequencer
  · exact asked.closeCut _
  · exact asked.seqAlreadyOpen _ _

theorem State.HoldMoves.elementsTaken (h : s.HoldMoves t) (x : Sample) : s.HoldMoves (t.elementsTaken g x) := by
  have taken : s.HoldMoves (t.setUnit g (t.unitTaken g x)) := h
  have seeding : s.HoldMoves (t.seedingSaid g x) := .ite (taken.said _ _ _ _) taken
  exact .ite (seeding.said _ _ _ _) seeding

theorem State.HoldMoves.evaluateSample (h : s.HoldMoves t) (x : Sample) : s.HoldMoves (t.evaluateSample g x) := by
  rcases cause : t.causeTaken g x with _ | c
  · rw [State.evaluateSample_noTrip cause]; exact h.elementsTaken x
  · rw [State.evaluateSample_trip cause]; exact (h.elementsTaken x).protectionTrip c

theorem State.HoldMoves.windowSample (h : s.HoldMoves t) : s.HoldMoves (t.windowSample g) := by
  unfold State.windowSample
  dsimp only
  split
  · exact h
  · exact .ite (State.HoldMoves.huntWindowReport (h.same (by simp)) _) (h.same (by simp))

theorem State.HoldMoves.takeSample (h : s.HoldMoves t) (x : Sample) : s.HoldMoves (t.takeSample g x) := by
  have evaluated := h.evaluateSample (g := g) x
  exact State.HoldMoves.windowSample (.ite evaluated (evaluated.same (State.updateBaseline_holds _ _ _)))

theorem State.HoldMoves.acceptFrame (h : s.HoldMoves t) (m : Measured) : s.HoldMoves (t.acceptFrame m) := by
  have cleared : s.HoldMoves (t.frameCleared m) := .ite h h
  have sampled : s.HoldMoves (t.frameSampled m) := State.HoldMoves.foldl (fun k x => k.takeSample x) cleared _
  have held : s.HoldMoves ((t.frameSampled m).setReceiver m.feeder (receiverAfter t.ms m)) := sampled
  exact .ite (held.said _ _ _ _) held

theorem State.HoldMoves.measurementTransfer (h : s.HoldMoves t) (l : List Byte) : s.HoldMoves (t.measurementTransfer l) := by
  unfold State.measurementTransfer
  split
  · exact .ite h (h.acceptFrame _)
  · exact h

theorem State.HoldMoves.watchdogEnd (h : s.HoldMoves t) : s.HoldMoves (t.watchdogEnd g) :=
  State.HoldMoves.huntMeasurementLost (h.same (by simp))

/-! ### Removals and recomputation (R92, R99, R109 to R113, R120) -/

theorem State.HoldMoves.removeHold (h : s.HoldMoves t) (e : Hold) (c : RemovalCause) (p : Option Port) :
    s.HoldMoves (t.removeHold g e c p) := (h.takeOffHold e c p).huntRecheck.retainAfter e

theorem State.HoldMoves.reconcileFire (h : s.HoldMoves t) (e : Effective) : s.HoldMoves (t.reconcileFire g e) := by
  unfold State.reconcileFire State.removeFire
  refine .ite (h.placeAutomatic rfl (by simp [Hold.lawful, State.automaticHold]) _) ?_
  split
  · exact h.removeHold _ _ _
  · exact h

theorem State.HoldMoves.recomputeFeeder (h : s.HoldMoves t) (c : FireCause) (f : Feeder) :
    s.HoldMoves (State.recomputeFeeder c t f) := by
  have levelled : s.HoldMoves
      ((t.setEffective f (t.computeEffective f)).levelChanged f (t.effective f) (t.computeEffective f) c) :=
    h.same (State.levelChanged_holds _ _ _ _ _)
  have reconciled := levelled.reconcileFire (g := f) (t.computeEffective f)
  exact State.HoldMoves.huntRecheck (reconciled.same (State.push_holds _ _ _ _))

theorem State.HoldMoves.recomputeAll (h : s.HoldMoves t) (c : FireCause) : s.HoldMoves (t.recomputeAll c) :=
  State.HoldMoves.foldl (fun k f => k.recomputeFeeder c f) (t := t.findSite) h _

theorem State.HoldMoves.recomputeOne (h : s.HoldMoves t) (f : Feeder) (c : FireCause) : s.HoldMoves (t.recomputeOne f c) :=
  State.HoldMoves.recomputeFeeder (t := t.findSite) h c f

theorem State.HoldMoves.fireRequestChanged (h : s.HoldMoves t) (p : Port) (r : Option FireRequest) (c : LevelCause) :
    s.HoldMoves (t.fireRequestChanged p r c) :=
  (State.HoldMoves.recomputeAll (t := t.setRequest p r) h _).requestRetention _

/-! ### Line bus (R131 to R146) -/

theorem State.HoldMoves.attemptEnds (h : s.HoldMoves t) (c : CompletionCode) : s.HoldMoves (t.attemptEnds c) := by
  have ended : s.HoldMoves (t.endAttempt c).1 := h.same (by simp)
  unfold State.attemptEnds
  dsimp only
  split
  · exact ended
  · exact .ite ended.huntAttemptFailed ended
  · exact .ite (ended.huntUnitDone _) ended

theorem State.HoldMoves.takeReply (h : s.HoldMoves t) (l : List Byte) (b : Bool) : s.HoldMoves (t.takeReply l b) := by
  unfold State.takeReply
  dsimp only
  split
  · exact (h.same (by simp)).attemptEnds _
  · exact h.attemptEnds _

theorem State.HoldMoves.hearFrame (h : s.HoldMoves t) (l : List Byte) (b : Bool) : s.HoldMoves (t.hearFrame l b) := by
  unfold State.hearFrame
  split
  · exact h
  · next r _ =>
    have taken : s.HoldMoves (t.takeReport r).1 := h.same (by simp)
    dsimp only
    split
    · exact State.HoldMoves.huntUnitMove (taken.same (by simp)) _
    · exact taken

theorem State.HoldMoves.completeAll (h : s.HoldMoves t) (c : CompletionCode) : s.HoldMoves (t.completeAll c) := by
  refine State.HoldMoves.foldl (fun {u} k e => ?_) (t := t.mapQueue fun _ => []) h _
  have handed : s.HoldMoves (u.busHandOn e c) := k.same (by simp)
  exact .ite (handed.huntUnitDone c) handed

theorem State.HoldMoves.linebusReset (h : s.HoldMoves t) (p : Port) : s.HoldMoves (t.linebusReset p) := by
  have clamped : s.HoldMoves (if t.bus.state = .clampOut then t else t.enterBus .clampOut []) := .ite h h
  exact (clamped.completeAll .aborted).same rfl

theorem State.HoldMoves.clampOutEnd (h : s.HoldMoves t) : s.HoldMoves t.clampOutEnd :=
  State.HoldMoves.foldl (fun k _ => (k.same (by simp))) (h.same (by simp)) _

theorem State.HoldMoves.becomeStuck (h : s.HoldMoves t) : s.HoldMoves t.becomeStuck := by
  have stuck : s.HoldMoves
      (((t.enterBus .stuck []).setBus { (t.enterBus .stuck []).bus with lastActive := t.ms }).completeAll .busStuck) :=
    State.HoldMoves.completeAll (h.same (by simp)) _
  exact stuck.said _ _ _ _

theorem State.HoldMoves.unitCommand (h : s.HoldMoves t) (p : Port) (a : Nat) (k : UnitCommandKind) :
    s.HoldMoves (t.unitCommand p a k) :=
  .ite (h.same (by simp)) (.ite (h.same (by simp)) (.ite (h.same (by simp)) (.ite (h.same (by simp)) (h.same (by simp)))))

/-! ### Hold tables (R93 to R102) -/

theorem State.HoldMoves.answerHold (h : s.HoldMoves t) (p : Port) (a : HoldAnswer) : s.HoldMoves (t.answerHold p a) :=
  .ite (h.same (by simp)) (h.same (by simp))

/-- A PLACE-HOLD whose tag is in its range refreshes an entry of its own, or adds one while there is room (R93, R94). -/
theorem State.HoldMoves.placeMasterHold (h : s.HoldMoves t) {tag : Nat} (low : 1 ≤ tag) (high : tag ≤ 65535) (p : Port)
    (k : HoldKind) (reason minutes : Nat) : s.HoldMoves (t.placeMasterHold p g k tag reason minutes) := by
  unfold State.placeMasterHold
  dsimp only
  split
  · next old found =>
    have key := Hold.isOf_key.1 (List.find?_some found)
    simp only [Hold.key, Prod.ext_iff] at key
    obtain ⟨owner, same⟩ := key
    have lawful : Hold.lawful { old with kind := k, reason := reason, expiry := t.expiry minutes } := by
      simp [Hold.lawful, owner, same, low, high]
    exact (h.refreshHold old lawful rfl p).answerHold _ _
  · next missing =>
    rw [List.find?_eq_none] at missing
    split
    · exact h.reply _ _
    next room =>
    have lawful : Hold.lawful
        { owner := .master p, kind := k, tag := tag, reason := reason, expiry := t.expiry minutes, stamp := t.stamp } :=
      ⟨low, high⟩
    exact (h.placeHold lawful (fun x mem same => missing x mem (Hold.isOf_key.2 same)) (fun _ => not_le.1 room)
      _ _).answerHold _ _

theorem State.HoldMoves.removeMasterHold (h : s.HoldMoves t) (p : Port) (o : Owner) (tag : Nat) :
    s.HoldMoves (t.removeMasterHold p g o tag) := by
  unfold State.removeMasterHold
  refine .ite (h.reply _ _) ?_
  split
  · exact (h.removeHold _ _ _).answerHold _ _
  · exact h.reply _ _

theorem State.HoldMoves.holdExpires (h : s.HoldMoves t) (p : Port) (tag : Nat) : s.HoldMoves (t.holdExpires g p tag) := by
  unfold State.holdExpires
  split
  · exact .ite (h.removeHold _ _ _) h
  · exact h

theorem State.HoldMoves.patrolClear (h : s.HoldMoves t) (p : Port) : s.HoldMoves (t.patrolClear p g) := by
  unfold State.patrolClear
  split
  · exact (h.removeHold _ _ _).answerHold _ _
  · exact h.reply _ _

/-! ### Hunt requests (R153 to R167) -/

theorem State.HoldMoves.startHunt (h : s.HoldMoves t) (p : Port) (a b : Nat) (m : Bool) :
    s.HoldMoves (t.startHunt p g a b m) := by
  have placed : s.HoldMoves ((t.setHunt (t.hunt.begun g b m (reachable t.hunt.memory [a, b]) t.time)).placeHunt g) :=
    State.HoldMoves.placeAutomatic (h.same (by simp)) rfl (by simp [Hold.lawful, State.automaticHold]) _
  exact State.HoldMoves.huntRun ((placed.said _ _ _ _).reply _ _)

theorem State.HoldMoves.insertHunt (h : s.HoldMoves t) (a : Nat) : s.HoldMoves (t.insertHunt g a) :=
  .ite (h.same (by simp)) (.ite (h.same (by simp)) (State.HoldMoves.huntRun (h.same (by simp))))

theorem State.HoldMoves.pauseEnd (h : s.HoldMoves t) : s.HoldMoves t.pauseEnd := by
  unfold State.pauseEnd
  split
  · exact h
  · exact .ite (h.huntFinish _ _) h

/-! ### Reclose sequencer (R72 to R80) -/

theorem State.HoldMoves.manualOpen (h : s.HoldMoves t) (p : Port) : s.HoldMoves (t.manualOpen g p) := by
  unfold State.manualOpen
  dsimp only
  split
  · exact (h.same (by simp)).passTrip p
  · exact (h.same (by simp)).passTrip p
  · exact (h.same (by simp)).passTrip p
  · exact .ite (h.same (by simp)) ((h.same (by simp)).passTrip p)
  · exact (h.same (by simp)).passTrip p
  · exact h.passTrip p
  · exact (h.huntAbortBy p).passTrip p
  · exact .ite (h.passTrip p) (h.reply _ _)

theorem State.HoldMoves.manualClose (h : s.HoldMoves t) (p : Port) : s.HoldMoves (t.manualClose g p) := by
  unfold State.manualClose
  refine .ite ?_ h
  dsimp only
  split
  · exact h.same (State.closeRequest_holds _ _ _ _)
  · exact h.same (State.closeRequest_holds _ _ _ _)

theorem State.HoldMoves.releaseOpens (h : s.HoldMoves t) (l : List Port) : s.HoldMoves (t.releaseOpens g l) :=
  State.HoldMoves.foldl (fun k p => k.passTrip p) (h.same (by simp)) _

theorem State.HoldMoves.takeAutoClose (h : s.HoldMoves t) : s.HoldMoves (t.takeAutoClose g) := by
  unfold State.takeAutoClose
  dsimp only
  split
  · exact (h.same (by simp)).releaseOpens _
  · exact (h.same (by simp)).releaseOpens _

theorem State.HoldMoves.deadEnd (h : s.HoldMoves t) : s.HoldMoves (t.deadEnd g) :=
  .ite (h.same (by simp)) (.ite (h.same (by simp)) (h.same (by simp)))

theorem State.HoldMoves.deadTimer (h : s.HoldMoves t) (b : Bool) : s.HoldMoves (t.deadTimer g b) :=
  .ite h.takeAutoClose (.ite (.ite h.deadEnd.takeAutoClose h.deadEnd) h)

/-! ### Time and ports (R11, R12, R175, R184 to R194) -/

theorem State.HoldMoves.tick (h : s.HoldMoves t) : s.HoldMoves t.tick := by
  have ack : s.HoldMoves t.clock.openAck := .ite h h
  exact ack.takeHuntCloses

theorem State.HoldMoves.restartAsked (h : s.HoldMoves t) (p : Port) : s.HoldMoves (t.restartAsked p) := by
  unfold State.restartAsked
  split
  · exact State.HoldMoves.pollRestart (h.same (by simp))
  · exact h

theorem State.HoldMoves.readTransfer (h : s.HoldMoves t) (p : Port) (n : Nat) : s.HoldMoves (t.readTransfer p n) := by
  unfold State.readTransfer
  dsimp only
  refine .ite h ?_
  split
  · exact .ite h h
  · split
    · exact h
    · exact h
  · exact h

theorem State.HoldMoves.readRequest {code : Byte} {granted c : Bool} {fr : Frame} {owner : State → State}
    (owned : ∀ u, s.Answers p c u → s.Answers p c (owner u)) : s.HoldMoves (s.readRequest p code granted fr owner) :=
  (State.HoldMoves.refl s).same (((State.Answers.refl s p c).readRequest owned).parts .holds (by decide))

theorem State.HoldMoves.controlRequest {code : Byte} {granted : Bool} {fr : Frame} {owner : State → State}
    (owned : ∀ {u : State}, s.HoldMoves u → s.HoldMoves (owner u)) :
    s.HoldMoves (s.controlRequest p code granted fr owner) := by
  have moved : ∀ q, s.HoldMoves (s.setPort p q) := fun _ => State.HoldMoves.refl s
  obtain same | ⟨q, port⟩ | ⟨q, caused⟩ := s.controlRequest_cases p code granted fr owner
  · rw [same]; exact .refl s
  · rw [port]; exact moved q
  · rw [caused]; exact owned (moved q)

/-! ### Owners of requests -/

section

variable (p : Port) (pl : List Byte)

theorem ownerSetTime_holdMoves (h : s.HoldMoves t) : s.HoldMoves (ownerSetTime p pl t) :=
  .ite (h.same (by simp)) (h.same (by simp))

theorem ownerManualOpen_holdMoves (h : s.HoldMoves t) : s.HoldMoves (ownerManualOpen p pl t) := by
  unfold ownerManualOpen
  split
  · exact h.manualOpen p
  · exact h.same (by simp)

theorem ownerManualClose_holdMoves (h : s.HoldMoves t) : s.HoldMoves (ownerManualClose p pl t) := by
  unfold ownerManualClose
  split
  · exact h.manualClose p
  · exact h.same (by simp)

theorem wordAt_le (pl : List Byte) (i : Nat) : wordAt pl i ≤ 65535 := by
  have high := (pl.getD i 0).isLt
  have low := (pl.getD (i + 1) 0).isLt
  rw [wordAt, be16]
  omega

theorem ownerPlaceHold_holdMoves (h : s.HoldMoves t) : s.HoldMoves (ownerPlaceHold p pl t) := by
  unfold ownerPlaceHold
  split
  · split
    · next good =>
      obtain ⟨-, tag, -⟩ := good
      exact h.placeMasterHold (Nat.one_le_iff_ne_zero.2 tag) (wordAt_le pl 2) _ _ _ _
    · exact h.same (by simp)
  · exact h.same (by simp)

theorem ownerRemoveHold_holdMoves (h : s.HoldMoves t) : s.HoldMoves (ownerRemoveHold p pl t) := by
  unfold ownerRemoveHold
  split
  · exact .ite (h.removeMasterHold _ _ _) (h.same (by simp))
  · exact h.same (by simp)

theorem ownerPatrolClear_holdMoves (h : s.HoldMoves t) : s.HoldMoves (ownerPatrolClear p pl t) := by
  unfold ownerPatrolClear
  split
  · exact h.patrolClear p
  · exact h.same (by simp)

theorem ownerSetFireRequest_holdMoves (h : s.HoldMoves t) : s.HoldMoves (ownerSetFireRequest p pl t) := by
  unfold ownerSetFireRequest
  split
  · exact .ite ((h.fireRequestChanged _ _ _).respond _ _ _) (h.same (by simp))
  · exact h.same (by simp)

theorem ownerWithdrawFireRequest_holdMoves (h : s.HoldMoves t) : s.HoldMoves (ownerWithdrawFireRequest p pl t) :=
  .ite (.ite (h.same (by simp)) ((h.fireRequestChanged _ _ _).reply _ _)) (h.same (by simp))

theorem ownerUnitCommand_holdMoves (h : s.HoldMoves t) : s.HoldMoves (ownerUnitCommand p pl t) := by
  unfold ownerUnitCommand
  dsimp only
  split
  · exact .ite (h.unitCommand _ _ _) (h.same (by simp))
  · exact h.same (by simp)

theorem ownerClearIsolation_holdMoves (h : s.HoldMoves t) : s.HoldMoves (ownerClearIsolation p pl t) :=
  .ite (.ite ((h.setIsolated _ _).reply _ _) (h.same (by simp))) (h.same (by simp))

theorem ownerLinebusReset_holdMoves (h : s.HoldMoves t) : s.HoldMoves (ownerLinebusReset p pl t) :=
  .ite (.ite (h.same (by simp)) (h.linebusReset p)) (h.same (by simp))

theorem ownerStartHunt_holdMoves (h : s.HoldMoves t) : s.HoldMoves (ownerStartHunt p pl t) := by
  unfold ownerStartHunt
  dsimp only
  split
  · refine .ite (.ite (h.same (by simp)) (.ite (h.same (by simp)) ?_)) (h.same (by simp))
    split
    · exact h.same (by simp)
    split
    · exact h.same (by simp)
    · exact h.startHunt _ _ _ _
  · exact h.same (by simp)

theorem ownerHuntInsert_holdMoves (h : s.HoldMoves t) : s.HoldMoves (ownerHuntInsert p pl t) := by
  unfold ownerHuntInsert
  dsimp only
  refine .ite ?_ (h.same (by simp))
  split
  · exact h.same (by simp)
  refine .ite (h.same (by simp)) (.ite (h.same (by simp)) ?_)
  split
  · exact h.same (by simp)
  split
  · exact h.same (by simp)
  · exact State.HoldMoves.insertHunt (h.same (by simp)) _

theorem ownerHuntStepMode_holdMoves (h : s.HoldMoves t) : s.HoldMoves (ownerHuntStepMode p pl t) := by
  unfold ownerHuntStepMode
  split
  · refine .ite ?_ (h.same (by simp))
    split
    · exact h.same (by simp)
    · exact .ite (.ite (State.HoldMoves.huntResume (h.same (by simp))) (h.same (by simp))) (h.same (by simp))
  · exact h.same (by simp)

theorem ownerHuntContinue_holdMoves (h : s.HoldMoves t) : s.HoldMoves (ownerHuntContinue p pl t) := by
  unfold ownerHuntContinue
  refine .ite ?_ (h.same (by simp))
  split
  · exact h.same (by simp)
  · exact .ite (State.HoldMoves.huntResume (h.same (by simp))) (h.same (by simp))

theorem ownerHuntAbort_holdMoves (h : s.HoldMoves t) : s.HoldMoves (ownerHuntAbort p pl t) := by
  unfold ownerHuntAbort
  refine .ite ?_ (h.same (by simp))
  split
  · exact h.same (by simp)
  · exact .ite ((h.huntAbortBy p).reply _ _) (h.same (by simp))

theorem ownerReadLog_holdMoves (h : s.HoldMoves t) : s.HoldMoves (ownerReadLog p pl t) := .ite (h.same (by simp)) h

theorem ownerLogSeek_holdMoves (h : s.HoldMoves t) : s.HoldMoves (ownerLogSeek p pl t) := by
  unfold ownerLogSeek
  refine .ite ?_ (h.same (by simp))
  split
  · exact h.same (by simp)
  · exact h.same (by simp)

theorem ownerSetAttentionMask_holdMoves (h : s.HoldMoves t) : s.HoldMoves (ownerSetAttentionMask p pl t) :=
  .ite (h.same (by simp)) h

theorem ownerRestart_holdMoves (h : s.HoldMoves t) : s.HoldMoves (ownerRestart p pl t) :=
  .ite (h.restartAsked p) (h.same (by simp))

/-! ### Writes of settings (R27, R103, R113, R115, R117, R124, R144, R151, R182) -/

theorem State.HoldMoves.queueWrite (h : s.HoldMoves t) (w : PortWrite) : s.HoldMoves (t.queueWrite p w) :=
  .ite (h.same (by simp)) (h.storeEnqueue _)

theorem ownerWriteCurve_holdMoves (h : s.HoldMoves t) : s.HoldMoves (ownerWriteCurve p pl t) :=
  .ite (.ite (h.same (by simp)) (h.queueWrite p _)) (h.same (by simp))

theorem ownerWriteCorridor_holdMoves (h : s.HoldMoves t) : s.HoldMoves (ownerWriteCorridor p pl t) := by
  unfold ownerWriteCorridor
  dsimp only
  split
  · exact .ite (h.queueWrite p _) (h.same (by simp))
  · exact h.same (by simp)

theorem ownerWriteExposure_holdMoves (h : s.HoldMoves t) : s.HoldMoves (ownerWriteExposure p pl t) := by
  unfold ownerWriteExposure
  refine .ite ?_ (h.same (by simp))
  split
  · exact h.queueWrite p _
  · exact h.same (by simp)

theorem ownerWriteFireBlock_holdMoves (h : s.HoldMoves t) : s.HoldMoves (ownerWriteFireBlock p pl t) :=
  .ite (.ite (h.same (by simp)) (h.queueWrite p _)) (h.same (by simp))

theorem ownerRestoreFireTable_holdMoves (h : s.HoldMoves t) : s.HoldMoves (ownerRestoreFireTable p pl t) :=
  .ite (h.queueWrite p _) (h.same (by simp))

theorem ownerWriteGroup_holdMoves (h : s.HoldMoves t) : s.HoldMoves (ownerWriteGroup p pl t) := by
  unfold ownerWriteGroup
  refine .ite ?_ (h.same (by simp))
  split
  · exact .ite (h.same (by simp)) (h.queueWrite p _)
  · exact h.same (by simp)

theorem ownerWriteUnitList_holdMoves (h : s.HoldMoves t) : s.HoldMoves (ownerWriteUnitList p pl t) := by
  unfold ownerWriteUnitList
  dsimp only
  split
  · refine .ite (.ite (h.same (by simp)) (.ite (h.same (by simp)) ?_)) (h.same (by simp))
    exact State.HoldMoves.storeEnqueue (h.same (by simp)) _
  · exact h.same (by simp)

theorem ownerWriteHuntBlocks_holdMoves (h : s.HoldMoves t) : s.HoldMoves (ownerWriteHuntBlocks p pl t) := by
  unfold ownerWriteHuntBlocks
  dsimp only
  split
  · refine .ite (.ite (h.same (by simp)) (.ite (h.same (by simp)) ?_)) (h.same (by simp))
    exact State.HoldMoves.storeEnqueue (h.same (by simp)) _
  · exact h.same (by simp)

theorem ownerStoreRepair_holdMoves (h : s.HoldMoves t) : s.HoldMoves (ownerStoreRepair p pl t) :=
  .ite (.ite (h.same (by simp)) (.ite (h.same (by simp)) (h.storeEnqueue _))) (h.same (by simp))

end

/-! ### Completions of the store (R178, R179) -/

/-- A setting that has come into force, its record, and the recomputation that follows it. -/
theorem State.HoldMoves.settled (h : s.HoldMoves t) (x : Option Feeder) (d : Details) (c : FireCause) :
    s.HoldMoves (((t.append x (.port p) d).recomputeAll c).reply p .accepted) :=
  ((h.append x (.port p) d).recomputeAll c).reply _ _

theorem State.HoldMoves.settledOne (h : s.HoldMoves t) (x : Option Feeder) (d : Details) (f : Feeder) (c : FireCause) :
    s.HoldMoves (((t.append x (.port p) d).recomputeOne f c).reply p .accepted) :=
  ((h.append x (.port p) d).recomputeOne f c).reply _ _

theorem State.HoldMoves.repaired (h : s.HoldMoves t) : s.HoldMoves (t.repaired p) := by
  have mended : s.HoldMoves (((t.setStore { t.store with fault := none, damaged := [] }).append none (.block .settingStore)
    .storeFaultCleared).setFlag .store) := h.same (by simp)
  have holds := State.HoldMoves.foldl (fun k f => k.requestRetention (.holds f)) mended allFeeders
  exact ((holds.requestRetention .fireRequests).requestRetention .isolation).reply _ _

theorem State.HoldMoves.portWriteDone (h : s.HoldMoves t) (p : Port) (w : PortWrite) : s.HoldMoves (t.portWriteDone p w) := by
  cases w with
  | curve n c => exact State.HoldMoves.settled (h.same (by simp)) _ _ _
  | group f l x => exact State.HoldMoves.settledOne (h.same (by simp)) _ _ _ _
  | fireBlock start values => exact State.HoldMoves.settled (h.same (by simp)) _ _ _
  | restoreTable => exact State.HoldMoves.settled (h.same (by simp)) _ _ _
  | exposure f e => exact State.HoldMoves.settledOne (h.same (by simp)) _ _ _ _
  | corridor f c =>
    have moved : s.HoldMoves (t.setHoldTable f { t.holdTable f with corridor := c }) :=
      h.sameLists ((t.setHoldTable_lists f _).trans (Function.update_eq_self f t.lists))
    exact (moved.append _ _ _).reply _ _
  | unitList f l => exact (h.append _ _ _).reply _ _
  | huntBlocks first l => exact (h.append _ _ _).reply _ _
  | repair => exact h.repaired

theorem State.HoldMoves.countFixed (h : s.HoldMoves t) : s.HoldMoves t.countFixed := by
  unfold State.countFixed
  split
  · exact h
  · exact h

theorem State.HoldMoves.dropFixed (h : s.HoldMoves t) : s.HoldMoves t.dropFixed := by
  unfold State.dropFixed
  split
  · exact h
  · exact h

theorem State.HoldMoves.jobFailed (h : s.HoldMoves t) (e : StoreEntry) : s.HoldMoves (t.jobFailed e) := by
  unfold State.jobFailed
  split
  · exact h
  · exact h
  · exact h
  · exact h.sameLists (State.setPendingMark_lists _ _ _)

theorem State.HoldMoves.jobDone (h : s.HoldMoves t) (j : StoreJob) : s.HoldMoves (t.jobDone j) := by
  unfold State.jobDone
  split
  · exact (h.portWriteDone _ _).same rfl
  · exact h

theorem State.HoldMoves.writeDone (h : s.HoldMoves t) (e : StoreEntry) : s.HoldMoves (t.writeDone e) := by
  have done : s.HoldMoves ((t.setImage (t.writeRecords e.job e.job.records.length)).jobDone e.job) :=
    State.HoldMoves.jobDone (h.same (by simp)) _
  exact (State.HoldMoves.countFixed (done.same (by simp))).beginHead

theorem State.HoldMoves.writeFailed (h : s.HoldMoves t) (e : StoreEntry) (n : Nat) (bad : RecordId) :
    s.HoldMoves (t.writeFailed e n bad) := by
  refine State.HoldMoves.dropFixed (State.HoldMoves.foldl (fun k e => k.jobFailed e) (State.HoldMoves.said ?_ _ _ _ _) _)
  exact h.same (by simp)

theorem execStoreWriteCompletion_holdMoves {bad : Option Nat} (ran : execStoreWriteCompletion bad s = .next t) :
    s.HoldMoves t := by
  unfold execStoreWriteCompletion at ran
  split at ran
  · cases ran; exact .refl s
  split at ran
  · cases ran; exact .refl s
  split at ran
  · cases ran; exact .refl s
  split at ran
  · cases ran; exact (State.HoldMoves.refl s).writeDone _
  split at ran
  · cases ran; exact (State.HoldMoves.refl s).writeFailed _ _ _
  · cases ran

/-! ### Resets and supply (R105, R106, R176, R194) -/

/-- A start takes every list from the image, with FIRE where the level asks for it (R106). -/
theorem State.HoldMoves.rebuild (h : s.HoldMoves t) (pins : Pins) : s.HoldMoves (t.rebuild pins) := by
  unfold State.rebuild
  dsimp only
  refine State.HoldMoves.foldl (fun k f => .ite (k.same (by simp)) k) (h.move (.rebuilt _ fun f => ?_)) _
  obtain ⟨law, free⟩ := loadedList_lawful t.image t.stamp f
  cases f <;> exact rebuiltList_lawful law free _ _

theorem State.HoldMoves.powerOn (h : s.HoldMoves t) (pins : Pins) : s.HoldMoves (t.powerOn pins) := by
  unfold State.powerOn
  exact State.HoldMoves.rebuild (h.same (by simp)) pins

theorem State.HoldMoves.reinitialise (h : s.HoldMoves t) (p : Port) (pins : Pins) : s.HoldMoves (t.reinitialise p pins) := by
  unfold State.reinitialise
  exact State.HoldMoves.rebuild (h.same (by simp)) pins

theorem State.HoldMoves.powerLoss (h : s.HoldMoves t) (n : Nat) : s.HoldMoves (t.powerLoss n) := by
  unfold State.powerLoss
  dsimp only
  split
  · exact h
  · exact .ite h h

/-! ### Requests by their code (R197) -/

theorem State.HoldMoves.refusedFrame (s : State) (p : Port) (n : Nat) (code : Byte) (m : Bool) (st : Status) :
    s.HoldMoves (s.takeFrame p n code m fun t => t.refuseUnnamed p st) := by
  obtain same | ⟨q, port⟩ | ⟨q, took⟩ := s.takeFrame_cases p n code m fun t => t.refuseUnnamed p st
  · rw [same]; exact .refl s
  · rw [port]; exact .refl s
  · rw [took]; exact .refl s

theorem State.frameByCode_holdMoves (s : State) (p : Port) (code : Byte) (fr : Frame) :
    s.HoldMoves (s.frameByCode p code fr) := by
  unfold State.frameByCode
  split
  · exact .controlRequest (ownerSetTime_holdMoves p _)
  · exact .readRequest (c := false) fun _ k => k.readFeeder _ _
  · exact .readRequest (c := false) fun _ k => k.readAll _
  · exact .controlRequest (ownerWriteCurve_holdMoves p _)
  · exact .readRequest (c := false) fun _ k => k.readFeeder _ _
  · exact .controlRequest (ownerManualOpen_holdMoves p _)
  · exact .controlRequest (ownerManualClose_holdMoves p _)
  · exact .readRequest (c := false) fun _ k => k.readFeeder _ _
  · exact .controlRequest (ownerPlaceHold_holdMoves p _)
  · exact .controlRequest (ownerRemoveHold_holdMoves p _)
  · exact .controlRequest (ownerPatrolClear_holdMoves p _)
  · exact .controlRequest (ownerWriteCorridor_holdMoves p _)
  · exact .readRequest (c := false) fun _ k => k.readFeeder _ _
  · exact .controlRequest (ownerSetFireRequest_holdMoves p _)
  · exact .controlRequest (ownerWithdrawFireRequest_holdMoves p _)
  · exact .controlRequest (ownerWriteExposure_holdMoves p _)
  · exact .controlRequest (ownerWriteFireBlock_holdMoves p _)
  · exact .controlRequest (ownerRestoreFireTable_holdMoves p _)
  · exact .controlRequest (ownerWriteGroup_holdMoves p _)
  · exact .readRequest (c := false) fun _ k => k.readAll _
  · exact .readRequest (c := false) fun _ k => k.readAll _
  · exact .readRequest (c := false) fun _ k => k.readGroup _
  · exact .controlRequest (ownerUnitCommand_holdMoves p _)
  · exact .controlRequest (ownerWriteUnitList_holdMoves p _)
  · exact .controlRequest (ownerClearIsolation_holdMoves p _)
  · exact .controlRequest (ownerLinebusReset_holdMoves p _)
  · exact .readRequest (c := false) fun _ k => k.readAll _
  · exact .readRequest (c := false) fun _ k => k.readAll _
  · exact .controlRequest (ownerWriteHuntBlocks_holdMoves p _)
  · exact .controlRequest (ownerStartHunt_holdMoves p _)
  · exact .controlRequest (ownerHuntInsert_holdMoves p _)
  · exact .controlRequest (ownerHuntContinue_holdMoves p _)
  · exact .controlRequest (ownerHuntStepMode_holdMoves p _)
  · exact .controlRequest (ownerHuntAbort_holdMoves p _)
  · exact .readRequest (c := false) fun _ k => k.readAll _
  · exact .readRequest (c := false) fun _ k => k.readAll _
  · exact .readRequest (c := false) fun _ k => k.readAll _
  · exact .controlRequest (ownerReadLog_holdMoves p _)
  · exact .controlRequest (ownerLogSeek_holdMoves p _)
  · exact .controlRequest (ownerStoreRepair_holdMoves p _)
  · exact .readRequest (c := false) fun _ k => k.readAll _
  · exact .readRequest (c := true) fun _ k => k.readAttention _
  · exact .readRequest (c := false) fun _ k => k.readAll _
  · exact .controlRequest (ownerSetAttentionMask_holdMoves p _)
  · exact .controlRequest (ownerRestart_holdMoves p _)
  · exact .refusedFrame _ _ _ _ _ _

theorem State.rawFrame_holdMoves (s : State) (p : Port) (l : List Byte) : s.HoldMoves (s.rawFrame p l) := by
  unfold State.rawFrame
  split
  · exact .refl s
  · split
    · exact s.frameByCode_holdMoves _ _ _
    · exact .refusedFrame _ _ _ _ _ _

end Sys2Proof.Machine
end

section
/-! Every step keeps the hold lists (R88, R89). -/

namespace Sys2Proof.Machine

variable {s t : State}

theorem event_holdMoves {op : State → State} (ran : event s op = .next t) (k : s.HoldMoves (op s)) : s.HoldMoves t := by
  obtain rfl | rfl := event_cases ran
  · exact k
  · exact .refl _

/-- A command that is no request is an event, or a power-on. -/
theorem exec_holdMoves {i : Instr} (ran : exec i s = .next t) : s.HoldMoves t := by
  have row := ran
  have h := State.HoldMoves.refl s
  unfold Machine.exec at ran
  cases i with
  | powerOn pins => cases ran; exact h.powerOn pins
  | restartReinitialisation pins =>
    refine event_holdMoves ran ?_
    split
    · exact .ite (h.reinitialise _ pins) h
    · exact h
  | portReset p => exact event_holdMoves ran h
  | portResetRelease p => exact event_holdMoves ran h
  | keySwitchChange k => exact event_holdMoves ran h
  | millisecondTick => exact event_holdMoves ran h.tick
  | measurementFrame bytes => exact event_holdMoves ran (h.measurementTransfer bytes)
  | frameWatchdogExpiry f => exact event_holdMoves ran (.ite h.watchdogEnd h)
  | positionContactChange f c => exact event_holdMoves ran (h.contactChange c).pollRestart
  | positionFaultTimerExpiry f => exact event_holdMoves ran (.ite (h.same (by simp)) h)
  | pulseTimerExpiry f => exact event_holdMoves ran (.ite h.pulseEnd.pollRestart h)
  | tripConfirmTimeExpiry f => exact event_holdMoves ran (.ite h.tripTimeEnd.pollRestart h)
  | closeConfirmTimeExpiry f => exact event_holdMoves ran (.ite h.closeTimeEnd.pollRestart h)
  | deadTimerExpiry f taken => exact event_holdMoves ran (h.deadTimer taken)
  | reclaimTimerExpiry f => exact event_holdMoves ran (.ite h h)
  | holdExpiry f owner tag => exact event_holdMoves ran (h.holdExpires owner tag.toNat)
  | fireRequestExpiry p => exact event_holdMoves ran (.ite (h.fireRequestChanged _ _ _) h)
  | storeWriteCompletion bad => exact execStoreWriteCompletion_holdMoves ran
  | quietGapEnd => exact event_holdMoves ran (.ite (.ite h (h.same (by simp))) h)
  | activeSeen => exact event_holdMoves ran (.ite h (.ite h h))
  | lostArbitration => exact event_holdMoves ran (.ite h h)
  | preambleWon => exact event_holdMoves ran (.ite h h)
  | checkSent => exact event_holdMoves ran (.ite h h)
  | echoMismatch => exact event_holdMoves ran (.ite h h)
  | echoFail => exact event_holdMoves ran (.ite (.ite (h.attemptEnds _) (.ite h h)) h)
  | reply chars framing => exact event_holdMoves ran (.ite (h.takeReply _ _) h)
  | replyWindowClose => exact event_holdMoves ran (.ite (h.attemptEnds _) h)
  | replyIncomplete => exact event_holdMoves ran (.ite (h.attemptEnds _) h)
  | report chars framing => exact event_holdMoves ran (.ite (h.hearFrame _ _) h)
  | ackSent => exact event_holdMoves ran (.ite h h)
  | heardFrameEnd => exact event_holdMoves ran (.ite h h)
  | clampSeen => exact event_holdMoves ran (.ite h h)
  | clampEnd => exact event_holdMoves ran (.ite h h)
  | clampOutEnd => exact event_holdMoves ran (.ite h.clampOutEnd h)
  | linebusStuck => exact event_holdMoves ran (.ite h.becomeStuck h)
  | linebusRestored => exact event_holdMoves ran (.ite (State.HoldMoves.said (h.same (by simp)) _ _ _ _) h)
  | pauseTimeout => exact event_holdMoves ran h.pauseEnd
  | requestFrame p bytes => exact event_holdMoves ran (s.rawFrame_holdMoves p bytes)
  | responseRead p count => exact event_holdMoves ran (h.readTransfer p count)
  | powerLoss written => exact event_holdMoves ran (h.powerLoss written)
  | _ => exact event_holdMoves ((exec_request rfl rfl s).symm.trans row) (s.frameByCode_holdMoves _ _ _)

theorem step_holdMoves (ran : step s = .next t) : s.HoldMoves t := by
  unfold Machine.step at ran
  split at ran
  · cases ran; exact .refl s
  · next rest _ =>
    have queued : s.HoldMoves (s.withPending rest) := (State.HoldMoves.refl s).same (by simp)
    exact queued.trans (exec_holdMoves ran)

/-- Settles O5: whatever a step does to a hold list is a run of placements, refreshes and removals, or a start, and each keeps
the law of R89. -/
theorem stepKeepsHoldLaw : Obligations.StepKeepsHoldLaw := fun _ _ law ran => (step_holdMoves ran).keepsLaw law

end Sys2Proof.Machine
end

section
/-! SUPPORT. The ranks that a request row meets at a free port (R187 to R189): FRAME, AUTHORITY by the table of R189, SEQUENCE. -/

namespace Sys2Proof.Machine

variable {s : State} {i : Instr} {p : Port} {fr : Frame} {code : Byte} {k : KeyPosition} {pl : List Byte}

/-! ### The authority of R189 -/

theorem grantHunt_iff :
    grantHunt k p = true ↔ p = .station ∨ (p = .remote ∧ k = .remotePos) ∨ (p = .panel ∧ k = .localPos) := by
  cases p <;> simp [grantHunt]

theorem grantUnitCommand_iff :
    grantUnitCommand k pl p = true ↔
      p = .station ∨ (p = .remote ∧ (k = .remotePos ∨ (byteAt pl 1 ≠ 1 ∧ byteAt pl 1 ≠ 2))) ∨
        (p = .panel ∧ (k = .localPos ∨ byteAt pl 1 ≠ 2)) := by
  cases p <;> simp [grantUnitCommand]

/-- A master port names itself, by 0 or by its own code, or an owner that is no master (R95, R96). -/
theorem namesOtherMaster_eq_false :
    namesOtherMaster p pl = false ↔
      (byteAt pl 3 = 1 → p = .station) ∧ (byteAt pl 3 = 2 → p = .remote) ∧ (byteAt pl 3 = 3 → p = .panel) := by
  unfold namesOtherMaster
  generalize byteAt pl 3 = n
  obtain _ | _ | _ | _ | _ | _ | _ | n := n
  case succ.succ.succ.succ.succ.succ.succ => simp [ownerOf]
  all_goals simp [ownerOf, eq_comm (b := p)]

theorem grantRemoveHold_marked (mark : (byteAt pl 4).testBit 0 = true) :
    grantRemoveHold k pl p = true ↔ p = .panel ∧ k = .localPos := by
  simp [grantRemoveHold, overrideMark, mark]

theorem grantRemoveHold_unmarked (mark : (byteAt pl 4).testBit 0 = false) :
    grantRemoveHold k pl p = true ↔
      (byteAt pl 3 = 1 → p = .station) ∧ (byteAt pl 3 = 2 → p = .remote) ∧ (byteAt pl 3 = 3 → p = .panel) := by
  simp [grantRemoveHold, overrideMark, mark, namesOtherMaster_eq_false]

theorem grantStationRemote_eq : grantStationRemote p = (p != .panel) := by cases p <;> rfl

theorem grantOpen_eq : grantOpen k p = (p != .remote || k == .remotePos) := by cases p <;> simp [grantOpen]

theorem grantClose_eq :
    grantClose k p = (p == .station || (p == .remote && k == .remotePos) || (p == .panel && k == .localPos)) := by
  cases p <;> cases k <;> rfl

theorem grantPatrolClear_eq : grantPatrolClear p = (p != .station) := by cases p <;> rfl

/-! ### The rows by their class -/

/-- A request row is of one class: READ, granted to every port, or control, granted by the table of R189. -/
theorem frameByCode_class (frame : requestFrameOf i = some (p, fr)) (row : requestCode i = some code) (s : State) :
    (code ∈ readCodes ∧ grantedTo s.key i = true ∧
      ∃ owner, s.frameByCode p code fr = s.readRequest p code true fr owner) ∨
    (code ∉ readCodes ∧ ∃ owner, s.frameByCode p code fr = s.controlRequest p code (grantedTo s.key i) fr owner) := by
  cases i with
  | readCurve | readProtection | readBreaker | readSequencer | readHolds | readFireTable | readFire | readGroup | readStore
  | readLinebus | readUnits | readHunt | readHuntTrace | readHuntBlocks | readAttention | readPort =>
    cases frame; cases row
    exact .inl ⟨by decide, rfl, _, rfl⟩
  | restart | setTime | writeCurve | writeCorridor | writeExposure | writeFireBlock | restoreFireTable | writeGroup
  | storeRepair | linebusReset | writeUnitList | clearIsolation | writeHuntBlocks =>
    cases frame; cases row
    rw [grantedTo, ← grantStationRemote_eq]
    exact .inr ⟨by decide, _, rfl⟩
  | manualOpen =>
    cases frame; cases row
    rw [grantedTo, ← grantOpen_eq]
    exact .inr ⟨by decide, _, rfl⟩
  | manualClose =>
    cases frame; cases row
    rw [grantedTo, ← grantClose_eq]
    exact .inr ⟨by decide, _, rfl⟩
  | patrolClear =>
    cases frame; cases row
    rw [grantedTo, ← grantPatrolClear_eq]
    exact .inr ⟨by decide, _, rfl⟩
  | placeHold | removeHold | setFireRequest | withdrawFireRequest | unitCommand | startHunt | huntInsert | huntStepMode
  | huntContinue | huntAbort | readLog | logSeek | setAttentionMask =>
    cases frame; cases row
    exact .inr ⟨by decide, _, rfl⟩
  | _ => cases frame

/-- A request row at a free port meets its ranks in the order of R187 to R189, and only then its owner. -/
theorem frameByCode_free (frame : requestFrameOf i = some (p, fr)) (row : requestCode i = some code) (free : s.portFree p) :
    ∃ taken, s.frameByCode p code fr =
      if framePasses code fr = false then s.readAnswered p 0 fr .frame []
      else if grantedTo s.key i = false then s.readAnswered p code fr .authority []
      else if code ∉ readCodes ∧ fr.counter ≠ (s.port p).counter then s.readAnswered p code fr .sequence []
      else taken := by
  obtain ⟨reads, granted, owner, run⟩ | ⟨controls, owner, run⟩ := frameByCode_class frame row s
  · exact ⟨_, by simp only [run, State.readRequest_free free, granted, reads, not_true, false_and, if_false]; rfl⟩
  · exact ⟨_, by simp only [run, State.controlRequest_free free, controls, not_false_iff, true_and]; rfl⟩

end Sys2Proof.Machine
end

section
/-! ### Requests refused at a free port (R187 to R189) -/

namespace Sys2Proof.Machine

/-- Settles O55: each row of R189 by the grant it asks for, and the ranks of a row at a free port in their order. -/
theorem ranksRefuseInOrder : Obligations.RanksRefuseInOrder := by
  refine ⟨fun k p fr i => ⟨?hunt, ?unit, ?removal⟩, fun i p fr code s frame row free => ?ranks⟩
  case hunt => rintro (rfl | rfl | rfl | rfl) <;> exact grantHunt_iff
  case unit => rintro rfl; exact grantUnitCommand_iff
  case removal => rintro rfl; exact ⟨grantRemoveHold_marked, grantRemoveHold_unmarked⟩
  case ranks =>
    obtain ⟨taken, run⟩ := frameByCode_free frame row free
    have ran : exec i s = .next (s.frameByCode p code fr) := by rw [exec_request frame row, event, if_pos free.1]
    rw [ran, run]
    refine ⟨fun failed => ?_, fun passes refused => ?_, fun passes granted controls stale => ?_⟩
    · simp [failed]
    · simp [passes, refused]
    · simp [passes, granted, controls, stale]

end Sys2Proof.Machine
end

section
/-! SUPPORT. What a command of the hold table makes of the state (R92 to R98, R102, R104): a placement or a refresh of a master
entry, a removal while no hunt is paused on the feeder, the answer, and what the port's request is the cause of. -/

namespace Sys2Proof.Machine

variable {s t u : State} {f : Feeder} {p : Port} {e : Hold} {l : List Hold} {code : Byte} {fr : Frame} {o : RetentionOwner}

/-! ### The retention write (R104, R178) -/

/-- A retention write of an owner stands in the store's queue. -/
def State.retentionQueued (s : State) (o : RetentionOwner) : Prop := ∃ e ∈ s.store.queue, ∃ x, e.job = .internal o x

theorem State.retentionQueued.beginHead (h : s.retentionQueued o) : s.beginHead.retentionQueued o := by
  obtain ⟨x, mem, taken, job⟩ := h
  obtain same | ⟨e, rest, queue, begun⟩ | ⟨e, rest, o', k, queue, own, begun⟩ := s.beginHead_cases
  · rw [same]
    exact ⟨x, mem, taken, job⟩
  · rw [begun]
    obtain rfl | behind := List.mem_cons.1 (queue ▸ mem)
    · exact ⟨_, List.mem_cons_self, taken, job⟩
    · exact ⟨x, List.mem_cons_of_mem _ behind, taken, job⟩
  · rw [begun, State.retentionQueued, State.setPendingMark_store]
    obtain rfl | behind := List.mem_cons.1 (queue ▸ mem)
    · obtain ⟨rfl, -⟩ := StoreJob.internal.inj (own.symm.trans job)
      exact ⟨_, List.mem_cons_self, _, rfl⟩
    · exact ⟨x, List.mem_cons_of_mem _ behind, taken, job⟩

/-- A healthy store without the owner's mark queues its write. -/
theorem State.requestRetention_queued (healthy : s.store.fault = none) (mark : s.pendingMark o = false) :
    (s.requestRetention o).retentionQueued o := by
  have run : s.requestRetention o = (s.setPendingMark o true).storeEnqueue (.internal o none) := by
    simp [State.requestRetention, healthy, mark]
  rw [run]
  exact State.retentionQueued.beginHead ⟨_, List.mem_append_right _ List.mem_cons_self, _, rfl⟩

theorem State.beginHead_fault (s : State) : s.beginHead.store.fault = s.store.fault := by
  obtain same | ⟨e, rest, queue, begun⟩ | ⟨e, rest, o', k, queue, own, begun⟩ := s.beginHead_cases
  · rw [same]
  · rw [begun]; rfl
  · rw [begun, State.setPendingMark_store]; rfl

theorem State.requestRetention_fault (s : State) (o : RetentionOwner) : (s.requestRetention o).store.fault = s.store.fault := by
  unfold State.requestRetention
  split
  · rfl
  split
  · rfl
  · rw [State.storeEnqueue, State.beginHead_fault, State.setStore_store, State.setPendingMark_store]

theorem State.requestRetention_appends (s : State) (o : RetentionOwner) : State.Appends 0 s (s.requestRetention o) :=
  .of_same (s.requestRetention_hunt o) (s.requestRetention_ports o) (s.requestRetention_log o)

/-! ### The answer (R104) -/

/-- The answer to a change of the holds, by the store's fault state. -/
def State.holdAnswer (s : State) (a : HoldAnswer) : Status × List Byte :=
  if s.store.fault = none then (a.status, []) else (.acceptedVolatile, u8 a.code)

theorem State.answerHold_eq (s : State) (p : Port) (a : HoldAnswer) :
    s.answerHold p a = s.respond p (s.holdAnswer a).1 (s.holdAnswer a).2 := by
  unfold State.answerHold State.holdAnswer
  cases s.store.fault with
  | none => rfl
  | some _ => rfl

theorem State.answerHold_log (s : State) (p : Port) (a : HoldAnswer) : (s.answerHold p a).log = s.log := by
  rw [State.answerHold_eq, State.respond_log]

theorem State.flagSet.respond {fl : AttentionFlag} (h : s.flagSet fl) (p : Port) (st : Status) (d : List Byte) :
    (s.respond p st d).flagSet fl := by
  intro q
  rw [State.respond, State.setPort_port]
  split
  · next same => subst same; simpa [PortState.hasFlag] using h q
  · exact h q

/-- The answer of a request in flight stands READY. -/
theorem State.respond_answerAt (slot : (s.port p).slot = .inFlight code) (orphan : (s.port p).orphan = false) (st : Status)
    (d : List Byte) : (s.respond p st d).answerAt p = some (st, d) := by
  rw [State.answerAt_ready (r := { status := st, code := code, counter := (s.port p).counter, data := d })]
  rw [State.respond_port_self, PortState.answer_inFlight _ _ _ code orphan slot]

/-! ### A changed list and what it leaves (R92) -/

/-- From s to t the hold list of a feeder became l, outside some parts and the feeder nothing changed, the HOLDS flag was set,
and every request stayed in flight. -/
structure State.Relisted (s : State) (f : Feeder) (m : List Part) (l : List Hold) (t : State) : Prop where
  list : (t.holdTable f).list = l
  within : s.Within m (some f) t
  flag : t.flagSet .holds
  fault : t.store.fault = s.store.fault
  request : ∀ p, (s.port p).sameRequest (t.port p)

variable {m : List Part}

theorem State.Relisted.requestRetention (h : s.Relisted f m l t) (holds : .holds ∈ m) (store : .store ∈ m)
    (law : t.StoreLaw) : s.Relisted f m l (t.requestRetention (.holds f)) where
  list := (congrArg Prod.fst (t.requestRetention_holdView _ f)).trans h.list
  within := h.within.requestRetention _ store holds (fun _ same => (Option.some.inj same).symm) law
  flag := h.flag.congr (t.requestRetention_ports _)
  fault := (t.requestRetention_fault _).trans h.fault
  request p := (h.request p).trans ((t.requestRetention_appends _).requests p)

/-- A request of the hold table, taken and granted, that changes the list and is answered: what stands afterwards, with the
request for the cause of its records. -/
theorem State.Relisted.caused {owner : State → State} {a : HoldAnswer} (free : s.portFree p)
    (h : (s.controlInFlight p code fr).Relisted f m l t) (log : .log ∈ m) (ports : .ports ∈ m)
    (owned : owner (s.controlInFlight p code fr) = t.answerHold p a)
    (done : u = (s.controlInFlight p code fr).causedBy p owner) :
    (u.holdTable f).list = l ∧ s.feederOnly f u ∧ s.changesOnly m u ∧ u.flagSet .holds ∧
      u.answerAt p = some (s.holdAnswer a) := by
  obtain ⟨-, -, orphan, -⟩ := free
  obtain ⟨slot', orphan', -⟩ := h.request p
  have inFlight : s.Within m (some f) (s.controlInFlight p code fr) := (State.Within.refl s _ _).setPort ports p _
  have caused : (s.controlInFlight p code fr).Within m (some f) ((s.controlInFlight p code fr).causedBy p owner) := by
    refine State.Within.causedBy log p owner ?_
    rw [owned, State.answerHold_eq]
    exact h.within.respond ports _ _ _
  have answered : s.Within m (some f) u := done ▸ inFlight.trans caused
  have answer : t.holdAnswer a = s.holdAnswer a := by rw [State.holdAnswer, State.holdAnswer, h.fault]; rfl
  refine ⟨?_, answered.feeder, answered.parts, ?_, ?_⟩
  · rw [done, State.causedBy_holdTable, owned, State.answerHold_eq, State.respond_holdTable, h.list]
  · rw [done]
    have said := h.flag.respond p (t.holdAnswer a).1 (t.holdAnswer a).2
    rw [← State.answerHold_eq, ← owned] at said
    exact said
  · rw [done]
    have said := State.respond_answerAt (s := t) (code := code) (slot'.trans (by simp)) (orphan'.trans (by simpa using orphan))
      (t.holdAnswer a).1 (t.holdAnswer a).2
    rw [← State.answerHold_eq, ← owned, answer] at said
    exact said

/-! ### Requests whose owner a grant reaches (R188, R189) -/

/-- A granted control request leaves what its owner does, caused by the port. -/
theorem exec_granted {i : Instr} {granted : Bool} {owner op : State → State} (taken : s.controlTaken p code fr)
    (row : exec i s = event s op) (asked : op s = s.controlRequest p code granted fr owner) (grant : granted = true) :
    exec i s = .next ((s.controlInFlight p code fr).causedBy p owner) := by
  obtain ⟨⟨⟨powered, -⟩, -⟩, -⟩ := id taken
  rw [row, event_powered _ _ powered, asked, State.controlRequest_taken taken grant]

/-- A granted control request that its owner answers at once. -/
theorem exec_granted_replies {i : Instr} {granted : Bool} {owner op : State → State} {st : Status}
    (taken : s.controlTaken p code fr) (row : exec i s = event s op) (asked : op s = s.controlRequest p code granted fr owner)
    (grant : granted = true) (owned : owner (s.controlInFlight p code fr) = (s.controlInFlight p code fr).reply p st) :
    exec i s = .next (s.controlAnswered p code fr st []) := by
  have silent : (owner (s.controlInFlight p code fr)).log.next = (s.controlInFlight p code fr).log.next := by rw [owned]; rfl
  rw [exec_granted taken row asked grant, State.causedBy_same silent, owned, State.controlInFlight_reply taken.1.1]

end Sys2Proof.Machine
end

section
/-! PLACE-HOLD (R89, R92 to R94, R104). -/

namespace Sys2Proof.Machine

variable {s t u : State} {f : Feeder} {p q : Port} {e : Hold} {l : List Hold} {code : Byte} {fr : Frame}

/-- The parts that a placement of a master entry can change. -/
def placementParts : List Part := [.holds, .sequencers, .log, .store, .ports]

/-! ### A placement and a refresh of a master entry (R92) -/

theorem Hold.isRetained_of_master (master : e.owner = .master q) : e.isRetained = true := by
  simp [Hold.isRetained, master, Owner.isMaster]

/-- The record and the flag of a placement (R92 step 2). -/
def State.placementSaid (s : State) (f : Feeder) (e : Hold) (r : Bool) (p : Port) : State :=
  (s.append (some f) (.port p) (.holdPlaced e r (some p) (s.holdTable f).list.length none)).setFlag .holds

/-- Record and flag, the sequencer, the retention write. -/
theorem State.placed_master (master : e.owner = .master q) (s : State) (f : Feeder) (r : Bool) (p : Port) :
    s.placed f e r (some p) none = ((s.placementSaid f e r p).sequencerPlacement f).requestRetention (.holds f) := by
  simp [State.placed, master, Hold.isRetained_of_master master, State.placementSaid, sourceOf]

theorem State.placementSaid_law (law : s.StoreLaw) (f : Feeder) (e : Hold) (r : Bool) (p : Port) :
    (s.placementSaid f e r p).StoreLaw :=
  (State.storeLaw_congr (s := s) (by simp [State.placementSaid]) (by simp [State.placementSaid])).2 law

theorem State.sequencerPlacement_store (s : State) (f : Feeder) :
    (s.sequencerPlacement f).store = s.store ∧ (s.sequencerPlacement f).restart = s.restart := by
  have told := (State.Within.refl s [.sequencers, .log, .ports] none).sequencerPlacement (g := f) (by decide) (by decide)
    (by decide) (by simp)
  exact ⟨told.parts .store (by decide), told.parts .restart (by decide)⟩

theorem State.sequencerPlacement_law (law : s.StoreLaw) (f : Feeder) : (s.sequencerPlacement f).StoreLaw :=
  (State.storeLaw_congr (s.sequencerPlacement_store f).1 (s.sequencerPlacement_store f).2).2 law

theorem State.placed_relisted (master : e.owner = .master q) (law : s.StoreLaw) (f : Feeder) (l : List Hold) (r : Bool)
    (p : Port) :
    s.Relisted f placementParts l
      ((s.setHoldTable f { s.holdTable f with list := l }).placed f e r (some p) none) := by
  have put : s.Within placementParts (some f) (s.setHoldTable f { s.holdTable f with list := l }) :=
    (State.Within.refl s _ _).setHoldTable (by decide) (fun _ same => (Option.some.inj same).symm) _
  have kept : (s.setHoldTable f { s.holdTable f with list := l }).StoreLaw := law
  have asked : ∀ p, (s.port p).sameRequest ((s.setHoldTable f { s.holdTable f with list := l }).port p) :=
    fun _ => PortState.sameRequest_refl _
  have fault : (s.setHoldTable f { s.holdTable f with list := l }).store.fault = s.store.fault := rfl
  have list : ((s.setHoldTable f { s.holdTable f with list := l }).holdTable f).list = l := by simp
  generalize s.setHoldTable f { s.holdTable f with list := l } = t at put kept asked fault list
  rw [State.placed_master master]
  refine State.Relisted.requestRetention ⟨?_, ?_, ?_, ?_, fun p => ?_⟩ (by decide) (by decide)
    (State.sequencerPlacement_law (State.placementSaid_law kept f e r p) f)
  · rw [← list, State.holdTable, State.sequencerPlacement_holds]
    simp [State.placementSaid, State.holdTable]
  · exact ((put.append (by decide) (by decide) _ _ _).setFlag (by decide) _).sequencerPlacement (by decide) (by decide)
      (by decide) (fun _ same => (Option.some.inj same).symm)
  · exact (State.flagSet_setFlag _ _).sequencerPlacement f
  · rw [(State.sequencerPlacement_store _ f).1, ← fault]
    simp [State.placementSaid]
  · exact (asked p).trans (((State.appendFlag_appends _ _ _ _ _).trans (State.sequencerPlacement_appends _ _)).requests p)

theorem State.placed_sequencer (master : e.owner = .master q) (s : State) (f : Feeder) (r : Bool) (p : Port) :
    (s.placed f e r (some p) none).sequencer f = (s.sequencer f).meetsHold := by
  rw [State.placed_master master]
  refine (congrArg Prod.snd (State.requestRetention_holdView _ (.holds f) f)).trans ?_
  rw [State.holdView, State.sequencerPlacement_sequencer]
  simp [State.placementSaid]

/-- Outside DEAD a placement leaves every sequencer (R83). -/
theorem State.placed_sequencers (master : e.owner = .master q) (law : s.StoreLaw) (away : (s.sequencer f).state ≠ .dead)
    (r : Bool) (p : Port) : (s.placed f e r (some p) none).sequencers = s.sequencers := by
  have said : ((s.placementSaid f e r p).sequencer f).state ≠ .dead := by simpa [State.placementSaid] using away
  have asked := (State.Within.refl (s.placementSaid f e r p) [.holds, .store] none).requestRetention (.holds f) (by decide)
    (by simp [RetentionOwner.part]) (by simp [RetentionOwner.fits]) (State.placementSaid_law law f e r p)
  have same : (s.placementSaid f e r p).sequencerPlacement f = s.placementSaid f e r p := if_neg said
  rw [State.placed_master master, same, asked.parts .sequencers (by decide)]
  simp [State.placementSaid]

/-- The record of a placement stands in the log, with at most the lockout's behind it. -/
theorem State.placed_log (master : e.owner = .master q) (s : State) (f : Feeder) (r : Bool) (p : Port) :
    (s.placed f e r (some p) none).log.holdsWithin
      { seq := s.log.next, stamp := s.stamp, feeder := some f, source := .port p
        details := .holdPlaced e r (some p) (s.holdTable f).list.length none } 1 := by
  have said : (s.placementSaid f e r p).log.holdsWithin
      { seq := s.log.next, stamp := s.stamp, feeder := some f, source := .port p
        details := .holdPlaced e r (some p) (s.holdTable f).list.length none } 0 := by
    rw [State.placementSaid, State.setFlag_log, State.append_log]
    exact Log.appended_holdsWithin _ _ _ _ _
  rw [State.placed_master master]
  exact ((State.sequencerPlacement_appends _ f).trans (State.requestRetention_appends _ _)).log _ 0 (by decide) said

theorem State.placed_queued (master : e.owner = .master q) (healthy : s.store.fault = none)
    (mark : (s.holdTable f).pendingMark = false) (r : Bool) (p : Port) :
    (s.placed f e r (some p) none).retentionQueued (.holds f) := by
  rw [State.placed_master master]
  refine State.requestRetention_queued ?_ ?_
  · rw [(State.sequencerPlacement_store _ f).1]
    simpa [State.placementSaid] using healthy
  · rw [State.pendingMark, State.holdTable, State.sequencerPlacement_holds]
    simpa [State.placementSaid, State.holdTable] using mark

/-! ### The request (R93, R94) -/

theorem Sequencer.meetsHold_dead {q : Sequencer} (dead : q.state = .dead) : q.meetsHold = q.lockedOut .holdInDead := if_pos dead

theorem exec_placeHold_replies {st : Status} (taken : s.controlTaken p 0x09 fr)
    (owned : ownerPlaceHold p fr.payload (s.controlInFlight p 0x09 fr) = (s.controlInFlight p 0x09 fr).reply p st) :
    exec (.placeHold p fr) s = .next (s.controlAnswered p 0x09 fr st []) :=
  exec_granted_replies taken rfl rfl rfl owned

/-- What a placement or a refresh of a master entry has done once it is answered. -/
theorem exec_placeHold_places {r : Bool} {a : HoldAnswer} (taken : s.controlTaken p 0x09 fr) (law : s.StoreLaw)
    (master : e.owner = .master q)
    (owned : ownerPlaceHold p fr.payload (s.controlInFlight p 0x09 fr) =
      (((s.controlInFlight p 0x09 fr).setHoldTable f { s.holdTable f with list := l }).placed f e r (some p) none).answerHold
        p a) :
    ∃ t, exec (.placeHold p fr) s = .next t ∧ (t.holdTable f).list = l ∧ s.feederOnly f t ∧
      s.changesOnly [.holds, .sequencers, .log, .store, .ports] t ∧ t.flagSet .holds ∧
      t.answerAt p = some (s.holdAnswer a) ∧
      ((s.sequencer f).state ≠ .dead → t.sequencers = s.sequencers) ∧
      ((s.sequencer f).state = .dead → (t.sequencer f).state = .lockout ∧ (t.sequencer f).reason = some .holdInDead) ∧
      (∃ x ∈ t.log.records, x.feeder = some f ∧ x.source = .port p ∧ x.stamp = s.stamp ∧
        x.details = .holdPlaced e r (some p) l.length none) ∧
      (s.store.fault = none → (s.holdTable f).pendingMark = false → t.retentionQueued (.holds f)) := by
  have kept : (s.controlInFlight p 0x09 fr).StoreLaw := law
  have relisted := State.placed_relisted master kept f l r p
  obtain ⟨list, feeder, parts, flag, answer⟩ := relisted.caused taken.1.1 (by decide) (by decide) owned rfl
  refine ⟨_, exec_granted taken rfl rfl rfl, list, feeder, parts, flag, answer, fun away => ?_, fun dead => ?_, ?_,
    fun healthy mark => ?_⟩
  · rw [State.causedBy_sequencers, owned, State.answerHold_eq, State.respond_sequencers]
    exact State.placed_sequencers (s := (s.controlInFlight p 0x09 fr).setHoldTable f _) master kept away r p
  · rw [State.causedBy_sequencer, owned, State.answerHold_eq, State.respond_sequencer, State.placed_sequencer master]
    have locked : (s.sequencer f).meetsHold = (s.sequencer f).lockedOut .holdInDead := Sequencer.meetsHold_dead dead
    simp [locked, Sequencer.lockedOut]
  · have record := (State.placed_log master
      ((s.controlInFlight p 0x09 fr).setHoldTable f { s.holdTable f with list := l }) f r p).mem
    rw [← State.answerHold_log _ p a, ← owned] at record
    have details : Details.holdPlaced e r (some p)
        ((((s.controlInFlight p 0x09 fr).setHoldTable f { s.holdTable f with list := l }).holdTable f).list.length) none =
        .holdPlaced e r (some p) l.length none := by simp
    rw [State.causedBy_log]
    obtain stands | ascribed := Log.mem_ascribe (p := p) (n := (s.controlInFlight p 0x09 fr).log.next) record
    · exact ⟨_, stands, rfl, rfl, rfl, details⟩
    · exact ⟨_, ascribed, rfl, rfl, rfl, details⟩
  · have queued := State.placed_queued (f := f)
      (s := (s.controlInFlight p 0x09 fr).setHoldTable f { s.holdTable f with list := l }) master healthy
      (by simpa using mark) r p
    rw [State.retentionQueued, State.causedBy_store, owned, State.answerHold_eq, State.respond_store]
    exact queued

end Sys2Proof.Machine
end

section
/-! The three outcomes of PLACE-HOLD: refused, refreshed, placed (R93, R94). -/

namespace Sys2Proof.Machine

variable {s : State} {f : Feeder} {p : Port} {k : HoldKind} {fr : Frame} {pl : List Byte} {tag reason minutes : Nat}

theorem ownerPlaceHold_tooLong (late : 1440 < wordAt pl 5) (p : Port) (s : State) :
    ownerPlaceHold p pl s = s.reply p .argument := by
  have refused : ¬ (pl.length = 7 ∧ wordAt pl 2 ≠ 0 ∧ wordAt pl 5 ≤ 1440) := fun h => absurd h.2.2 (by omega)
  unfold ownerPlaceHold
  split
  · exact if_neg refused
  · rfl

theorem ownerPlaceHold_named (length : pl.length = 7) (feeder : feederOf (byteAt pl 0) = some f)
    (kind : holdKindOf (byteAt pl 1) = some k) (tagged : wordAt pl 2 ≠ 0) (due : wordAt pl 5 ≤ 1440) (p : Port) (s : State) :
    ownerPlaceHold p pl s = s.placeMasterHold p f k (wordAt pl 2) (byteAt pl 4) (wordAt pl 5) := by
  rw [ownerPlaceHold, feeder, kind]
  exact if_pos ⟨length, tagged, due⟩

theorem State.placeMasterHold_refreshes {old : Hold}
    (found : (s.holdTable f).list.find? (Hold.isOf (.master p) tag) = some old) :
    s.placeMasterHold p f k tag reason minutes =
      (s.refreshHold f old { old with kind := k, reason := reason, expiry := s.expiry minutes } p).answerHold p .refreshed := by
  simp only [State.placeMasterHold, found]

theorem State.placeMasterHold_full (missing : (s.holdTable f).list.find? (Hold.isOf (.master p) tag) = none)
    (full : 9 ≤ masterCount (s.holdTable f).list) : s.placeMasterHold p f k tag reason minutes = s.reply p .full := by
  have limit : masterHoldLimit ≤ masterCount (s.holdTable f).list := full
  simp only [State.placeMasterHold, missing, if_pos limit]

theorem State.placeMasterHold_places (missing : (s.holdTable f).list.find? (Hold.isOf (.master p) tag) = none)
    (room : masterCount (s.holdTable f).list < 9) :
    s.placeMasterHold p f k tag reason minutes =
      (s.placeHold f
        { owner := .master p, kind := k, tag := tag, reason := reason, expiry := s.expiry minutes, stamp := s.stamp }
        (some p) none).answerHold p .placed := by
  have free : ¬ masterHoldLimit ≤ masterCount (s.holdTable f).list := not_le.2 room
  simp only [State.placeMasterHold, missing, if_neg free]

/-- Settles O43: the expiry beyond 1440 minutes, then the three outcomes of the table's owner, each on the port with the request
in flight. -/
theorem placeHoldChangesTheList : Obligations.PlaceHoldChangesTheList := by
  intro p f k fr s taken law length feeder kind tagged
  have owned := fun due => ownerPlaceHold_named length feeder kind tagged due p (s.controlInFlight p 0x09 fr)
  refine ⟨fun late => ?argument, fun due missing => ⟨fun full => ?full, fun h entry room => ?places⟩,
    fun old new due found entry => ?refreshes⟩
  case argument => exact exec_placeHold_replies taken (ownerPlaceHold_tooLong late p _)
  case full => exact exec_placeHold_replies taken ((owned due).trans (State.placeMasterHold_full missing full))
  case places =>
    have master : h.owner = .master p := by rw [entry]
    have placed := (owned due).trans (State.placeMasterHold_places (s := s.controlInFlight p 0x09 fr) missing room)
    rw [State.controlInFlight_stamp] at placed
    obtain ⟨t, run, list, only, parts, flag, answer, away, dead, ⟨x, mem, record⟩, queued⟩ :=
      exec_placeHold_places (r := false) (l := (s.holdTable f).list ++ [h]) taken law master (by rw [placed, entry]; rfl)
    obtain ⟨named, -, stamp, details⟩ := record
    refine ⟨t, run, list, only, parts, flag, answer, away, dead, ⟨x, mem, named, stamp, ?_⟩, queued⟩
    rw [details, List.length_append, List.length_singleton]
  case refreshes =>
    have owner := owner_of_find_isOf found
    have master : new.owner = .master p := by rw [entry]; exact owner
    have refreshed := (owned due).trans (State.placeMasterHold_refreshes (s := s.controlInFlight p 0x09 fr) found)
    obtain ⟨t, run, list, only, parts, flag, answer, away, dead, ⟨x, mem, named, source, stamp, details⟩, queued⟩ :=
      exec_placeHold_places (r := true) (l := (s.holdTable f).list.replace old new) taken law master
        (by rw [refreshed, entry]; rfl)
    refine ⟨t, run, list, only, parts, flag, answer, away, dead, ⟨x, mem, named, source, stamp, ?_⟩, queued⟩
    rw [details, List.length_replace]

end Sys2Proof.Machine
end

section
/-! REMOVE-HOLD, the expiry of an entry and PATROL-CLEAR (R92, R95 to R98, R102), while no hunt is paused on the feeder. -/

namespace Sys2Proof.Machine

variable {s t : State} {f : Feeder} {p q : Port} {e : Hold} {code : Byte} {fr : Frame} {pl : List Byte} {o : Owner} {tag : Nat}
  {c : RemovalCause} {port : Option Port}

/-! ### A removal (R92) -/

/-- The entry leaves the list; the record and the flag of its removal (R92 steps 1 and 2). -/
theorem State.takeOffHold_eq (ne : e.owner ≠ .hunt) (s : State) (f : Feeder) (c : RemovalCause) (port : Option Port) :
    s.takeOffHold f e c port =
      ((s.setHoldTable f { s.holdTable f with list := (s.holdTable f).list.erase e }).append (some f)
        (sourceOf port .holdTable) (.holdRemoved e c port)).setFlag .holds := if_neg ne

/-- A hunt that is not paused on the feeder makes nothing of a removal (R156). -/
theorem State.removeHold_eq (idle : s.huntIs f .paused = false) (ne : e.owner ≠ .hunt) (c : RemovalCause)
    (port : Option Port) : s.removeHold f e c port = (s.takeOffHold f e c port).retainAfter f e := by
  have still : (s.takeOffHold f e c port).huntIs f .paused = false := by
    rw [State.takeOffHold_eq ne]
    simpa [State.huntIs] using idle
  rw [State.removeHold, State.huntRecheck_idle still]

theorem State.retainAfter_log (s : State) (f : Feeder) (e : Hold) : (s.retainAfter f e).log = s.log := by
  unfold State.retainAfter
  split
  · exact s.requestRetention_log _
  · rfl

theorem State.removeHold_log (idle : s.huntIs f .paused = false) (ne : e.owner ≠ .hunt) (c : RemovalCause)
    (port : Option Port) :
    (s.removeHold f e c port).log = s.log.appended s.stamp (some f) (sourceOf port .holdTable) (.holdRemoved e c port) := by
  rw [State.removeHold_eq idle ne, State.retainAfter_log, State.takeOffHold_eq ne]
  simp

theorem State.takeOffHold_relisted (ne : e.owner ≠ .hunt) (s : State) (f : Feeder) (c : RemovalCause) (port : Option Port) :
    s.Relisted f [.holds, .log, .store, .ports] ((s.holdTable f).list.erase e) (s.takeOffHold f e c port) where
  list := by simp [State.takeOffHold_eq ne]
  within := (State.Within.refl s _ _).takeOffHold (by decide) (by decide) (by decide)
    (fun _ same => (Option.some.inj same).symm) e ne c port
  flag := by
    rw [State.takeOffHold_eq ne]
    exact State.flagSet_setFlag _ _
  fault := by simp [State.takeOffHold_eq ne]
  request p := by
    rw [State.takeOffHold_eq ne]
    exact (State.appendFlag_appends (s.setHoldTable f _) _ _ _ _).requests p

theorem State.removeHold_relisted (idle : s.huntIs f .paused = false) (ne : e.owner ≠ .hunt) (law : s.StoreLaw)
    (c : RemovalCause) (port : Option Port) :
    s.Relisted f [.holds, .log, .store, .ports] ((s.holdTable f).list.erase e) (s.removeHold f e c port) := by
  have off := State.takeOffHold_relisted ne s f c port
  have kept : (s.takeOffHold f e c port).StoreLaw :=
    (State.storeLaw_congr (s := s) (by simp [State.takeOffHold_eq ne]) (by simp [State.takeOffHold_eq ne])).2 law
  rw [State.removeHold_eq idle ne, State.retainAfter]
  split
  · exact off.requestRetention (by decide) (by decide) kept
  · exact off

/-- What a removal by a port's request has done once it is answered. -/
theorem exec_removes {i : Instr} {granted : Bool} {owner op : State → State} (taken : s.controlTaken p code fr)
    (row : exec i s = event s op) (asked : op s = s.controlRequest p code granted fr owner) (grant : granted = true)
    (idle : s.huntIs f .paused = false) (ne : e.owner ≠ .hunt) (law : s.StoreLaw)
    (owned : owner (s.controlInFlight p code fr) =
      ((s.controlInFlight p code fr).removeHold f e c (some p)).answerHold p .removed) :
    ∃ t, exec i s = .next t ∧ (t.holdTable f).list = (s.holdTable f).list.erase e ∧ s.feederOnly f t ∧
      s.changesOnly [.holds, .log, .store, .ports] t ∧ t.flagSet .holds ∧
      t.lastRecord (some f) (.port p) s.stamp (.holdRemoved e c (some p)) ∧ t.answerAt p = some (s.holdAnswer .removed) := by
  have still : (s.controlInFlight p code fr).huntIs f .paused = false := idle
  have relisted := State.removeHold_relisted still ne law c (some p)
  obtain ⟨list, only, parts, flag, answer⟩ := relisted.caused taken.1.1 (by decide) (by decide) owned rfl
  refine ⟨_, exec_granted taken row asked grant, list, only, parts, flag, ?_, answer⟩
  refine State.lastRecord_congr ?_ (s.lastRecord_append (some f) (.port p) (.holdRemoved e c (some p)))
  rw [State.causedBy_log, owned, State.answerHold_log, State.removeHold_log still ne, Log.ascribe_appended, State.append_log]
  rfl

/-! ### REMOVE-HOLD (R95 to R97) -/

theorem ownerRemoveHold_named (length : pl.length = 5) (feeder : feederOf (byteAt pl 0) = some f)
    (names : ownerOf p (byteAt pl 3) = some o) (tagged : wordAt pl 1 ≠ 0) (s : State) :
    ownerRemoveHold p pl s = s.removeMasterHold p f o (wordAt pl 1) := by
  rw [ownerRemoveHold, feeder, names]
  exact if_pos ⟨length, tagged⟩

theorem State.removeMasterHold_automatic (automatic : o.isMaster = false) (s : State) (p : Port) (f : Feeder) (tag : Nat) :
    s.removeMasterHold p f o tag = s.reply p .automatic := by
  simp [State.removeMasterHold, automatic]

theorem State.removeMasterHold_missing (master : o.isMaster = true)
    (missing : ∀ h ∈ (s.holdTable f).list, h.owner = o → h.tag ≠ tag) (p : Port) :
    s.removeMasterHold p f o tag = s.reply p .notFound := by
  have found : (s.holdTable f).list.find? (Hold.isOf o tag) = none := by simpa [Hold.isOf] using missing
  simp [State.removeMasterHold, master, found]

/-- An entry of the requester leaves for REQUEST, another master's for OVERRIDE (R95, R96). -/
theorem State.removeMasterHold_found (found : (s.holdTable f).list.find? (Hold.isOf (.master q) tag) = some e) (p : Port) :
    s.removeMasterHold p f (.master q) tag =
      (s.removeHold f e (if q = p then .request else .override) (some p)).answerHold p .removed := by
  simp [State.removeMasterHold, Owner.isMaster, found]

/-! ### PATROL-CLEAR (R102) -/

theorem State.patrolClear_missing (missing : (s.holdTable f).list.find? (fun h => h.owner == .patrol) = none) (p : Port) :
    s.patrolClear p f = s.reply p .notFound := by rw [State.patrolClear, missing]

theorem State.patrolClear_found (found : (s.holdTable f).list.find? (fun h => h.owner == .patrol) = some e) (p : Port) :
    s.patrolClear p f = (s.removeHold f e .patrolClear (some p)).answerHold p .removed := by rw [State.patrolClear, found]

theorem grantPatrolClear_of_ne (other : p ≠ .station) : grantPatrolClear p = true := by
  rw [grantPatrolClear_eq]
  exact bne_iff_ne.2 other

/-- Settles O44: a removal by request, its refusals, the expiry, PATROL-CLEAR. -/
theorem removalsChangeTheList : Obligations.RemovalsChangeTheList := by
  intro f s powered law idle
  refine ⟨?request, ?refusals, ?expiry, ?patrol⟩
  case request =>
    intro p q e fr taken grant length feeder names tagged found
    have other : e.owner ≠ .hunt := by rw [owner_of_find_isOf found]; exact nofun
    exact exec_removes taken rfl rfl grant idle other law
      ((ownerRemoveHold_named length feeder names tagged _).trans
        (State.removeMasterHold_found (s := s.controlInFlight p 0x0A fr) found p))
  case refusals =>
    intro p o fr taken grant length feeder names tagged
    have owned := ownerRemoveHold_named length feeder names tagged (s.controlInFlight p 0x0A fr)
    refine ⟨fun automatic => ?_, fun master missing => ?_⟩
    · exact exec_granted_replies taken rfl rfl grant (owned.trans (State.removeMasterHold_automatic automatic _ _ _ _))
    · exact exec_granted_replies taken rfl rfl grant
        (owned.trans (State.removeMasterHold_missing (s := s.controlInFlight p 0x0A fr) master missing p))
  case expiry =>
    intro q tag e found
    have row : exec (.holdExpiry f q tag) s = .next (if e.expired s.ms then s.removeHold f e .expired none else s) := by
      have expires : s.holdExpires f q tag.toNat = if e.expired s.ms then s.removeHold f e .expired none else s := by
        rw [State.holdExpires, found]
      rw [← expires]
      exact event_powered s (fun s => s.holdExpires f q tag.toNat) powered
    have other : e.owner ≠ .hunt := by rw [owner_of_find_isOf found]; exact nofun
    obtain ⟨list, within, flag, -, -⟩ := State.removeHold_relisted idle other law .expired none
    refine ⟨fun standing => by simp [row, standing], fun expired => ⟨_, by rw [row, if_pos expired], list, within.feeder,
      within.parts, flag, ?_⟩⟩
    refine State.lastRecord_congr ?_ (s.lastRecord_append (some f) (.block .holdTable) (.holdRemoved e .expired none))
    rw [State.removeHold_log idle other, State.append_log]
    rfl
  case patrol =>
    intro p fr taken other length feeder
    have grant := grantPatrolClear_of_ne other
    have owned : ownerPatrolClear p fr.payload (s.controlInFlight p 0x0B fr) = (s.controlInFlight p 0x0B fr).patrolClear p f := by
      rw [ownerPatrolClear, oneFeeder_names length feeder]
    refine ⟨fun missing => ?_, fun e found => ?_⟩
    · exact exec_granted_replies taken rfl rfl grant
        (owned.trans (State.patrolClear_missing (s := s.controlInFlight p 0x0B fr) missing p))
    · have automatic : e.owner ≠ .hunt := by rw [owner_of_find found]; exact nofun
      exact exec_removes taken rfl rfl grant idle automatic law
        (owned.trans (State.patrolClear_found (s := s.controlInFlight p 0x0B fr) found p))

end Sys2Proof.Machine
end

section
/-! A loss of supply (R105, R177 to R179): what it leaves of the store's image. -/

namespace Sys2Proof.Machine

variable {s : State} {e : StoreEntry} {rest : List StoreEntry} {r : RecordId} {n : Nat}

theorem State.powerLoss_powered (s : State) (n : Nat) : (s.powerLoss n).powered = false := by
  unfold State.powerLoss
  dsimp only
  split
  · rfl
  split
  · rfl
  · rfl

theorem State.powerLoss_changesOnly (s : State) (n : Nat) : s.changesOnly [.supply, .image] (s.powerLoss n) := by
  have off : s.Within [.supply, .image] none { s with powered := false } :=
    ⟨fun x out => by cases x <;> simp [State.agree] at out ⊢, by simp⟩
  unfold State.powerLoss
  dsimp only
  split
  · exact off.parts
  split
  · exact (off.setImage (by decide) _).parts
  · exact off.parts

theorem State.powerLoss_empty (queue : s.store.queue = []) (n : Nat) : (s.powerLoss n).image = s.image := by
  simp [State.powerLoss, queue]

theorem State.powerLoss_waiting (queue : s.store.queue = e :: rest) (waits : e.begun = false) (n : Nat) :
    (s.powerLoss n).image = s.image := by
  simp [State.powerLoss, queue, waits]

/-- The record being written at the loss is damaged. -/
theorem State.powerLoss_cut (queue : s.store.queue = e :: rest) (begun : e.begun = true) (writing : e.job.records[n]? = some r) :
    (s.powerLoss n).image = (s.writeRecords e.job n).spoil r := by
  simp [State.powerLoss, queue, begun, writing]

/-- Beyond the last record of the write none is damaged. -/
theorem State.powerLoss_written (queue : s.store.queue = e :: rest) (begun : e.begun = true) (all : e.job.records.length ≤ n) :
    (s.powerLoss n).image = s.writeRecords e.job n := by
  simp [State.powerLoss, queue, begun, List.getElem?_eq_none all]

/-- Settles O19: by what stands at the head of the store's queue, and whether the write had a record left. -/
theorem powerLossCutsTheWrite : Obligations.PowerLossCutsTheWrite := by
  intro n s powered
  refine ⟨s.powerLoss n, event_powered s (fun s => s.powerLoss n) powered, s.powerLoss_powered n, s.powerLoss_changesOnly n,
    fun queue => State.powerLoss_empty queue n, fun e rest queue => ⟨fun waits => State.powerLoss_waiting queue waits n,
    fun begun law => ?_⟩⟩
  have head : e ∈ s.store.queue := by simp [queue]
  have places := law.places head
  have carries := law.carries head begun
  refine ⟨fun r writing => ?_, fun all => ?_⟩
  · rw [State.powerLoss_cut queue begun writing]
    exact State.spoilRecord_spec law.shaped places carries writing
  · rw [State.powerLoss_written queue begun all]
    obtain ⟨-, after⟩ := State.leavesRecords_of_law n law.shaped places carries
    exact after

end Sys2Proof.Machine
end

section
/-! SUPPORT. FIRE entries of the hold lists (R99, R121): only a recomputation places or removes one, and a start. Here stands every
other operation, each with the number of FIRE entries it leaves on every list. -/

namespace Sys2Proof.Machine

/-! ### One list (R88, R89) -/

/-- The number of FIRE entries of a hold list. -/
def fireEntries (l : List Hold) : Nat := l.countP (fun h => h.owner == .fire)

theorem fireEntries_append {e : Hold} (ne : e.owner ≠ .fire) (l : List Hold) : fireEntries (l ++ [e]) = fireEntries l := by
  simp [fireEntries, ne]

theorem fireEntries_erase {e : Hold} (ne : e.owner ≠ .fire) (l : List Hold) : fireEntries (l.erase e) = fireEntries l := by
  simp [fireEntries, List.countP_erase, ne]

theorem fireEntries_replace {old new : Hold} (ne : old.owner ≠ .fire) (ne' : new.owner ≠ .fire) (l : List Hold) :
    fireEntries (l.replace old new) = fireEntries l := by
  simp [fireEntries, List.countP_replace, ne, ne']

theorem hasOwner_fire (l : List Hold) : hasOwner l .fire = true ↔ 0 < fireEntries l := by
  simp [hasOwner, fireEntries]

/-! ### Every list -/

/-- The number of FIRE entries on every feeder's list. -/
def fireCounts (x : PerFeeder HoldTable) (f : Feeder) : Nat := fireEntries (feederGet x f).list

variable (s : State) (f : Feeder)

/-- The counts rest on the lists alone. -/
theorem fireCounts_congr {s t : State} (h : t.lists = s.lists) : fireCounts t.holds = fireCounts s.holds :=
  congrArg (fun l f => fireEntries (l f)) h

@[simp] theorem fireCounts_ite {c : Prop} [Decidable c] (t u : State) :
    fireCounts (if c then t else u).holds = if c then fireCounts t.holds else fireCounts u.holds := by
  split <;> rfl

@[simp] theorem fireCounts_goIte {c : Prop} [Decidable c] (a b : Go) :
    fireCounts (if c then a else b).1.holds = if c then fireCounts a.1.holds else fireCounts b.1.holds := by
  split <;> rfl

/-- An operation folded over a list. -/
theorem fireCounts_foldl {α : Type} {op : State → α → State} (step : ∀ u x, fireCounts (op u x).holds = fireCounts u.holds)
    (l : List α) : fireCounts (l.foldl op s).holds = fireCounts s.holds := by
  induction l generalizing s with
  | nil => rfl
  | cons x rest ih => rw [List.foldl_cons, ih, step]

/-- A list with as many FIRE entries takes another's place. -/
theorem State.setHoldTable_fireCounts {x : HoldTable} (same : fireEntries x.list = fireEntries (s.holdTable f).list) :
    fireCounts (s.setHoldTable f x).holds = fireCounts s.holds := by
  funext g
  rw [State.setHoldTable_holds, fireCounts, feederGet_set]
  split
  · next here => rw [here, same]; rfl
  · rfl

/-! ### Setting store (R104, R146, R178) -/

@[simp] theorem State.setPendingMark_fireCounts (o : RetentionOwner) (m : Bool) :
    fireCounts (s.setPendingMark o m).holds = fireCounts s.holds := fireCounts_congr (by simp)

@[simp] theorem State.beginHead_fireCounts : fireCounts s.beginHead.holds = fireCounts s.holds := fireCounts_congr (by simp)

@[simp] theorem State.storeEnqueue_fireCounts (j : StoreJob) : fireCounts (s.storeEnqueue j).holds = fireCounts s.holds :=
  fireCounts_congr (by simp)

@[simp] theorem State.requestRetention_fireCounts (o : RetentionOwner) :
    fireCounts (s.requestRetention o).holds = fireCounts s.holds := fireCounts_congr (by simp)

@[simp] theorem State.updateUnit_holds (a : Nat) (k : UnitRecord → UnitRecord) : (s.updateUnit a k).holds = s.holds := rfl

@[simp] theorem State.setIsolated_fireCounts (a : Nat) (b : Bool) :
    fireCounts (s.setIsolated a b).holds = fireCounts s.holds := by
  simp [State.setIsolated]

/-! ### Hold list (R92 to R101) -/

@[simp] theorem State.placed_fireCounts (e : Hold) (r : Bool) (p : Option Port) (a : Option Feeder) :
    fireCounts (s.placed f e r p a).holds = fireCounts s.holds := fireCounts_congr (s.placed_lists f e r p a)

theorem State.placeHold_fireCounts {e : Hold} (ne : e.owner ≠ .fire) (p : Option Port) (a : Option Feeder) :
    fireCounts (s.placeHold f e p a).holds = fireCounts s.holds := by
  rw [State.placeHold, State.placed_fireCounts]
  exact s.setHoldTable_fireCounts f (fireEntries_append ne _)

theorem State.refreshHold_fireCounts {old new : Hold} (ne : old.owner ≠ .fire) (ne' : new.owner ≠ .fire) (p : Port) :
    fireCounts (s.refreshHold f old new p).holds = fireCounts s.holds := by
  rw [State.refreshHold, State.placed_fireCounts]
  exact s.setHoldTable_fireCounts f (fireEntries_replace ne ne' _)

theorem State.takeOffHold_holds (e : Hold) (c : RemovalCause) (p : Option Port) :
    (s.takeOffHold f e c p).holds =
      feederSet s.holds f { s.holdTable f with list := (s.holdTable f).list.erase e } := by
  unfold State.takeOffHold
  dsimp only
  split <;> simp

theorem State.takeOffHold_fireCounts {e : Hold} (ne : e.owner ≠ .fire) (c : RemovalCause) (p : Option Port) :
    fireCounts (s.takeOffHold f e c p).holds = fireCounts s.holds := by
  rw [State.takeOffHold_holds]
  exact s.setHoldTable_fireCounts f (fireEntries_erase ne _)

theorem State.placeAutomatic_fireCounts {o : Owner} (ne : o ≠ .fire) (k : HoldKind) (a : Option Feeder) :
    fireCounts (s.placeAutomatic f o k a).holds = fireCounts s.holds := by
  unfold State.placeAutomatic
  rw [fireCounts_ite, s.placeHold_fireCounts f ne, ite_self]

@[simp] theorem State.placeHunt_fireCounts : fireCounts (s.placeHunt f).holds = fireCounts s.holds :=
  s.placeAutomatic_fireCounts f (by decide) _ _

@[simp] theorem State.placePatrol_fireCounts : fireCounts (s.placePatrol f).holds = fireCounts s.holds := by
  have placed : ∀ (u : State) (g : Feeder), fireCounts (u.placePatrolOn f g).holds = fireCounts u.holds := fun u g =>
    u.placeAutomatic_fireCounts g (by decide) _ _
  exact (fireCounts_foldl _ placed _).trans (placed s f)

@[simp] theorem State.removeHunt_fireCounts : fireCounts (s.removeHunt f).holds = fireCounts s.holds := by
  unfold State.removeHunt
  split
  · next found => exact s.takeOffHold_fireCounts f (by simp [owner_of_find found]) _ _
  · rfl

@[simp] theorem State.retainAfter_fireCounts (e : Hold) : fireCounts (s.retainAfter f e).holds = fireCounts s.holds := by
  simp [State.retainAfter]

/-! ### Reports to the sequencer (R70, R71) -/

@[simp] theorem State.patrolIfDue_fireCounts : fireCounts (s.patrolIfDue f).holds = fireCounts s.holds := by
  simp [State.patrolIfDue]

@[simp] theorem State.confirmTrip_fireCounts : fireCounts (s.confirmTrip f).holds = fireCounts s.holds := by
  rw [State.confirmTrip_holds, State.patrolIfDue_fireCounts]

@[simp] theorem State.seqTripConfirmed_fireCounts (b : Bool) (c : Option Cause) :
    fireCounts (s.seqTripConfirmed f b c).holds = fireCounts s.holds := by
  simp [State.seqTripConfirmed, State.endTripping]

@[simp] theorem State.seqAlreadyOpen_fireCounts (b : Bool) (c : Option Cause) :
    fireCounts (s.seqAlreadyOpen f b c).holds = fireCounts s.holds := by
  simp [State.seqAlreadyOpen, State.endTripping]

/-! ### The end of a hunt and the choice of a block (R162 to R166, R169) -/

@[simp] theorem State.huntFinish_fireCounts (r : EndReason) (d : EndDetail) :
    fireCounts (s.huntFinish f r d).holds = fireCounts s.holds := by
  simp [State.huntFinish]

@[simp] theorem State.huntOver_fireCounts (r : EndReason) (d : EndDetail) :
    fireCounts (s.huntOver f r d).1.holds = fireCounts s.holds := s.huntFinish_fireCounts f r d

@[simp] theorem State.huntAborted_fireCounts : fireCounts (s.huntAborted f).holds = fireCounts s.holds := by
  unfold State.huntAborted
  split <;> simp

@[simp] theorem State.proceed_fireCounts (b : Nat) : fireCounts (s.proceed b).1.holds = fireCounts s.holds := by
  simp [State.proceed, State.stepPause]

@[simp] theorem State.takeDetour_fireCounts (n : Nat) : fireCounts (s.takeDetour f n).1.holds = fireCounts s.holds := by
  simp [State.takeDetour]

@[simp] theorem State.chooseNext_fireCounts (n : Nat) : fireCounts (s.chooseNext f n).1.holds = fireCounts s.holds := by
  unfold State.chooseNext
  dsimp only
  split
  · simp
  split <;> simp

@[simp] theorem State.completeBlock_fireCounts (o : BlockOutcome) (b : Bool) :
    fireCounts (s.completeBlock f o b).1.holds = fireCounts s.holds := by
  simp [State.completeBlock]

@[simp] theorem State.detourBlock_fireCounts : fireCounts (s.detourBlock f).1.holds = fireCounts s.holds := by
  simp [State.detourBlock]

/-! ### Unit and breaker operations of the engine (R157, R158, R160) -/

@[simp] theorem State.huntTripFailed_fireCounts : fireCounts (s.huntTripFailed f).1.holds = fireCounts s.holds := by
  simp [State.huntTripFailed]

@[simp] theorem State.awaitTrip_holds : s.awaitTrip.1.holds = s.holds := rfl

@[simp] theorem State.huntSecure_fireCounts : fireCounts (s.huntSecure f).1.holds = fireCounts s.holds := by
  unfold State.huntSecure
  dsimp only
  split
  · split
    · simp
    · split <;> simp
  · split
    · simp
    · split <;> simp

@[simp] theorem State.testDecided_fireCounts (b : Bool) : fireCounts (s.testDecided f b).1.holds = fireCounts s.holds := by
  simp [State.testDecided]

/-! ### Observation (R159, R160) -/

@[simp] theorem State.countWindow_holds (n : Nat) : (s.countWindow n).holds = s.holds := rfl

@[simp] theorem State.openWindow_holds : (s.openWindow f).holds = s.holds := rfl

@[simp] theorem huntObserve_fireCounts (n : Nat) : fireCounts (huntObserve f n s).1.holds = fireCounts s.holds := by
  induction n generalizing s with
  | zero => simp [huntObserve]
  | succ n ih => simp [huntObserve, ih]

@[simp] theorem State.windowClosed_fireCounts (w : WindowReport) :
    fireCounts (s.windowClosed f w).1.holds = fireCounts s.holds := by
  simp [State.windowClosed]

/-! ### Acting (R156 to R158, R161, R165) -/

@[simp] theorem State.actionEnded_fireCounts (o : BlockOutcome) :
    fireCounts (s.actionEnded f o).1.holds = fireCounts s.holds := by
  unfold State.actionEnded
  dsimp only
  split <;> simp

@[simp] theorem State.unitFailed_fireCounts (c : FailCode) : fireCounts (s.unitFailed f c).1.holds = fireCounts s.holds := by
  unfold State.unitFailed
  dsimp only
  split
  · split <;> simp
  · simp

@[simp] theorem State.actUnit_fireCounts (k : UnitCommandKind) : fireCounts (s.actUnit f k).1.holds = fireCounts s.holds := by
  unfold State.actUnit
  dsimp only
  split
  · simp
  · split <;> simp

@[simp] theorem State.actOpenBreaker_fireCounts : fireCounts (s.actOpenBreaker f).1.holds = fireCounts s.holds := by
  unfold State.actOpenBreaker
  dsimp only
  split <;> simp

@[simp] theorem State.huntRefused_fireCounts (r : CloseRefusal) :
    fireCounts (s.huntRefused f r).1.holds = fireCounts s.holds := by
  cases r <;> simp [State.huntRefused]

@[simp] theorem State.huntCloseTaken_fireCounts (c : CloseTaken) :
    fireCounts (s.huntCloseTaken f c).1.holds = fireCounts s.holds := by
  cases c <;> simp [State.huntCloseTaken]

@[simp] theorem State.takeHuntClose_fireCounts : fireCounts (s.takeHuntClose f).1.holds = fireCounts s.holds := by
  simp [State.takeHuntClose]

@[simp] theorem State.sendHuntClose_holds : (s.sendHuntClose f).holds = s.holds := rfl

@[simp] theorem State.actCloseBreaker_fireCounts : fireCounts (s.actCloseBreaker f).1.holds = fireCounts s.holds := by
  simp [State.actCloseBreaker]

@[simp] theorem State.actClose_fireCounts : fireCounts (s.actClose f).1.holds = fireCounts s.holds := by
  unfold State.actClose
  split <;> simp

@[simp] theorem State.markUnit_fireCounts : fireCounts (s.markUnit f).holds = fireCounts s.holds := by
  unfold State.markUnit
  dsimp only
  split <;> simp

@[simp] theorem State.huntReturn_fireCounts : fireCounts (s.huntReturn f).1.holds = fireCounts s.holds := by
  unfold State.huntReturn
  dsimp only
  split <;> simp

@[simp] theorem State.beginBlock_fireCounts (b : Nat) : fireCounts (s.beginBlock f b).1.holds = fireCounts s.holds := by
  unfold State.beginBlock
  dsimp only
  split
  · simp
  · simp
  · simp
  · simp
  · simp
  · simp
  · split <;> simp

/-- A chain of blocks carried on within the step budget (R156). -/
@[simp] theorem State.huntRun_fireCounts (go : Go) : fireCounts (State.huntRun go f).holds = fireCounts go.1.holds := by
  unfold State.huntRun
  generalize stepBudget - go.1.hunt.steps = n
  induction n generalizing go with
  | zero => obtain ⟨t, _ | b⟩ := go <;> simp [huntChain]
  | succ n ih => obtain ⟨t, _ | b⟩ := go <;> simp [huntChain, ih]

/-! ### What the engine is told (R156 to R168) -/

@[simp] theorem State.huntNote_holds (k : StoppingNotes → StoppingNotes) : (s.huntNote k).holds = s.holds := rfl

@[simp] theorem State.setRun_holds (r : BlockRun) : (s.setRun r).holds = s.holds := rfl

@[simp] theorem State.tripRunning_fireCounts : fireCounts (s.tripRunning f).holds = fireCounts s.holds := by
  unfold State.tripRunning
  dsimp only
  split <;> simp

@[simp] theorem State.tripPaused_fireCounts : fireCounts (s.tripPaused f).holds = fireCounts s.holds := by
  simp [State.tripPaused]

@[simp] theorem State.huntTripTaken_fireCounts : fireCounts (s.huntTripTaken f).holds = fireCounts s.holds := by
  simp [State.huntTripTaken]

@[simp] theorem State.huntTripReport_fireCounts : fireCounts (s.huntTripReport f).holds = fireCounts s.holds := by
  simp [State.huntTripReport]

@[simp] theorem State.huntUnexpected_fireCounts (b : Bool) : fireCounts (s.huntUnexpected f b).holds = fireCounts s.holds := by
  simp [State.huntUnexpected]

@[simp] theorem State.huntUnitMove_fireCounts (i : Nat) : fireCounts (s.huntUnitMove f i).holds = fireCounts s.holds := by
  simp [State.huntUnitMove]

@[simp] theorem State.huntMeasurementLost_fireCounts : fireCounts (s.huntMeasurementLost f).holds = fireCounts s.holds := by
  simp [State.huntMeasurementLost]

@[simp] theorem State.huntBreakerFail_fireCounts : fireCounts (s.huntBreakerFail f).holds = fireCounts s.holds := by
  simp [State.huntBreakerFail]

@[simp] theorem State.huntTripAnswer_fireCounts : fireCounts (s.huntTripAnswer f).holds = fireCounts s.holds := by
  simp [State.huntTripAnswer]

@[simp] theorem State.huntCloseAnswer_fireCounts (b : Bool) : fireCounts (s.huntCloseAnswer f b).holds = fireCounts s.holds := by
  simp [State.huntCloseAnswer]

@[simp] theorem State.huntCloseCut_fireCounts : fireCounts (s.huntCloseCut f).holds = fireCounts s.holds := by
  simp [State.huntCloseCut]

@[simp] theorem State.huntWindowReport_fireCounts (w : WindowReport) :
    fireCounts (s.huntWindowReport f w).holds = fireCounts s.holds := by
  simp [State.huntWindowReport]

@[simp] theorem State.huntUnitDone_fireCounts (c : CompletionCode) : fireCounts (s.huntUnitDone c).holds = fireCounts s.holds := by
  unfold State.huntUnitDone
  split <;> simp

@[simp] theorem State.huntAttemptFailed_fireCounts : fireCounts s.huntAttemptFailed.holds = fireCounts s.holds := by
  unfold State.huntAttemptFailed
  split <;> simp

@[simp] theorem State.takeHuntCloses_fireCounts : fireCounts s.takeHuntCloses.holds = fireCounts s.holds :=
  fireCounts_foldl s (by simp) _

@[simp] theorem State.huntRecheck_fireCounts : fireCounts (s.huntRecheck f).holds = fireCounts s.holds := by
  unfold State.huntRecheck
  dsimp only
  split
  · split <;> simp
  · rfl

@[simp] theorem State.huntResume_fireCounts : fireCounts (s.huntResume f).holds = fireCounts s.holds := by
  simp [State.huntResume]

@[simp] theorem State.huntAbortBy_fireCounts (p : Port) : fireCounts (s.huntAbortBy f p).holds = fireCounts s.holds := by
  unfold State.huntAbortBy
  dsimp only
  split
  · split <;> simp
  · rfl

/-! ### Movements of a breaker (R49 to R63) -/

@[simp] theorem State.answerTripConfirmed_fireCounts (r : Requester) :
    fireCounts (s.answerTripConfirmed f r).holds = fireCounts s.holds := by
  cases r <;> simp [State.answerTripConfirmed]

@[simp] theorem State.answerBreakerFail_fireCounts (r : Requester) :
    fireCounts (s.answerBreakerFail f r).holds = fireCounts s.holds := by
  cases r <;> simp [State.answerBreakerFail]

@[simp] theorem State.tripConfirmed_fireCounts (op : TripOp) : fireCounts (s.tripConfirmed f op).holds = fireCounts s.holds := by
  rw [State.tripConfirmed, State.seqTripConfirmed_fireCounts, fireCounts_foldl _ (by simp), State.tripConfirmedRecord_holds]

@[simp] theorem State.lateOpen_holds (x : FailedTrip) : (s.lateOpen f x).holds = s.holds := by
  simp [State.lateOpen]

@[simp] theorem State.closeConfirmed_fireCounts (op : CloseOp) : fireCounts (s.closeConfirmed f op).holds = fireCounts s.holds := by
  unfold State.closeConfirmed
  dsimp only
  rw [State.seqCloseConfirmed_holds]
  split <;> simp

@[simp] theorem State.closeFailed_fireCounts (op : CloseOp) : fireCounts (s.closeFailed f op).holds = fireCounts s.holds := by
  unfold State.closeFailed
  cases op.requester <;> simp

@[simp] theorem State.closeCut_fireCounts (op : CloseOp) : fireCounts (s.closeCut f op).holds = fireCounts s.holds := by
  unfold State.closeCut
  split <;> simp

@[simp] theorem State.passTrip_fireCounts (p : Port) : fireCounts (s.passTrip f p).holds = fireCounts s.holds := by
  unfold State.passTrip
  dsimp only
  split <;> simp

@[simp] theorem State.failSequencer_fireCounts : fireCounts (s.failSequencer f).holds = fireCounts s.holds := by
  rw [State.failSequencer, fireCounts_ite, fireCounts_foldl _ (by simp), State.seqBreakerFail_holds, ite_self]

@[simp] theorem State.breakerFailed_fireCounts (op : TripOp) : fireCounts (s.breakerFailed f op).holds = fireCounts s.holds := by
  rw [State.breakerFailed, State.failSequencer_fireCounts, State.huntBreakerFail_fireCounts, fireCounts_foldl _ (by simp),
    State.breakerFailRecord_holds]

@[simp] theorem State.unexpectedMovement_fireCounts (b : Bool) (x y : Decoded) :
    fireCounts (s.unexpectedMovement f b x y).holds = fireCounts s.holds := by
  simp [State.unexpectedMovement]

@[simp] theorem State.readContacts_fireCounts (c : Contacts) : fireCounts (s.readContacts f c).holds = fireCounts s.holds := by
  simp [State.readContacts]

@[simp] theorem State.changedToOpen_fireCounts (b : Bool) (x : Decoded) :
    fireCounts (s.changedToOpen f b x).holds = fireCounts s.holds := by
  unfold State.changedToOpen
  dsimp only
  split
  · split
    · split <;> simp
    · simp
  · split <;> simp

@[simp] theorem State.changedToClosed_fireCounts (b : Bool) (x : Decoded) :
    fireCounts (s.changedToClosed f b x).holds = fireCounts s.holds := by
  unfold State.changedToClosed
  dsimp only
  split <;> simp

@[simp] theorem State.contactChange_fireCounts (c : Contacts) : fireCounts (s.contactChange f c).holds = fireCounts s.holds := by
  unfold State.contactChange
  dsimp only
  split
  · rfl
  · split <;> simp

@[simp] theorem State.pulseEnd_fireCounts : fireCounts (s.pulseEnd f).holds = fireCounts s.holds := by
  unfold State.pulseEnd
  dsimp only
  split
  · rfl
  · split <;> simp
  · simp

@[simp] theorem State.tripTimeEnd_fireCounts : fireCounts (s.tripTimeEnd f).holds = fireCounts s.holds := by
  unfold State.tripTimeEnd
  dsimp only
  split <;> simp

@[simp] theorem State.closeTimeEnd_fireCounts : fireCounts (s.closeTimeEnd f).holds = fireCounts s.holds := by
  unfold State.closeTimeEnd
  split <;> simp

@[simp] theorem State.pollRestart_holds : s.pollRestart.holds = s.holds := by
  unfold State.pollRestart
  split
  · split <;> rfl
  · rfl

/-! ### Samples and losses (R1 to R9, R25, R26, R34, R45) -/

@[simp] theorem State.protectionTrip_fireCounts (c : Cause) : fireCounts (s.protectionTrip f c).holds = fireCounts s.holds := by
  unfold State.protectionTrip
  dsimp only
  rw [State.huntTripReport_fireCounts, State.protectionReport_holds]
  split <;> simp

@[simp] theorem State.elementsTaken_holds (x : Sample) : (s.elementsTaken f x).holds = s.holds :=
  ((State.Within.refl s [.protection, .log, .ports] none).elementsTaken (by decide) (by decide) (by decide) (by simp)
    x).holds_same (by decide)

@[simp] theorem State.evaluateSample_fireCounts (x : Sample) : fireCounts (s.evaluateSample f x).holds = fireCounts s.holds := by
  rcases cause : s.causeTaken f x with _ | c
  · rw [State.evaluateSample_noTrip cause, State.elementsTaken_holds]
  · rw [State.evaluateSample_trip cause, State.protectionTrip_fireCounts, State.elementsTaken_holds]

@[simp] theorem State.windowSample_fireCounts : fireCounts (s.windowSample f).holds = fireCounts s.holds := by
  unfold State.windowSample
  dsimp only
  split <;> simp

@[simp] theorem State.takeSample_fireCounts (x : Sample) : fireCounts (s.takeSample f x).holds = fireCounts s.holds := by
  simp [State.takeSample_eq]

/-! ### Removals (R92) -/

theorem State.removeHold_fireCounts {e : Hold} (ne : e.owner ≠ .fire) (c : RemovalCause) (p : Option Port) :
    fireCounts (s.removeHold f e c p).holds = fireCounts s.holds := by
  rw [State.removeHold, State.retainAfter_fireCounts, State.huntRecheck_fireCounts, s.takeOffHold_fireCounts f ne]

end Sys2Proof.Machine
end

section
/-! SUPPORT. A recomputation (R120): the levels it computes and the FIRE entry it leaves on each list (R121); and the law of R121
with the entries counted, which a recomputation brings about where no list holds two of them. -/

namespace Sys2Proof.Machine

variable {s t u : State} {f g : Feeder} {c : FireCause}

/-! ### FIRE entries by the level (R89, R121) -/

/-- The number of FIRE entries that a feeder's effective settings ask for (R121). -/
def Effective.fireEntries (e : Effective) : Nat := if e.levelShots = 0 then 1 else 0

/-- The law of R121 with the entries counted: no list holds two FIRE entries. -/
def State.FireExact (s : State) : Prop := ∀ f, fireCounts s.holds f = (s.effective f).fireEntries

theorem Effective.fireEntries_le (e : Effective) : e.fireEntries ≤ 1 := by
  unfold Effective.fireEntries
  split <;> omega

theorem Effective.fireEntries_pos (e : Effective) : 0 < e.fireEntries ↔ e.levelShots = 0 := by
  unfold Effective.fireEntries
  split <;> simp [*]

theorem State.FireExact.few (h : s.FireExact) (f : Feeder) : fireCounts s.holds f ≤ 1 := by
  rw [h f]
  exact Effective.fireEntries_le _

theorem State.FireExact.fireLaw (h : s.FireExact) : s.FireLaw := fun f => by
  rw [hasOwner_fire, ← Effective.fireEntries_pos, ← h f]
  rfl

/-- Entries with different owners and tags are at most one of the owner FIRE, whose tag is 0 (R88, R89). -/
theorem State.HoldLaw.fireCounts_le (law : s.HoldLaw) (f : Feeder) : fireCounts s.holds f ≤ 1 := by
  obtain ⟨-, distinct, lawful⟩ := law f
  rw [holdsDistinct_iff] at distinct
  have key : ∀ h ∈ (s.holdTable f).list, h.owner = .fire → h.key = (.fire, 0) := fun h mem own => by
    have form := lawful h mem
    simp only [Hold.lawful, own] at form
    simp [Hold.key, own, form.1]
  calc fireEntries (s.holdTable f).list
      ≤ (s.holdTable f).list.countP (fun h => h.key == (.fire, 0)) :=
        List.countP_mono_left fun h mem own => by simpa using key h mem (by simpa using own)
    _ = ((s.holdTable f).list.map Hold.key).count (.fire, 0) := by rw [List.count, List.countP_map]; rfl
    _ ≤ 1 := List.nodup_iff_count_le_one.1 distinct _

theorem State.FireLaw.exact (law : s.FireLaw) (holds : s.HoldLaw) : s.FireExact := fun f => by
  have few := holds.fireCounts_le f
  have need := (s.effective f).fireEntries_le
  have same : 0 < fireCounts s.holds f ↔ 0 < (s.effective f).fireEntries := by
    rw [Effective.fireEntries_pos, ← law f, hasOwner_fire]
    rfl
  omega

/-! ### One feeder (R120, R121) -/

theorem State.placeFire_fireCounts (few : fireCounts s.holds f ≤ 1) (g : Feeder) :
    fireCounts (s.placeFire f).holds g = if g = f then 1 else fireCounts s.holds g := by
  unfold State.placeFire State.placeAutomatic
  split
  · next stands =>
    have one : 0 < fireCounts s.holds f := (hasOwner_fire _).1 stands
    split
    · next here => subst here; omega
    · rfl
  · next free =>
    have none_yet : fireEntries (s.holdTable f).list = 0 := Nat.eq_zero_of_not_pos (mt (hasOwner_fire _).2 free)
    rw [State.placeHold, State.placed_fireCounts, State.setHoldTable_holds, fireCounts, feederGet_set]
    split
    · simpa [fireEntries, State.automaticHold] using none_yet
    · rfl

theorem State.removeFire_fireCounts (few : fireCounts s.holds f ≤ 1) (g : Feeder) :
    fireCounts (s.removeFire f).holds g = if g = f then 0 else fireCounts s.holds g := by
  unfold State.removeFire
  split
  · next e found =>
    have mem := List.mem_of_find?_eq_some found
    have left : fireEntries ((s.holdTable f).list.erase e) = fireEntries (s.holdTable f).list - 1 := by
      simp [fireEntries, List.countP_erase, mem, owner_of_find found]
    rw [State.removeHold, State.retainAfter_fireCounts, State.huntRecheck_fireCounts, State.takeOffHold_holds, fireCounts,
      feederGet_set]
    split
    · exact left.trans (Nat.sub_eq_zero_of_le few)
    · rfl
  · next missing =>
    split
    · next here =>
      subst here
      exact List.countP_eq_zero.2 (List.find?_eq_none.1 missing)
    · rfl

theorem State.reconcileFire_fireCounts (few : fireCounts s.holds f ≤ 1) (e : Effective) (g : Feeder) :
    fireCounts (s.reconcileFire f e).holds g = if g = f then e.fireEntries else fireCounts s.holds g := by
  unfold State.reconcileFire Effective.fireEntries
  split
  · exact State.placeFire_fireCounts few g
  · exact State.removeFire_fireCounts few g

/-- A push and what the hunt engine makes of it leave the fire controller but for its mark. -/
theorem State.Steady.pushed_fire (h : s.Steady t) (f : Feeder) (old new : Effective) :
    ∃ m, ((t.push f old new).huntRecheck f).fire = { s.fire with pendingMark := m } := by
  obtain ⟨m, told⟩ := h.fire
  have pushed : (t.push f old new).fire = t.fire := ((State.Within.refl t [.protection, .log, .ports] none).push (by decide)
    (by decide) (by decide) (by simp) old new).parts .fire (by decide)
  obtain ⟨n, rechecked⟩ := ((State.Steady.refl (t.push f old new)).huntRecheck (g := f)).fire
  exact ⟨n, rechecked.trans (by rw [pushed, told])⟩

/-- The fire controller after a feeder's settings were put in force. -/
theorem State.recomputeFeeder_fire (c : FireCause) (s : State) (f : Feeder) :
    ∃ m, (State.recomputeFeeder c s f).fire =
      { s.fire with effective := feederSet s.fire.effective f (s.computeEffective f), pendingMark := m } := by
  have settled := ((State.Steady.refl (s.setEffective f (s.computeEffective f))).levelChanged (g := f) (s.effective f)
    (s.computeEffective f) c).reconcileFire (g := f) (s.computeEffective f)
  exact settled.pushed_fire f (s.effective f) (s.computeEffective f)

theorem State.recomputeFeeder_fireCounts (few : fireCounts s.holds f ≤ 1) (c : FireCause) (g : Feeder) :
    fireCounts (State.recomputeFeeder c s f).holds g =
      if g = f then (s.computeEffective f).fireEntries else fireCounts s.holds g := by
  rw [State.recomputeFeeder, State.huntRecheck_fireCounts, State.push_holds, State.reconcileFire_fireCounts,
    State.levelChanged_holds]
  · rfl
  · rwa [State.levelChanged_holds]

/-! ### Several feeders (R113, R120, R125) -/

/-- From s to t the feeders of a list were recomputed: their computed settings are in force, and what they are computed from
stands. -/
structure State.Recomputes (s : State) (l : List Feeder) (t : State) : Prop where
  requests : t.fire.requests = s.fire.requests
  site : t.fire.site = s.fire.site
  computed : ∀ g, t.computeEffective g = s.computeEffective g
  effective : ∀ g, t.effective g = if g ∈ l then s.computeEffective g else s.effective g
  entries : (∀ g, fireCounts s.holds g ≤ 1) → ∀ g,
    fireCounts t.holds g = if g ∈ l then (s.computeEffective g).fireEntries else fireCounts s.holds g

theorem State.Recomputes.refl (s : State) : s.Recomputes [] s := ⟨rfl, rfl, fun _ => rfl, fun _ => rfl, fun _ _ => rfl⟩

theorem State.Recomputes.recomputeFeeder {l : List Feeder} (h : s.Recomputes l t) (c : FireCause) (f : Feeder) :
    s.Recomputes (l ++ [f]) (State.recomputeFeeder c t f) := by
  obtain ⟨m, fire⟩ := t.recomputeFeeder_fire c f
  refine ⟨by rw [fire]; exact h.requests, by rw [fire]; exact h.site, fun g => ?_, fun g => ?_, fun few g => ?_⟩
  · rw [State.computeEffective, fire]
    exact h.computed g
  · have before := h.effective g
    rw [State.effective] at before ⊢
    rw [fire, feederGet_set, h.computed, before]
    by_cases here : g = f <;> simp [here]
  · have before := h.entries few
    have one : fireCounts t.holds f ≤ 1 := by
      rw [before f]
      split
      · exact Effective.fireEntries_le _
      · exact few f
    rw [State.recomputeFeeder_fireCounts one, h.computed, before]
    by_cases here : g = f <;> simp [here]

theorem State.Recomputes.foldl {l : List Feeder} (h : s.Recomputes l t) (c : FireCause) (k : List Feeder) :
    s.Recomputes (l ++ k) (k.foldl (State.recomputeFeeder c) t) := by
  induction k generalizing l t with
  | nil => simpa using h
  | cons f rest ih => simpa using ih (h.recomputeFeeder c f)

theorem State.recomputeAll_recomputes (s : State) (c : FireCause) : s.findSite.Recomputes allFeeders (s.recomputeAll c) :=
  (State.Recomputes.refl _).foldl c allFeeders

theorem State.recomputeOne_recomputes (s : State) (f : Feeder) (c : FireCause) :
    s.findSite.Recomputes [f] (s.recomputeOne f c) := (State.Recomputes.refl _).recomputeFeeder c f

theorem mem_allFeeders (f : Feeder) : f ∈ allFeeders := by cases f <;> decide

/-- A recomputation of every feeder brings the levels in order from whatever state (R112, R119, R120). -/
theorem State.recomputeAll_levelLaw (s : State) (c : FireCause) : (s.recomputeAll c).LevelLaw := by
  have run := s.recomputeAll_recomputes c
  refine ⟨by rw [run.site, run.requests]; rfl, fun f => ?_⟩
  rw [run.effective, run.computed, if_pos (mem_allFeeders f)]

theorem State.recomputeAll_fireExact (few : ∀ f, fireCounts s.holds f ≤ 1) (c : FireCause) : (s.recomputeAll c).FireExact := by
  have run := s.recomputeAll_recomputes c
  intro f
  rw [run.entries few, run.effective, if_pos (mem_allFeeders f), if_pos (mem_allFeeders f)]

/-- A recomputation of one feeder brings its level in order where the others' are (R113, R125). -/
theorem State.recomputeOne_levelLaw (others : ∀ g, g ≠ f → s.effective g = s.findSite.computeEffective g) (c : FireCause) :
    (s.recomputeOne f c).LevelLaw := by
  have run := s.recomputeOne_recomputes f c
  refine ⟨by rw [run.site, run.requests]; rfl, fun g => ?_⟩
  rw [run.effective, run.computed]
  split
  · rfl
  · next other => exact others g (by simpa using other)

theorem State.recomputeOne_fireExact (law : s.FireExact) (f : Feeder) (c : FireCause) : (s.recomputeOne f c).FireExact := by
  have run := s.recomputeOne_recomputes f c
  intro g
  rw [run.entries law.few, run.effective]
  split
  · rfl
  · exact law g

end Sys2Proof.Machine
end

section
/-! SUPPORT. What a step can do to the levels in force and to the FIRE entries: it keeps them, or it recomputes after a change of
what they rest on, or it starts anew. -/

namespace Sys2Proof.Machine

variable {s t u : State} {f g : Feeder} {p : Port}

/-! ### What keeps the levels -/

/-- From s to t the fire controller stands but for its mark, and every list keeps its number of FIRE entries. -/
structure State.LevelsKept (s t : State) : Prop where
  fire : ∃ m, t.fire = { s.fire with pendingMark := m }
  entries : fireCounts t.holds = fireCounts s.holds

theorem State.LevelsKept.refl (s : State) : s.LevelsKept s := ⟨⟨_, rfl⟩, rfl⟩

theorem State.LevelsKept.trans (h : s.LevelsKept t) (k : t.LevelsKept u) : s.LevelsKept u := by
  obtain ⟨m, first⟩ := h.fire
  obtain ⟨n, second⟩ := k.fire
  exact ⟨⟨n, by rw [second, first]⟩, k.entries.trans h.entries⟩

theorem State.Steady.levelsKept (h : s.Steady t) (k : fireCounts t.holds = fireCounts s.holds) : s.LevelsKept t := ⟨h.fire, k⟩

/-- A change outside the fire controller and the hold tables. -/
theorem State.LevelsKept.same (h : s.LevelsKept t) (fire : u.fire = t.fire) (holds : u.holds = t.holds) : s.LevelsKept u :=
  h.trans ⟨⟨t.fire.pendingMark, fire⟩, by rw [holds]⟩

theorem State.LevelsKept.within (h : s.LevelsKept t) {l : List Part} {o : Option Feeder} (k : t.Within l o u)
    (fire : .fire ∉ l) (holds : .holds ∉ l) : s.LevelsKept u := h.same (k.parts .fire fire) (k.parts .holds holds)

theorem State.LevelsKept.ite {c : Prop} [Decidable c] (h : s.LevelsKept t) (k : s.LevelsKept u) :
    s.LevelsKept (if c then t else u) := by
  split
  · exact h
  · exact k

theorem State.LevelsKept.effective (h : s.LevelsKept t) (f : Feeder) : t.effective f = s.effective f := by
  obtain ⟨m, fire⟩ := h.fire
  rw [State.effective, fire]
  rfl

theorem State.LevelsKept.levelLaw (h : s.LevelsKept t) (law : s.LevelLaw) : t.LevelLaw := by
  obtain ⟨m, fire⟩ := h.fire
  rw [State.LevelLaw, fire]
  refine ⟨law.1, fun f => ?_⟩
  rw [h.effective, State.computeEffective, fire]
  exact law.2 f

theorem State.LevelsKept.fireExact (h : s.LevelsKept t) (law : s.FireExact) : t.FireExact := fun f => by
  rw [h.entries, h.effective, law f]

/-! ### A start (R106, R127, R176, R194) -/

theorem fireEntries_rebuiltList {l : List Hold} (free : ∀ h ∈ l, h.owner ≠ .fire) (e : Effective) (now : Stamp) :
    fireEntries (rebuiltList l e now) = e.fireEntries := by
  have none_kept : fireEntries l = 0 := List.countP_eq_zero.2 fun h mem own => free h mem (by simpa using own)
  unfold rebuiltList Effective.fireEntries
  split
  · rw [fireEntries, List.countP_append, ← fireEntries, none_kept]
    rfl
  · exact none_kept

@[simp] theorem State.startAlarm_holds (s : State) (f : Feeder) : (s.startAlarm f).holds = s.holds := by
  unfold State.startAlarm
  split <;> simp

/-- A start computes the levels from what it loads, and places FIRE by them. -/
theorem State.rebuild_levels (s : State) (pins : Pins) : ∃ t : State, t.LevelsKept (s.rebuild pins) ∧ t.LevelLaw ∧ t.FireExact := by
  unfold State.rebuild
  dsimp only
  generalize s.loadFault (loadStore s.image s.stamp).damaged = loaded
  refine ⟨_, State.Steady.levelsKept (State.Steady.foldl (fun k f => k.startAlarm f) (.refl _) allFeeders)
    (fireCounts_foldl _ (by simp) _), ⟨rfl, fun f => ?_⟩, fun f => ?_⟩
  · cases f <;> rfl
  · obtain ⟨-, free⟩ := loadedList_lawful s.image s.stamp f
    cases f <;> exact fireEntries_rebuiltList free _ _

theorem State.rebuild_levelLaw (s : State) (pins : Pins) : (s.rebuild pins).LevelLaw := by
  obtain ⟨t, kept, law, -⟩ := s.rebuild_levels pins
  exact kept.levelLaw law

theorem State.rebuild_fireExact (s : State) (pins : Pins) : (s.rebuild pins).FireExact := by
  obtain ⟨t, kept, -, counted⟩ := s.rebuild_levels pins
  exact kept.fireExact counted

/-! ### Moves -/

/-- What a feeder's settings are computed from changes at most on one feeder, with nothing recomputed yet. -/
structure State.Unsettles (s : State) (f : Feeder) (t : State) : Prop where
  requests : t.fire.requests = s.fire.requests
  effective : ∀ g, t.effective g = s.effective g
  others : ∀ g, g ≠ f → t.findSite.computeEffective g = s.findSite.computeEffective g
  entries : fireCounts t.holds = fireCounts s.holds

/-- The moves of the levels and of the FIRE entries. -/
inductive State.LevelMove (s : State) : State → Prop where
  | kept {t : State} (h : s.LevelsKept t) : s.LevelMove t
  /-- Whatever has changed, every feeder is recomputed (R109 to R112, R116, R117, R28). -/
  | all {t : State} (entries : fireCounts t.holds = fireCounts s.holds) (c : FireCause) : s.LevelMove (t.recomputeAll c)
  /-- A change that concerns one feeder, and its recomputation (R113, R125). -/
  | one {t : State} (f : Feeder) (h : s.Unsettles f t) (c : FireCause) : s.LevelMove (t.recomputeOne f c)
  /-- A start (R176, R194). -/
  | rebuilt (pins : Pins) : s.LevelMove (s.rebuild pins)

/-- A run of moves. -/
def State.LevelMoves : State → State → Prop := Relation.ReflTransGen State.LevelMove

theorem State.LevelMoves.refl (s : State) : s.LevelMoves s := Relation.ReflTransGen.refl

theorem State.LevelMoves.move (h : s.LevelMoves t) (k : t.LevelMove u) : s.LevelMoves u := Relation.ReflTransGen.tail h k

theorem State.LevelMoves.trans (h : s.LevelMoves t) (k : t.LevelMoves u) : s.LevelMoves u := Relation.ReflTransGen.trans h k

theorem State.LevelMoves.kept (h : s.LevelMoves t) (k : t.LevelsKept u) : s.LevelMoves u := h.move (.kept k)

theorem State.LevelsKept.moves (h : s.LevelsKept t) : s.LevelMoves t := (State.LevelMoves.refl s).kept h

theorem State.LevelMoves.ite {c : Prop} [Decidable c] (h : s.LevelMoves t) (k : s.LevelMoves u) :
    s.LevelMoves (if c then t else u) := by
  split
  · exact h
  · exact k

theorem State.LevelMove.keepsLevelLaw (h : s.LevelMove t) (law : s.LevelLaw) : t.LevelLaw := by
  cases h with
  | kept h => exact h.levelLaw law
  | all _ c => exact State.recomputeAll_levelLaw _ c
  | one f h c =>
    obtain ⟨site, computed⟩ := law
    refine State.recomputeOne_levelLaw (fun g other => ?_) c
    rw [h.effective, h.others g other, computed, State.computeEffective, site]
    rfl
  | rebuilt pins => exact s.rebuild_levelLaw pins

theorem State.LevelMove.keepsFireExact (h : s.LevelMove t) (law : s.FireExact) : t.FireExact := by
  cases h with
  | kept h => exact h.fireExact law
  | all entries c => exact State.recomputeAll_fireExact (by rw [entries]; exact law.few) c
  | one f h c => exact State.recomputeOne_fireExact (fun g => by rw [h.entries, h.effective, law g]) f c
  | rebuilt pins => exact s.rebuild_fireExact pins

/-- A predicate that every move keeps is kept by a run of them. -/
theorem State.LevelMoves.keeps {P : State → Prop} (move : ∀ {t u : State}, t.LevelMove u → P t → P u) (h : s.LevelMoves t)
    (k : P s) : P t := by
  unfold State.LevelMoves at h
  induction h with
  | refl => exact k
  | tail _ step ih => exact move step ih

end Sys2Proof.Machine
end

section
/-! SUPPORT. Every command as a run of moves of the levels and of the FIRE entries. -/

namespace Sys2Proof.Machine

variable {s t u : State} {f g : Feeder} {p : Port}

section

variable (s : State) (f : Feeder) (p : Port)

/-! ### Line bus (R131 to R146) -/

@[simp] theorem State.gapEnd_holds : s.gapEnd.holds = s.holds := by
  unfold State.gapEnd
  dsimp only
  split <;> simp

@[simp] theorem State.activeSeen_holds : s.activeSeen.holds = s.holds := by
  obtain ⟨_, heard⟩ | ⟨_, anew⟩ | ⟨_, _, _, same⟩ := s.activeSeen_cases
  · rw [heard, State.enterBus_holds]
  · rw [anew, State.setBus_holds]
  · rw [same]

@[simp] theorem State.attemptEnds_fireCounts (c : CompletionCode) :
    fireCounts (s.attemptEnds c).holds = fireCounts s.holds := by
  unfold State.attemptEnds
  dsimp only
  split <;> simp

@[simp] theorem State.takeReply_fireCounts (l : List Byte) (b : Bool) :
    fireCounts (s.takeReply l b).holds = fireCounts s.holds := by
  unfold State.takeReply
  dsimp only
  split <;> simp

@[simp] theorem State.hearFrame_fireCounts (l : List Byte) (b : Bool) :
    fireCounts (s.hearFrame l b).holds = fireCounts s.holds := by
  unfold State.hearFrame
  dsimp only
  split
  · simp
  · split <;> simp

@[simp] theorem State.clampSeen_holds : s.clampSeen.holds = s.holds := rfl

@[simp] theorem State.completeEntry_fireCounts (c : CompletionCode) (e : BusEntry) :
    fireCounts (s.completeEntry c e).holds = fireCounts s.holds := by
  simp [State.completeEntry]

@[simp] theorem State.completeAll_fireCounts (c : CompletionCode) :
    fireCounts (s.completeAll c).holds = fireCounts s.holds := by
  rw [State.completeAll, fireCounts_foldl _ (by simp), State.mapQueue_holds]

@[simp] theorem State.linebusReset_fireCounts : fireCounts (s.linebusReset p).holds = fireCounts s.holds := by
  simp [State.linebusReset]

@[simp] theorem State.clampOutEnd_fireCounts : fireCounts s.clampOutEnd.holds = fireCounts s.holds := by
  rw [State.clampOutEnd, fireCounts_foldl _ (by simp)]
  simp

@[simp] theorem State.becomeStuck_fireCounts : fireCounts s.becomeStuck.holds = fireCounts s.holds := by
  simp [State.becomeStuck]

@[simp] theorem State.busRestored_holds : s.busRestored.holds = s.holds := by simp [State.busRestored]

@[simp] theorem State.unitCommand_fireCounts (a : Nat) (k : UnitCommandKind) :
    fireCounts (s.unitCommand p a k).holds = fireCounts s.holds := by
  simp [State.unitCommand]

/-! ### Hold tables (R93 to R102) -/

@[simp] theorem State.answerHold_holds (a : HoldAnswer) : (s.answerHold p a).holds = s.holds := by
  rw [State.answerHold_eq, State.respond_holds]

@[simp] theorem State.placeMasterHold_fireCounts (k : HoldKind) (tag reason minutes : Nat) :
    fireCounts (s.placeMasterHold p f k tag reason minutes).holds = fireCounts s.holds := by
  unfold State.placeMasterHold
  dsimp only
  split
  · next found =>
    have master := owner_of_find_isOf found
    rw [State.answerHold_holds, s.refreshHold_fireCounts f (by simp [master]) (by simp [master])]
  · rw [fireCounts_ite, State.reply_holds, State.answerHold_holds, s.placeHold_fireCounts f (by simp), ite_self]

@[simp] theorem State.removeMasterHold_fireCounts (o : Owner) (tag : Nat) :
    fireCounts (s.removeMasterHold p f o tag).holds = fireCounts s.holds := by
  unfold State.removeMasterHold
  split
  · simp
  next master =>
  split
  · next found =>
    have own : o ≠ .fire := fun fire => master (by simp [fire, Owner.isMaster])
    rw [State.answerHold_holds, s.removeHold_fireCounts f (owner_of_find_isOf found ▸ own)]
  · simp

@[simp] theorem State.holdExpires_fireCounts (o : Port) (tag : Nat) :
    fireCounts (s.holdExpires f o tag).holds = fireCounts s.holds := by
  unfold State.holdExpires
  split
  · next found =>
    rw [fireCounts_ite, s.removeHold_fireCounts f (by simp [owner_of_find_isOf found]), ite_self]
  · rfl

@[simp] theorem State.patrolClear_fireCounts : fireCounts (s.patrolClear p f).holds = fireCounts s.holds := by
  unfold State.patrolClear
  split
  · next found => rw [State.answerHold_holds, s.removeHold_fireCounts f (by simp [owner_of_find found])]
  · simp

/-! ### Hunt requests (R153 to R167) -/

@[simp] theorem State.startHunt_fireCounts (a b : Nat) (m : Bool) :
    fireCounts (s.startHunt p f a b m).holds = fireCounts s.holds := by
  simp [State.startHunt]

@[simp] theorem State.insertHunt_fireCounts (a : Nat) : fireCounts (s.insertHunt f a).holds = fireCounts s.holds := by
  simp [State.insertHunt]

@[simp] theorem State.pauseEnd_fireCounts : fireCounts s.pauseEnd.holds = fireCounts s.holds := by
  unfold State.pauseEnd
  split <;> simp

/-! ### Reclose sequencer (R72 to R80) -/

@[simp] theorem State.manualOpen_fireCounts : fireCounts (s.manualOpen f p).holds = fireCounts s.holds := by
  unfold State.manualOpen
  dsimp only
  split <;> simp

@[simp] theorem State.manualClose_fireCounts : fireCounts (s.manualClose f p).holds = fireCounts s.holds := by
  unfold State.manualClose
  dsimp only
  split
  · split <;> simp
  · simp

@[simp] theorem State.releaseOpens_fireCounts (l : List Port) : fireCounts (s.releaseOpens f l).holds = fireCounts s.holds := by
  rw [State.releaseOpens, fireCounts_foldl _ (by simp), State.moveSequencer_holds]

@[simp] theorem State.takeAutoClose_fireCounts : fireCounts (s.takeAutoClose f).holds = fireCounts s.holds := by
  unfold State.takeAutoClose
  dsimp only
  split <;> simp

@[simp] theorem State.deadEnd_fireCounts : fireCounts (s.deadEnd f).holds = fireCounts s.holds := by
  simp [State.deadEnd]

@[simp] theorem State.deadTimer_fireCounts (b : Bool) : fireCounts (s.deadTimer f b).holds = fireCounts s.holds := by
  simp [State.deadTimer]

/-! ### Time and ports (R11, R12, R175, R184 to R194) -/

@[simp] theorem State.clock_holds : s.clock.holds = s.holds := rfl

@[simp] theorem State.openAck_holds : s.openAck.holds = s.holds := by
  unfold State.openAck
  split <;> simp

@[simp] theorem State.tick_fireCounts : fireCounts s.tick.holds = fireCounts s.holds := by
  simp [State.tick]

@[simp] theorem State.restartAsked_holds : (s.restartAsked p).holds = s.holds := by
  unfold State.restartAsked
  split <;> simp

@[simp] theorem State.readTransfer_holds (n : Nat) : (s.readTransfer p n).holds = s.holds := by
  unfold State.readTransfer
  dsimp only
  split
  · rfl
  split
  · split <;> rfl
  · split <;> rfl
  · rfl

/-! ### Owners that leave the settings -/

variable (pl : List Byte)

theorem ownerSetTime_fireCounts : fireCounts (ownerSetTime p pl s).holds = fireCounts s.holds := by
  simp [ownerSetTime]

theorem ownerLinebusReset_fireCounts : fireCounts (ownerLinebusReset p pl s).holds = fireCounts s.holds := by
  simp [ownerLinebusReset]

theorem ownerUnitCommand_fireCounts : fireCounts (ownerUnitCommand p pl s).holds = fireCounts s.holds := by
  unfold ownerUnitCommand
  dsimp only
  split <;> simp

theorem ownerClearIsolation_fireCounts : fireCounts (ownerClearIsolation p pl s).holds = fireCounts s.holds := by
  simp [ownerClearIsolation]

theorem ownerPlaceHold_fireCounts : fireCounts (ownerPlaceHold p pl s).holds = fireCounts s.holds := by
  unfold ownerPlaceHold
  split <;> simp

theorem ownerRemoveHold_fireCounts : fireCounts (ownerRemoveHold p pl s).holds = fireCounts s.holds := by
  unfold ownerRemoveHold
  split <;> simp

theorem ownerPatrolClear_fireCounts : fireCounts (ownerPatrolClear p pl s).holds = fireCounts s.holds := by
  unfold ownerPatrolClear
  split <;> simp

theorem ownerStartHunt_fireCounts : fireCounts (ownerStartHunt p pl s).holds = fireCounts s.holds := by
  unfold ownerStartHunt
  dsimp only
  split
  · split
    · split
      · simp
      split
      · simp
      split
      · simp
      split <;> simp
    · simp
  · simp

theorem ownerHuntInsert_fireCounts : fireCounts (ownerHuntInsert p pl s).holds = fireCounts s.holds := by
  unfold ownerHuntInsert
  dsimp only
  split
  · split
    · simp
    split
    · simp
    split
    · simp
    split
    · simp
    split <;> simp
  · simp

theorem ownerHuntStepMode_fireCounts : fireCounts (ownerHuntStepMode p pl s).holds = fireCounts s.holds := by
  unfold ownerHuntStepMode
  split
  · split
    · split <;> simp
    · simp
  · simp

theorem ownerHuntContinue_fireCounts : fireCounts (ownerHuntContinue p pl s).holds = fireCounts s.holds := by
  unfold ownerHuntContinue
  split
  · split <;> simp
  · simp

theorem ownerHuntAbort_fireCounts : fireCounts (ownerHuntAbort p pl s).holds = fireCounts s.holds := by
  unfold ownerHuntAbort
  split
  · split <;> simp
  · simp

theorem ownerReadLog_fireCounts : fireCounts (ownerReadLog p pl s).holds = fireCounts s.holds := by
  simp [ownerReadLog]

theorem ownerLogSeek_fireCounts : fireCounts (ownerLogSeek p pl s).holds = fireCounts s.holds := by
  unfold ownerLogSeek
  dsimp only
  split
  · split <;> simp
  · simp

theorem ownerManualOpen_fireCounts : fireCounts (ownerManualOpen p pl s).holds = fireCounts s.holds := by
  unfold ownerManualOpen
  split <;> simp

theorem ownerManualClose_fireCounts : fireCounts (ownerManualClose p pl s).holds = fireCounts s.holds := by
  unfold ownerManualClose
  split <;> simp

theorem ownerSetAttentionMask_fireCounts : fireCounts (ownerSetAttentionMask p pl s).holds = fireCounts s.holds := by
  simp [ownerSetAttentionMask]

theorem ownerRestart_fireCounts : fireCounts (ownerRestart p pl s).holds = fireCounts s.holds := by
  simp [ownerRestart]

end

/-! ### Writes of settings (R27, R103, R113, R115, R117, R124, R144, R151, R178, R182) -/

theorem State.LevelsKept.reply (h : s.LevelsKept t) (p : Port) (st : Status) : s.LevelsKept (t.reply p st) := h.same rfl rfl

theorem State.LevelsKept.storeEnqueue (h : s.LevelsKept t) (j : StoreJob) : s.LevelsKept (t.storeEnqueue j) := by
  have queued : s.LevelsKept (t.setStore { t.store with queue := t.store.queue ++ [{ job := j, begun := false }] }) :=
    h.same rfl rfl
  exact queued.trans ((State.Steady.refl _).beginHead.levelsKept (by simp))

theorem State.LevelsKept.queueWrite (h : s.LevelsKept t) (p : Port) (w : PortWrite) : s.LevelsKept (t.queueWrite p w) :=
  .ite (h.reply _ _) (h.storeEnqueue _)

section

variable (p : Port) (pl : List Byte) (s : State)

theorem ownerWriteCurve_levelsKept : s.LevelsKept (ownerWriteCurve p pl s) :=
  .ite (.ite ((State.LevelsKept.refl s).reply _ _) ((State.LevelsKept.refl s).queueWrite _ _))
    ((State.LevelsKept.refl s).reply _ _)

theorem ownerWriteCorridor_levelsKept : s.LevelsKept (ownerWriteCorridor p pl s) := by
  unfold ownerWriteCorridor
  dsimp only
  split
  · exact .ite ((State.LevelsKept.refl s).queueWrite _ _) ((State.LevelsKept.refl s).reply _ _)
  · exact (State.LevelsKept.refl s).reply _ _

theorem ownerWriteExposure_levelsKept : s.LevelsKept (ownerWriteExposure p pl s) := by
  unfold ownerWriteExposure
  refine .ite ?_ ((State.LevelsKept.refl s).reply _ _)
  split
  · exact (State.LevelsKept.refl s).queueWrite _ _
  · exact (State.LevelsKept.refl s).reply _ _

theorem ownerWriteFireBlock_levelsKept : s.LevelsKept (ownerWriteFireBlock p pl s) :=
  .ite (.ite ((State.LevelsKept.refl s).reply _ _) ((State.LevelsKept.refl s).queueWrite _ _))
    ((State.LevelsKept.refl s).reply _ _)

theorem ownerRestoreFireTable_levelsKept : s.LevelsKept (ownerRestoreFireTable p pl s) :=
  .ite ((State.LevelsKept.refl s).queueWrite _ _) ((State.LevelsKept.refl s).reply _ _)

theorem ownerWriteGroup_levelsKept : s.LevelsKept (ownerWriteGroup p pl s) := by
  unfold ownerWriteGroup
  refine .ite ?_ ((State.LevelsKept.refl s).reply _ _)
  split
  · exact .ite ((State.LevelsKept.refl s).reply _ _) ((State.LevelsKept.refl s).queueWrite _ _)
  · exact (State.LevelsKept.refl s).reply _ _

theorem ownerWriteUnitList_levelsKept : s.LevelsKept (ownerWriteUnitList p pl s) := by
  have listed : ∀ f l, s.LevelsKept (s.setUnitList f l) := fun _ _ => (State.LevelsKept.refl s).same rfl rfl
  unfold ownerWriteUnitList
  dsimp only
  split
  · exact .ite (.ite ((State.LevelsKept.refl s).reply _ _) (.ite ((State.LevelsKept.refl s).reply _ _)
      ((listed _ _).storeEnqueue _))) ((State.LevelsKept.refl s).reply _ _)
  · exact (State.LevelsKept.refl s).reply _ _

theorem ownerWriteHuntBlocks_levelsKept : s.LevelsKept (ownerWriteHuntBlocks p pl s) := by
  have written : ∀ h, s.LevelsKept (s.setHunt h) := fun _ => (State.LevelsKept.refl s).same rfl rfl
  unfold ownerWriteHuntBlocks
  dsimp only
  split
  · exact .ite (.ite ((State.LevelsKept.refl s).reply _ _) (.ite ((State.LevelsKept.refl s).reply _ _)
      ((written _).storeEnqueue _))) ((State.LevelsKept.refl s).reply _ _)
  · exact (State.LevelsKept.refl s).reply _ _

theorem ownerStoreRepair_levelsKept : s.LevelsKept (ownerStoreRepair p pl s) :=
  .ite (.ite ((State.LevelsKept.refl s).reply _ _) (.ite ((State.LevelsKept.refl s).reply _ _)
    ((State.LevelsKept.refl s).storeEnqueue _))) ((State.LevelsKept.refl s).reply _ _)

end

/-! ### Fire requests (R109 to R111, R120) -/

theorem State.LevelsKept.respond (h : s.LevelsKept t) (p : Port) (st : Status) (d : List Byte) :
    s.LevelsKept (t.respond p st d) := h.same rfl rfl

/-- Every feeder is recomputed after a change outside the hold tables. -/
theorem State.LevelMoves.recomputeAll (h : s.LevelMoves t) (holds : u.holds = t.holds) (c : FireCause) :
    s.LevelMoves (u.recomputeAll c) := by
  refine h.move (State.LevelMove.all ?_ c)
  rw [holds]

theorem State.fireRequestChanged_levelMoves (s : State) (p : Port) (r : Option FireRequest) (c : LevelCause) :
    s.LevelMoves (s.fireRequestChanged p r c) := by
  have changed : (s.setRequest p r).holds = s.holds := rfl
  exact ((State.LevelMoves.refl s).recomputeAll changed _).kept (((State.Steady.refl _).requestRetention _).levelsKept
    (by simp))

theorem ownerSetFireRequest_levelMoves (p : Port) (pl : List Byte) (s : State) :
    s.LevelMoves (ownerSetFireRequest p pl s) := by
  have refused : s.LevelMoves (s.badArgument p) := ((State.LevelsKept.refl s).reply _ _).moves
  unfold ownerSetFireRequest
  split
  · exact .ite ((s.fireRequestChanged_levelMoves _ _ _).kept ((State.LevelsKept.refl _).respond _ _ _)) refused
  · exact refused

theorem ownerWithdrawFireRequest_levelMoves (p : Port) (pl : List Byte) (s : State) :
    s.LevelMoves (ownerWithdrawFireRequest p pl s) :=
  .ite (.ite ((State.LevelsKept.refl s).reply _ _).moves
    ((s.fireRequestChanged_levelMoves _ _ _).kept ((State.LevelsKept.refl _).reply _ _)))
    ((State.LevelsKept.refl s).reply _ _).moves

/-! ### Samples and losses (R1 to R9, R34) -/

theorem State.LevelsKept.takeSample (h : s.LevelsKept t) (f : Feeder) (x : Sample) : s.LevelsKept (t.takeSample f x) := by
  have taken : s.LevelsKept (t.elementsTaken f x) := h.within ((State.Within.refl t [.protection, .log, .ports]
    none).elementsTaken (by decide) (by decide) (by decide) (by simp) x) (by decide) (by decide)
  have evaluated : s.LevelsKept (t.evaluateSample f x) :=
    taken.trans ((t.elementsTaken_steady_evaluateSample f x).levelsKept (by simp))
  have updated : s.LevelsKept ((t.evaluateSample f x).updateBaseline f x) := evaluated.within ((State.Within.refl _
    [.protection, .log, .ports] none).updateBaseline (by decide) (by decide) (by decide) (by simp) x) (by decide) (by decide)
  rw [State.takeSample_eq]
  exact (State.LevelsKept.ite evaluated updated).trans ((State.Steady.refl _).windowSample.levelsKept (by simp))

theorem State.LevelsKept.foldl {α : Type} {step : State → α → State}
    (one : ∀ {u : State}, s.LevelsKept u → ∀ x, s.LevelsKept (step u x)) (h : s.LevelsKept t) (l : List α) :
    s.LevelsKept (l.foldl step t) := by
  induction l generalizing t with
  | nil => exact h
  | cons x rest ih => exact ih (one h x)

theorem State.acceptFrame_levelsKept (s : State) (m : Measured) : s.LevelsKept (s.acceptFrame m) := by
  have cleared : s.LevelsKept (s.frameCleared m) := .ite ((State.LevelsKept.refl s).same rfl rfl) (.refl s)
  have sampled : s.LevelsKept (s.frameSampled m) := State.LevelsKept.foldl (fun k x => k.takeSample _ x) cleared _
  have held : s.LevelsKept (s.frameHeld m) := sampled.same rfl rfl
  exact held.within (s.acceptFrame_within m) (by decide) (by decide)

theorem State.measurementTransfer_levelsKept (s : State) (l : List Byte) : s.LevelsKept (s.measurementTransfer l) := by
  unfold State.measurementTransfer
  split
  · exact .ite (.refl s) (s.acceptFrame_levelsKept _)
  · exact .refl s

theorem State.watchdogEnd_levelsKept (s : State) (f : Feeder) : s.LevelsKept (s.watchdogEnd f) := by
  unfold State.watchdogEnd
  refine State.LevelsKept.trans ?_ ((State.Steady.refl _).huntMeasurementLost.levelsKept (by simp))
  exact (State.LevelsKept.refl s).same (by simp) (by simp)

/-! ### Completions of the store (R178, R179) -/

theorem State.LevelsKept.append (h : s.LevelsKept t) (x : Option Feeder) (b : RecordSource) (d : Details) :
    s.LevelsKept (t.append x b d) := h.same (by simp) (by simp)

theorem State.LevelsKept.causedBy {op : State → State} (h : s.LevelsKept (op t)) (p : Port) : s.LevelsKept (t.causedBy p op) :=
  h.same rfl rfl

theorem State.LevelMoves.causedBy {op : State → State} (h : s.LevelMoves (op t)) (p : Port) : s.LevelMoves (t.causedBy p op) :=
  h.kept ((State.LevelsKept.refl _).causedBy p)

theorem State.Unsettles.append (h : s.Unsettles f t) (x : Option Feeder) (b : RecordSource) (d : Details) :
    s.Unsettles f (t.append x b d) := by
  refine ⟨by simpa using h.requests, ?_, ?_, by simpa using h.entries⟩
  · simpa [State.effective] using h.effective
  · simpa [State.computeEffective, State.findSite] using h.others

/-- A new group of one feeder unsettles that feeder alone. -/
theorem State.Unsettles.setGroups (s : State) (f : Feeder) (w : GroupPair) :
    s.Unsettles f (s.setFire { s.fire with groups := feederSet s.fire.groups f w }) := by
  refine ⟨rfl, fun _ => rfl, fun g other => ?_, rfl⟩
  simp [State.computeEffective, State.findSite, feederGet_set, other]

/-- A new exposure class of one feeder unsettles that feeder alone. -/
theorem State.Unsettles.setExposure (s : State) (f : Feeder) (e : Exposure) :
    s.Unsettles f (s.setFire { s.fire with exposure := feederSet s.fire.exposure f e }) := by
  refine ⟨rfl, fun _ => rfl, fun g other => ?_, rfl⟩
  simp [State.computeEffective, State.findSite, feederGet_set, other]

/-- The owner's part in the completion of a write. -/
theorem State.portWriteDone_levelMoves (s : State) (p : Port) (w : PortWrite) : s.LevelMoves (s.portWriteDone p w) := by
  have all : ∀ {t : State} (x : Option Feeder) (d : Details) (c : FireCause), t.holds = s.holds →
      s.LevelMoves (((t.append x (.port p) d).recomputeAll c).reply p .accepted) := fun x d c holds =>
    ((State.LevelMoves.refl s).recomputeAll (by simpa using holds) c).kept ((State.LevelsKept.refl _).reply p _)
  have one : ∀ {t : State} {f : Feeder} (d : Details) (c : FireCause), s.Unsettles f t →
      s.LevelMoves (((t.append (some f) (.port p) d).recomputeOne f c).reply p .accepted) := fun d c h =>
    ((State.LevelMoves.refl s).move (State.LevelMove.one _ (h.append _ _ _) c)).kept ((State.LevelsKept.refl _).reply p _)
  cases w with
  | curve n c => exact all _ _ _ rfl
  | group f l g => exact one _ _ (State.Unsettles.setGroups s f _)
  | fireBlock start values => exact all _ _ _ rfl
  | restoreTable => exact all _ _ _ rfl
  | exposure f e => exact one _ _ (State.Unsettles.setExposure s f e)
  | corridor f c =>
    have written : s.LevelsKept (s.setHoldTable f { s.holdTable f with corridor := c }) :=
      ((State.Steady.refl s).setHoldTable _).levelsKept (s.setHoldTable_fireCounts f rfl)
    exact ((written.append _ _ _).reply p _).moves
  | unitList f l => exact (((State.LevelsKept.refl s).append _ _ _).reply p _).moves
  | huntBlocks first l => exact (((State.LevelsKept.refl s).append _ _ _).reply p _).moves
  | repair =>
    refine (s.repaired_steady.levelsKept ?_).moves
    rw [State.repaired_eq, State.reply_holds, fireCounts_foldl _ (by simp), State.mended, State.setFlag_holds,
      State.append_holds, State.setStore_holds]

@[simp] theorem State.countFixed_holds (s : State) : s.countFixed.holds = s.holds := by
  unfold State.countFixed
  split <;> rfl

@[simp] theorem State.dropFixed_holds (s : State) : s.dropFixed.holds = s.holds := by
  unfold State.dropFixed
  split <;> rfl

@[simp] theorem State.jobFailed_fireCounts (s : State) (e : StoreEntry) :
    fireCounts (s.jobFailed e).holds = fireCounts s.holds := by
  obtain ⟨p, st, answered⟩ | ⟨o, dropped⟩ := s.jobFailed_cases e
  · rw [answered, State.reply_holds]
  · rw [dropped, State.setPendingMark_fireCounts]

theorem State.writeDone_levelMoves (s : State) (e : StoreEntry) : s.LevelMoves (s.writeDone e) := by
  have written : s.LevelsKept (s.setImage (s.writeRecords e.job e.job.records.length)) :=
    (State.LevelsKept.refl s).same (State.setImage_fire _ _) (State.setImage_holds _ _)
  have done : s.LevelMoves ((s.setImage (s.writeRecords e.job e.job.records.length)).jobDone e.job) := by
    unfold State.jobDone
    split
    · exact written.moves.trans ((State.portWriteDone_levelMoves _ _ _).causedBy _)
    · exact written.moves
  exact done.kept ((State.Steady.refl _).dropHead.countFixed.beginHead.levelsKept (by simp [State.dropHead]))

/-- A write that fails leaves the levels, and its image and the entries it drops with them. -/
theorem State.writeFailed_levelsKept (s : State) (e : StoreEntry) (n : Nat) (bad : RecordId) :
    s.LevelsKept (s.writeFailed e n bad) := by
  have image : s.LevelsKept (s.setImage ((s.writeRecords e.job n).spoil bad)) :=
    (State.LevelsKept.refl s).same (State.setImage_fire _ _) (State.setImage_holds _ _)
  refine image.trans (State.Steady.levelsKept (State.Steady.dropFixed (State.Steady.foldl (fun k e => k.jobFailed e)
    (State.Steady.setFlag (State.Steady.append (State.Steady.setStore (.refl _) _ ?_) _ _ _) _) _)) ?_)
  · simp
  · rw [State.writeFailed, State.dropFixed_holds, fireCounts_foldl _ (by simp), State.setFlag_holds, State.append_holds,
      State.setStore_holds]

theorem execStoreWriteCompletion_levelMoves {bad : Option Nat} (h : execStoreWriteCompletion bad s = .next t) :
    s.LevelMoves t := by
  unfold execStoreWriteCompletion at h
  split at h
  · cases h; exact .refl s
  split at h
  · cases h; exact .refl s
  split at h
  · cases h; exact .refl s
  split at h
  · cases h; exact s.writeDone_levelMoves _
  split at h
  · cases h; exact (s.writeFailed_levelsKept _ _ _).moves
  · cases h

end Sys2Proof.Machine
end

section
/-! SUPPORT. Every step as a run of moves of the levels and of the FIRE entries; and the two laws that every step keeps so. -/

namespace Sys2Proof.Machine

variable {s t u : State} {p : Port}

/-! ### Resets and supply (R105, R176, R194) -/

theorem State.powerOn_levelMoves (s : State) (pins : Pins) : s.LevelMoves (s.powerOn pins) := by
  unfold State.powerOn
  refine State.LevelMoves.move (State.LevelsKept.moves ?_) (State.LevelMove.rebuilt pins)
  exact (State.LevelsKept.refl s).same (by simp) (by simp)

theorem State.reinitialise_levelMoves (s : State) (p : Port) (pins : Pins) : s.LevelMoves (s.reinitialise p pins) := by
  unfold State.reinitialise
  refine State.LevelMoves.move (State.LevelsKept.moves ?_) (State.LevelMove.rebuilt pins)
  exact (State.LevelsKept.refl s).same (by simp) (by simp)

theorem State.powerLoss_levelsKept (s : State) (n : Nat) : s.LevelsKept (s.powerLoss n) := by
  have off : s.LevelsKept { s with powered := false } := (State.LevelsKept.refl s).same rfl rfl
  unfold State.powerLoss
  dsimp only
  split
  · exact off
  · exact .ite (off.same (by simp) (by simp)) off

/-! ### Requests by their code (R197) -/

theorem State.LevelsKept.setPort (s : State) (p : Port) (q : PortState) : s.LevelsKept (s.setPort p q) :=
  (State.LevelsKept.refl s).same rfl rfl

/-- A frame of no request is refused at its port. -/
theorem State.LevelMoves.refusedFrame (s : State) (p : Port) (n : Nat) (code : Byte) (m : Bool) (st : Status) :
    s.LevelMoves (s.takeFrame p n code m fun t => t.refuseUnnamed p st) := by
  obtain same | ⟨q, port⟩ | ⟨q, took⟩ := s.takeFrame_cases p n code m fun t => t.refuseUnnamed p st
  · rw [same]; exact .refl s
  · rw [port]; exact (State.LevelsKept.setPort s p q).moves
  · rw [took]; exact ((State.LevelsKept.setPort s p q).trans ((State.LevelsKept.setPort _ p _).reply p st)).moves

theorem State.LevelMoves.readRequest {code : Byte} {granted c : Bool} {fr : Frame} {owner : State → State}
    (owned : ∀ u, s.Answers p c u → s.Answers p c (owner u)) : s.LevelMoves (s.readRequest p code granted fr owner) := by
  have answered := ((State.Answers.refl s p c).readRequest (code := code) (granted := granted) (fr := fr) owned).parts
  exact ((State.LevelsKept.refl s).same (answered .fire (by decide)) (answered .holds (by decide))).moves

theorem State.LevelMoves.controlRequest {code : Byte} {granted : Bool} {fr : Frame} {owner : State → State}
    (owned : ∀ u, State.LevelMoves u (owner u)) : s.LevelMoves (s.controlRequest p code granted fr owner) := by
  obtain same | ⟨q, port⟩ | ⟨q, caused⟩ := s.controlRequest_cases p code granted fr owner
  · rw [same]; exact .refl s
  · rw [port]; exact (State.LevelsKept.setPort s p q).moves
  · rw [caused]; exact (State.LevelsKept.setPort s p q).moves.trans ((owned _).causedBy p)

/-- An owner that leaves the settings and places and removes no FIRE entry. -/
theorem State.LevelMoves.ofSteady {code : Byte} {granted : Bool} {fr : Frame} {owner : State → State}
    (steady : ∀ u, State.Steady u (owner u)) (counts : ∀ u : State, fireCounts (owner u).holds = fireCounts u.holds) :
    s.LevelMoves (s.controlRequest p code granted fr owner) :=
  .controlRequest fun u => ((steady u).levelsKept (counts u)).moves

theorem State.LevelMoves.ofKept {code : Byte} {granted : Bool} {fr : Frame} {owner : State → State}
    (kept : ∀ u, State.LevelsKept u (owner u)) : s.LevelMoves (s.controlRequest p code granted fr owner) :=
  .controlRequest fun u => (kept u).moves

theorem State.frameByCode_levelMoves (s : State) (p : Port) (code : Byte) (fr : Frame) :
    s.LevelMoves (s.frameByCode p code fr) := by
  unfold State.frameByCode
  split
  · exact .ofSteady (ownerSetTime_steady p _) fun u => ownerSetTime_fireCounts u p _
  · exact .readRequest (c := false) fun _ k => k.readFeeder _ _
  · exact .readRequest (c := false) fun _ k => k.readAll _
  · exact .ofKept (ownerWriteCurve_levelsKept p _)
  · exact .readRequest (c := false) fun _ k => k.readFeeder _ _
  · exact .ofSteady (ownerManualOpen_steady p _) fun u => ownerManualOpen_fireCounts u p _
  · exact .ofSteady (ownerManualClose_steady p _) fun u => ownerManualClose_fireCounts u p _
  · exact .readRequest (c := false) fun _ k => k.readFeeder _ _
  · exact .ofSteady (ownerPlaceHold_steady p _) fun u => ownerPlaceHold_fireCounts u p _
  · exact .ofSteady (ownerRemoveHold_steady p _) fun u => ownerRemoveHold_fireCounts u p _
  · exact .ofSteady (ownerPatrolClear_steady p _) fun u => ownerPatrolClear_fireCounts u p _
  · exact .ofKept (ownerWriteCorridor_levelsKept p _)
  · exact .readRequest (c := false) fun _ k => k.readFeeder _ _
  · exact .controlRequest (ownerSetFireRequest_levelMoves p _)
  · exact .controlRequest (ownerWithdrawFireRequest_levelMoves p _)
  · exact .ofKept (ownerWriteExposure_levelsKept p _)
  · exact .ofKept (ownerWriteFireBlock_levelsKept p _)
  · exact .ofKept (ownerRestoreFireTable_levelsKept p _)
  · exact .ofKept (ownerWriteGroup_levelsKept p _)
  · exact .readRequest (c := false) fun _ k => k.readAll _
  · exact .readRequest (c := false) fun _ k => k.readAll _
  · exact .readRequest (c := false) fun _ k => k.readGroup _
  · exact .ofSteady (ownerUnitCommand_steady p _) fun u => ownerUnitCommand_fireCounts u p _
  · exact .ofKept (ownerWriteUnitList_levelsKept p _)
  · exact .ofSteady (ownerClearIsolation_steady p _) fun u => ownerClearIsolation_fireCounts u p _
  · exact .ofSteady (ownerLinebusReset_steady p _) fun u => ownerLinebusReset_fireCounts u p _
  · exact .readRequest (c := false) fun _ k => k.readAll _
  · exact .readRequest (c := false) fun _ k => k.readAll _
  · exact .ofKept (ownerWriteHuntBlocks_levelsKept p _)
  · exact .ofSteady (ownerStartHunt_steady p _) fun u => ownerStartHunt_fireCounts u p _
  · exact .ofSteady (ownerHuntInsert_steady p _) fun u => ownerHuntInsert_fireCounts u p _
  · exact .ofSteady (ownerHuntContinue_steady p _) fun u => ownerHuntContinue_fireCounts u p _
  · exact .ofSteady (ownerHuntStepMode_steady p _) fun u => ownerHuntStepMode_fireCounts u p _
  · exact .ofSteady (ownerHuntAbort_steady p _) fun u => ownerHuntAbort_fireCounts u p _
  · exact .readRequest (c := false) fun _ k => k.readAll _
  · exact .readRequest (c := false) fun _ k => k.readAll _
  · exact .readRequest (c := false) fun _ k => k.readAll _
  · exact .ofSteady (ownerReadLog_steady p _) fun u => ownerReadLog_fireCounts u p _
  · exact .ofSteady (ownerLogSeek_steady p _) fun u => ownerLogSeek_fireCounts u p _
  · exact .ofKept (ownerStoreRepair_levelsKept p _)
  · exact .readRequest (c := false) fun _ k => k.readAll _
  · exact .readRequest (c := true) fun _ k => k.readAttention _
  · exact .readRequest (c := false) fun _ k => k.readAll _
  · exact .ofSteady (ownerSetAttentionMask_steady p _) fun u => ownerSetAttentionMask_fireCounts u p _
  · exact .ofSteady (ownerRestart_steady p _) fun u => ownerRestart_fireCounts u p _
  · exact .refusedFrame _ _ _ _ _ _

theorem State.rawFrame_levelMoves (s : State) (p : Port) (l : List Byte) : s.LevelMoves (s.rawFrame p l) := by
  unfold State.rawFrame
  split
  · exact .refl s
  · split
    · exact s.frameByCode_levelMoves _ _ _
    · exact .refusedFrame _ _ _ _ _ _

/-! ### Every command -/

theorem event_levelMoves {op : State → State} (k : s.LevelMoves (op s)) (h : event s op = .next t) : s.LevelMoves t := by
  obtain rfl | rfl := event_cases h
  · exact k
  · exact .refl _

/-- An event that leaves the settings and places and removes no FIRE entry. -/
theorem event_levelsKept {op : State → State} (k : s.Steady (op s)) (h : event s op = .next t)
    (counts : fireCounts (op s).holds = fireCounts s.holds) : s.LevelMoves t := event_levelMoves (k.levelsKept counts).moves h

theorem exec_request_levelMoves {i : Instr} {fr : Frame} {code : Byte} (frame : requestFrameOf i = some (p, fr))
    (row : requestCode i = some code) (h : exec i s = .next t) : s.LevelMoves t :=
  event_levelMoves (s.frameByCode_levelMoves p code fr) ((exec_request frame row s).symm.trans h)

theorem execRestartReinitialisation_levelMoves {pins : Pins} (h : execRestartReinitialisation pins s = .next t) :
    s.LevelMoves t := by
  refine event_levelMoves ?_ h
  split
  · exact .ite (s.reinitialise_levelMoves _ _) (.refl s)
  · exact .refl s

/-- A command that is no request is an event, or a power-on. -/
theorem exec_levelMoves {i : Instr} (h : exec i s = .next t) : s.LevelMoves t := by
  have same := State.Steady.refl s
  have ran := h
  unfold exec at h
  cases i with
  | powerOn pins => cases h; exact s.powerOn_levelMoves pins
  | restartReinitialisation pins => exact execRestartReinitialisation_levelMoves h
  | portReset p => exact event_levelsKept (same.setPort _ _) h (by simp)
  | portResetRelease p => exact event_levelsKept (same.setPort _ _) h (by simp)
  | keySwitchChange k =>
    have turned : s.LevelsKept { s with key := k } := (State.LevelsKept.refl s).same rfl rfl
    exact event_levelMoves (op := fun s => { s with key := k }) turned.moves h
  | millisecondTick => exact event_levelsKept same.tick h (by simp)
  | measurementFrame bytes => exact event_levelMoves (s.measurementTransfer_levelsKept bytes).moves h
  | frameWatchdogExpiry f => exact event_levelMoves (State.LevelsKept.ite (s.watchdogEnd_levelsKept f) (.refl s)).moves h
  | positionContactChange f c => exact event_levelsKept (same.contactChange c).pollRestart h (by simp)
  | positionFaultTimerExpiry f => exact event_levelsKept (.ite same.positionFault same) h (by simp)
  | pulseTimerExpiry f => exact event_levelsKept (.ite same.pulseEnd.pollRestart same) h (by simp)
  | tripConfirmTimeExpiry f => exact event_levelsKept (.ite same.tripTimeEnd.pollRestart same) h (by simp)
  | closeConfirmTimeExpiry f => exact event_levelsKept (.ite same.closeTimeEnd.pollRestart same) h (by simp)
  | deadTimerExpiry f taken => exact event_levelsKept (same.deadTimer taken) h (by simp)
  | reclaimTimerExpiry f => exact event_levelsKept (.ite (same.setSequencer _) same) h (by simp)
  | holdExpiry f owner tag => exact event_levelsKept (same.holdExpires owner tag.toNat) h (by simp)
  | fireRequestExpiry p => exact event_levelMoves (.ite (s.fireRequestChanged_levelMoves _ _ _) (.refl s)) h
  | storeWriteCompletion bad => exact execStoreWriteCompletion_levelMoves h
  | quietGapEnd => exact event_levelsKept (.ite same.gapEnd same) h (by simp)
  | activeSeen => exact event_levelsKept same.activeSeen h (by simp)
  | lostArbitration => exact event_levelsKept (.ite ((same.mapQueue _).enterBus _ _) same) h (by simp)
  | preambleWon => exact event_levelsKept (.ite ((same.mapQueue _).enterBus _ _) same) h (by simp)
  | checkSent => exact event_levelsKept (.ite (same.enterBus _ _) same) h (by simp)
  | echoMismatch => exact event_levelsKept (.ite (same.setBus _) same) h (by simp)
  | echoFail => exact event_levelsKept (.ite (.ite (same.attemptEnds _) (.ite (same.enterBus _ _) same)) same) h (by simp)
  | reply chars framing => exact event_levelsKept (.ite (same.takeReply _ _) same) h (by simp)
  | replyWindowClose => exact event_levelsKept (.ite (same.attemptEnds _) same) h (by simp)
  | replyIncomplete => exact event_levelsKept (.ite (same.attemptEnds _) same) h (by simp)
  | report chars framing => exact event_levelsKept (.ite (same.hearFrame _ _) same) h (by simp)
  | ackSent => exact event_levelsKept (.ite (same.enterBus _ _) same) h (by simp)
  | heardFrameEnd => exact event_levelsKept (.ite (same.enterBus _ _) same) h (by simp)
  | clampSeen => exact event_levelsKept (.ite same.clampSeen same) h (by simp)
  | clampEnd => exact event_levelsKept (.ite (same.enterBus _ _) same) h (by simp)
  | clampOutEnd => exact event_levelsKept (.ite same.clampOutEnd same) h (by simp)
  | linebusStuck => exact event_levelsKept (.ite same.becomeStuck same) h (by simp)
  | linebusRestored => exact event_levelsKept (.ite same.busRestored same) h (by simp)
  | pauseTimeout => exact event_levelsKept same.pauseEnd h (by simp)
  | requestFrame p bytes => exact event_levelMoves (s.rawFrame_levelMoves p bytes) h
  | responseRead p count => exact event_levelsKept (same.readTransfer p count) h (by simp)
  | powerLoss written => exact event_levelMoves (s.powerLoss_levelsKept written).moves h
  | _ => exact exec_request_levelMoves rfl rfl ran

theorem step_levelMoves (h : step s = .next t) : s.LevelMoves t := by
  unfold step at h
  split at h
  · cases h; exact .refl s
  · next rest _ =>
    have queued : s.LevelsKept (s.withPending rest) := (State.LevelsKept.refl s).same rfl rfl
    exact queued.moves.trans (exec_levelMoves h)

/-! ### The laws -/

/-- Settles O7: every move keeps the site level and the effective settings the computed ones; a recomputation and a start bring
them about. -/
theorem stepKeepsLevelLaw : Obligations.StepKeepsLevelLaw :=
  fun _ _ law ran => (step_levelMoves ran).keeps State.LevelMove.keepsLevelLaw law

/-- Settles O8: the invariant counts the FIRE entries of each list, one where the level's shot limit is 0 and none elsewhere;
the distinct entries of the premise make the count exact. -/
theorem stepKeepsFireLaw : Obligations.StepKeepsFireLaw :=
  fun _ _ holds law ran => ((step_levelMoves ran).keeps State.LevelMove.keepsFireExact (law.exact holds)).fireLaw

end Sys2Proof.Machine
end

section
/-! SUPPORT. An attention flag that is set stays set through what a paused hunt makes of a recomputation (R156, R191): the engine
may run on through its blocks, and each of its operations sets flags alone. -/

namespace Sys2Proof.Machine

variable {t : State} {fl : AttentionFlag} {g : Feeder}

theorem State.flagSet.within (h : t.flagSet fl) {u : State} {l : List Part} {o : Option Feeder} (k : t.Within l o u)
    (ports : .ports ∉ l) : u.flagSet fl := h.congr (k.parts .ports ports)

/-- A record and its flag. -/
theorem State.flagSet.said (h : t.flagSet fl) (x : Option Feeder) (b : RecordSource) (d : Details) (new : AttentionFlag) :
    ((t.append x b d).setFlag new).flagSet fl := (h.append x b d).setFlag new

theorem State.flagSet.ite {u : State} {c : Prop} [Decidable c] (h : t.flagSet fl) (k : u.flagSet fl) :
    (if c then t else u).flagSet fl := by
  split
  · exact h
  · exact k

/-- One of two ways for the hunt engine to go on. -/
theorem State.flagSet.goIte {c : Prop} [Decidable c] {a b : Go} (h : a.1.flagSet fl) (k : b.1.flagSet fl) :
    (if c then a else b).1.flagSet fl := by
  split
  · exact h
  · exact k

/-! ### The end of a hunt and the choice of a block (R162 to R166, R169) -/

theorem State.flagSet.huntAborted (h : t.flagSet fl) : (t.huntAborted g).flagSet fl := by
  unfold State.huntAborted
  split
  · exact (State.huntFinish_flagSet h g _ _).congr (State.causedBy_ports _ _ _)
  · exact State.huntFinish_flagSet h g _ _

theorem State.flagSet.proceed (h : t.flagSet fl) (b : Nat) : (t.proceed b).1.flagSet fl := .goIte h h

theorem State.flagSet.takeDetour (h : t.flagSet fl) (n : Nat) : (t.takeDetour g n).1.flagSet fl :=
  .goIte (State.huntFinish_flagSet (h.setHunt _) g _ _) (State.flagSet.proceed (h.setHunt _) _)

theorem State.flagSet.chooseNext (h : t.flagSet fl) (n : Nat) : (t.chooseNext g n).1.flagSet fl := by
  unfold State.chooseNext
  dsimp only
  split
  · exact h.takeDetour n
  split
  · exact State.flagSet.proceed (h.setHunt _) _
  · exact .goIte (State.huntFinish_flagSet h g _ _) (h.proceed n)

theorem State.flagSet.traceBlock (h : t.flagSet fl) (o : BlockOutcome) (b : Bool) : (t.traceBlock g o b).flagSet fl :=
  .ite (State.flagSet.said (h.setHunt _) _ _ _ _) (h.setHunt _)

theorem State.flagSet.completeBlock (h : t.flagSet fl) (o : BlockOutcome) (b : Bool) : (t.completeBlock g o b).1.flagSet fl :=
  (h.traceBlock o b).chooseNext _

theorem State.flagSet.detourBlock (h : t.flagSet fl) : (t.detourBlock g).1.flagSet fl := by
  have cancelled : (t.cancelWindow g).flagSet fl := h.congr (State.setUnit_ports _ _ _)
  exact State.flagSet.completeBlock (cancelled.setHunt _) _ _

theorem State.flagSet.closePause (h : t.flagSet fl) (r : PauseReason) : (t.closePause g r).flagSet fl :=
  State.flagSet.said (h.setHunt _) _ _ _ _

/-! ### Unit and breaker operations of the engine (R157, R158, R160) -/

theorem State.flagSet.huntOffer (h : t.flagSet fl) (k : UnitCommandKind) : (t.huntOffer g k).1.flagSet fl := by
  have offered : (t.offerHunt g t.currentBlock.unit k).1.flagSet fl :=
    h.within ((State.Within.refl t [.bus] none).offerHunt (by decide) g _ k) (by decide)
  unfold State.huntOffer
  dsimp only
  split
  · exact offered
  · exact offered
  · exact offered

theorem State.flagSet.tellCut (h : t.flagSet fl) (op : CloseOp) : (t.tellCut g op).flagSet fl := by
  have told : ∀ {u : State}, u.flagSet fl → (u.seqCut g op.purpose).flagSet fl := fun k =>
    k.within ((State.Within.refl _ [.sequencers] none).seqCut (by decide) (by simp) _) (by decide)
  unfold State.tellCut
  dsimp only
  split
  · exact told (h.reply _ _)
  · exact told h

theorem State.flagSet.huntTrip (h : t.flagSet fl) : (t.huntTrip g).1.flagSet fl := by
  have asked : (t.tripRequest g { purpose := .hunt, requester := .hunt, cause := none }).1.flagSet fl :=
    h.within ((State.Within.refl t [.breakers] none).tripRequest (by decide) (by simp) _) (by decide)
  unfold State.huntTrip
  dsimp only
  split
  · exact asked.tellCut _
  · exact asked

theorem State.flagSet.huntTripFailed (h : t.flagSet fl) : (t.huntTripFailed g).1.flagSet fl :=
  State.flagSet.within (State.huntFinish_flagSet h g .breakerFailed (.breakerAnswer .breakerFail))
    ((State.Within.refl _ [.sequencers] none).seqBreakerFail (by decide) (by simp)) (by decide)

theorem State.flagSet.huntSecure (h : t.flagSet fl) : (t.huntSecure g).1.flagSet fl := by
  have securing : (t.setHunt { t.hunt with phase := .securing, awaiting := .nothing }).flagSet fl := h.setHunt _
  unfold State.huntSecure
  dsimp only
  split
  · refine .goIte (securing.completeBlock _ _) ?_
    split
    · exact securing.huntOffer _
    · exact State.huntFinish_flagSet (securing.huntOffer _) g _ _
  refine .goIte (securing.completeBlock _ _) ?_
  have tripped := securing.huntTrip (g := g)
  split
  · exact tripped.setHunt _
  · exact tripped.setHunt _
  · exact tripped.setHunt _
  · exact tripped.completeBlock _ _
  · exact tripped.huntTripFailed

theorem State.flagSet.testDecided (h : t.flagSet fl) (b : Bool) : (t.testDecided g b).1.flagSet fl :=
  .goIte h.huntSecure (h.completeBlock _ _)

/-! ### Observing and acting (R156 to R161, R165) -/

theorem State.flagSet.huntObserve (n : Nat) (h : t.flagSet fl) : (huntObserve g n t).1.flagSet fl := by
  induction n generalizing t with
  | zero => exact h.testDecided _
  | succ n ih =>
    have counted : (t.countWindow 0).flagSet fl := h.setHunt _
    exact .goIte (.goIte (counted.testDecided _) (ih counted)) (h.congr (by simp [State.openWindow]))

theorem State.flagSet.actionEnded (h : t.flagSet fl) (o : BlockOutcome) : (t.actionEnded g o).1.flagSet fl :=
  .goIte (State.flagSet.detourBlock (h.setHunt _)) (State.flagSet.huntObserve _ (h.setHunt _))

theorem State.flagSet.unitFailed (h : t.flagSet fl) (c : FailCode) : (t.unitFailed g c).1.flagSet fl :=
  .goIte (.goIte (State.flagSet.detourBlock (h.setHunt _)) (State.flagSet.testDecided (h.setHunt _) _))
    (State.huntFinish_flagSet (h.setHunt _) g _ _)

theorem State.flagSet.actUnit (h : t.flagSet fl) (k : UnitCommandKind) : (t.actUnit g k).1.flagSet fl := by
  unfold State.actUnit
  dsimp only
  refine .goIte (h.unitFailed _) ?_
  split
  · exact h.huntOffer _
  · exact (h.huntOffer _).unitFailed _

theorem State.flagSet.actOpenBreaker (h : t.flagSet fl) : (t.actOpenBreaker g).1.flagSet fl := by
  have tripped := h.huntTrip (g := g)
  unfold State.actOpenBreaker
  dsimp only
  split
  · exact tripped.setHunt _
  · exact tripped.setHunt _
  · exact tripped.setHunt _
  · exact tripped.actionEnded _
  · exact tripped.huntTripFailed

theorem State.flagSet.huntRefused (h : t.flagSet fl) (r : CloseRefusal) : (t.huntRefused g r).1.flagSet fl := by
  cases r with
  | notOpen => exact h.actionEnded _
  | barred => exact h.closePause _
  | busy => exact .goIte (h.actionEnded _) (State.huntFinish_flagSet h g _ _)

theorem State.flagSet.huntCloseTaken (h : t.flagSet fl) (c : CloseTaken) : (t.huntCloseTaken g c).1.flagSet fl := by
  obtain same | ⟨_, _, ⟨_, granted⟩ | ⟨r, _, _, ⟨_, refused⟩ | ⟨_, aborted⟩⟩⟩ := t.huntCloseTaken_cases g c
  · rw [same]; exact h
  · rw [granted]; exact h.setHunt _
  · rw [refused]; exact h.huntRefused r
  · rw [aborted]; exact h.huntAborted

theorem State.flagSet.takeHuntClose (h : t.flagSet fl) : (t.takeHuntClose g).1.flagSet fl := by
  have taken : t.Within [.breakers] none (t.setBreaker g { t.breaker g with huntAsk := false }) :=
    (State.Within.refl t _ _).setBreaker (by decide) (by simp) _
  exact (h.within (taken.closeRequest (by decide) (by simp) .hunt .hunt) (by decide)).huntCloseTaken _

theorem State.flagSet.actCloseBreaker (h : t.flagSet fl) : (t.actCloseBreaker g).1.flagSet fl := by
  have sent : (t.sendHuntClose g).flagSet fl := h.congr (by simp [State.sendHuntClose])
  exact .goIte (h.actionEnded _) (.goIte sent.takeHuntClose sent)

theorem State.flagSet.actClose (h : t.flagSet fl) : (t.actClose g).1.flagSet fl := by
  unfold State.actClose
  split
  · exact h.actUnit _
  · exact h.actUnit _
  · exact h.actCloseBreaker

theorem State.flagSet.requestRetention (h : t.flagSet fl) (o : RetentionOwner) : (t.requestRetention o).flagSet fl :=
  h.congr (t.requestRetention_ports o)

theorem State.flagSet.setIsolated (h : t.flagSet fl) (a : Nat) (v : Bool) : (t.setIsolated a v).flagSet fl := by
  have updated : (t.updateUnit a fun r => { r with isolated := v }).flagSet fl := h.congr rfl
  exact .ite h (State.flagSet.requestRetention (updated.setFlag .linebus) _)

theorem State.flagSet.markUnit (h : t.flagSet fl) : (t.markUnit g).flagSet fl := by
  unfold State.markUnit
  dsimp only
  split
  · exact h
  · exact State.flagSet.setIsolated (.ite h (h.setHunt _)) _ _

theorem State.flagSet.huntReturn (h : t.flagSet fl) : (t.huntReturn g).1.flagSet fl := by
  unfold State.huntReturn
  dsimp only
  split
  · exact State.huntFinish_flagSet (h.traceBlock _ _) g _ _
  · exact State.flagSet.chooseNext ((h.traceBlock _ _).setHunt _) _

theorem State.flagSet.beginBlock (h : t.flagSet fl) (b : Nat) : (t.beginBlock g b).1.flagSet fl := by
  have entered : (t.setHunt (t.hunt.enterBlock b)).flagSet fl := h.setHunt _
  unfold State.beginBlock
  dsimp only
  split
  · exact State.huntFinish_flagSet (entered.traceBlock _ _) g _ _
  · exact entered.huntReturn
  · exact entered.markUnit.completeBlock _ _
  · exact entered.huntObserve _
  · exact entered.actUnit _
  · exact entered.actOpenBreaker
  split
  · exact entered.closePause _
  · exact entered.actClose

/-- A chain of blocks carried on within the step budget (R156). -/
theorem State.flagSet.huntRun {go : Go} (h : go.1.flagSet fl) : (State.huntRun go g).flagSet fl := by
  unfold State.huntRun
  generalize stepBudget - go.1.hunt.steps = n
  induction n generalizing go with
  | zero =>
    obtain ⟨t, _ | b⟩ := go
    · exact h
    · exact State.huntFinish_flagSet h g _ _
  | succ n ih =>
    obtain ⟨t, _ | b⟩ := go
    · exact h
    · exact ih (h.beginBlock b)

/-- What a recomputation or a removal tells the engine clears no flag (R156). -/
theorem State.flagSet.huntRecheck (h : t.flagSet fl) : (t.huntRecheck g).flagSet fl := by
  unfold State.huntRecheck
  refine .ite ?_ h
  split
  · exact h.setHunt _
  · exact State.flagSet.huntRun (State.flagSet.actClose (h.setHunt _))

end Sys2Proof.Machine
end

section
/-! SUPPORT. What a recomputation of every feeder leaves beside the levels (R120, R122): the LEVEL flag, the LEVEL_CHANGED records,
the settings pushed to the protection units and the parts it can change. -/

namespace Sys2Proof.Machine

variable {s t u : State} {f g : Feeder} {c : FireCause} {fl : AttentionFlag}

/-! ### The LEVEL flag (R122) -/

theorem State.flagSet.placed (h : t.flagSet fl) {e : Hold} (transient : e.isRetained = false) (other : e.owner ≠ .hunt)
    (r : Bool) (p : Option Port) (a : Option Feeder) : (t.placed g e r p a).flagSet fl := by
  rw [State.placed_transient other transient]
  exact (h.said _ _ _ _).sequencerPlacement g

theorem State.flagSet.reconcileFire (h : t.flagSet fl) (e : Effective) : (t.reconcileFire g e).flagSet fl := by
  refine .ite ?placed ?removed
  case placed =>
    unfold State.placeFire State.placeAutomatic
    exact .ite h (State.flagSet.placed (h.setHoldTable _ _) rfl (by simp [State.automaticHold]) _ _ _)
  case removed =>
    unfold State.removeFire
    split
    · next x found =>
      have owner := owner_of_find found
      have off : (t.takeOffHold g x .fireLevel none).flagSet fl := by
        rw [State.takeOffHold_eq (by simp [owner])]
        exact State.flagSet.said (h.setHoldTable _ _) _ _ _ _
      exact .ite (off.huntRecheck.requestRetention _) off.huntRecheck
    · exact h

theorem State.flagSet.push (h : t.flagSet fl) (old new : Effective) : (t.push g old new).flagSet fl := by
  have put : ∀ x, (t.setUnit g x).flagSet fl := fun x => h.congr (State.setUnit_ports _ _ _)
  exact .ite ((put _).said _ _ _ _) (put _)

theorem State.flagSet.levelChanged (h : t.flagSet fl) (old new : Effective) (c : FireCause) :
    (t.levelChanged g old new c).flagSet fl := .ite h (h.said _ _ _ _)

theorem State.levelChanged_flagSet {old new : Effective} (changed : new.level ≠ old.level) (s : State) (f : Feeder)
    (c : FireCause) : (s.levelChanged f old new c).flagSet .level := by
  rw [State.levelChanged, if_neg changed.symm]
  exact State.flagSet_setFlag _ _

theorem State.flagSet.recomputeFeeder (h : t.flagSet fl) (c : FireCause) (f : Feeder) :
    (State.recomputeFeeder c t f).flagSet fl :=
  (((State.flagSet.levelChanged (h.congr (t := t.setEffective f _) rfl) _ _ _).reconcileFire _).push _ _).huntRecheck

theorem State.recomputeFeeder_flagSet (changed : (s.computeEffective f).level ≠ (s.effective f).level) (c : FireCause) :
    (State.recomputeFeeder c s f).flagSet .level :=
  (((State.levelChanged_flagSet changed _ f c).reconcileFire _).push _ _).huntRecheck

/-! ### One feeder while no hunt is paused (R14, R38, R44, R120, R122) -/

/-- The parts that a recomputation can change while no hunt is paused. -/
def recomputedParts : List Part := [.protection, .sequencers, .holds, .fire, .log, .ports]

/-- The LEVEL_CHANGED record of a feeder's recomputation (R122). -/
def State.levelDetails (s : State) (f : Feeder) (c : FireCause) : Details :=
  .levelChanged (s.effective f).level (s.computeEffective f).level s.fire.site (feederGet s.fire.exposure f)
    (s.effective f).letter (s.computeEffective f).letter c.cause c.port

/-- That record stands in the log of t, with at most n behind it. -/
def State.levelSaid (s : State) (f : Feeder) (c : FireCause) (t : State) (n : Nat) : Prop :=
  ∃ r, t.log.holdsWithin r n ∧ r.feeder = some f ∧ r.stamp = s.stamp ∧ r.source = c.source ∧ r.details = s.levelDetails f c

theorem State.Within.stamp {l : List Part} {o : Option Feeder} (k : s.Within l o t) (clock : .clock ∉ l) : t.stamp = s.stamp := by
  obtain ⟨time, timeSet⟩ := k.parts .clock clock
  rw [State.stamp, State.stamp, time, timeSet]

theorem State.levelSaid.appends {m n : Nat} (h : s.levelSaid f c t n) (k : State.Appends m t u) (room : n + m < logCapacity) :
    s.levelSaid f c u (n + m) := by
  obtain ⟨r, held, shape⟩ := h
  exact ⟨r, k.log r n room held, shape⟩

/-- FIRE is no retained entry: its placement and its removal ask for no write (R92, R104). -/
theorem State.reconcileFire_within (running : s.hunt.state ≠ .paused) (f : Feeder) (e : Effective) :
    s.Within [.sequencers, .holds, .log, .ports] none (s.reconcileFire f e) := by
  unfold State.reconcileFire
  split
  · unfold State.placeFire State.placeAutomatic
    split
    · exact .refl _ _ _
    · rw [State.placeHold, State.placed_transient (by simp [State.automaticHold]) rfl]
      exact ((((State.Within.refl s _ _).setHoldTable (by decide) (by simp) _).append (by decide) (by decide) _ _ _).setFlag
        (by decide) _).sequencerPlacement (by decide) (by decide) (by decide) (by simp)
  · unfold State.removeFire
    split
    · next x found =>
      have owner := owner_of_find found
      rw [State.removeHold_eq (by simp [State.huntIs, running]) (by simp [owner]), State.retainAfter,
        if_neg (by simp [Hold.isRetained, owner, Owner.isMaster])]
      exact (State.Within.refl s _ _).takeOffHold (by decide) (by decide) (by decide) (by simp) _ (by simp [owner]) _ _
    · exact .refl _ _ _

theorem State.push_unit (s : State) (f : Feeder) (old new : Effective) (g : Feeder) :
    (s.push f old new).unit g = if g = f then (s.unit g).pushed old new else s.unit g := by
  have put : (s.push f old new).unit g = (s.setUnit f ((s.unit f).pushed old new)).unit g := by
    unfold State.push
    dsimp only
    split
    · simp [State.unit, State.baselineHigh]
      rfl
    · rfl
  rw [put, State.setUnit_unit]
  split
  · next same => rw [same]
  · rfl

theorem State.levelChanged_said (changed : (s.computeEffective f).level ≠ (s.effective f).level) (c : FireCause) :
    s.levelSaid f c ((s.setEffective f (s.computeEffective f)).levelChanged f (s.effective f) (s.computeEffective f) c) 0 := by
  refine ⟨{ seq := s.log.next, stamp := s.stamp, feeder := some f, source := c.source, details := s.levelDetails f c }, ?_,
    rfl, rfl, rfl, rfl⟩
  rw [State.levelChanged, if_neg changed.symm, State.setFlag_log, State.append_log]
  exact Log.appended_holdsWithin _ _ _ _ _

/-- What the recomputation of one feeder leaves, while no hunt is paused. -/
theorem State.recomputeFeeder_only (running : s.hunt.state ≠ .paused) (c : FireCause) (f : Feeder) :
    s.Within recomputedParts none (State.recomputeFeeder c s f) ∧
      (∀ g, (State.recomputeFeeder c s f).unit g =
        if g = f then (s.unit g).pushed (s.effective g) (s.computeEffective g) else s.unit g) ∧
      ((s.computeEffective f).level ≠ (s.effective f).level → s.levelSaid f c (State.recomputeFeeder c s f) 3) := by
  have put : State.Appends 0 s (s.setEffective f (s.computeEffective f)) := .of_same rfl rfl rfl
  have level := put.trans (State.levelChanged_appends _ f (s.effective f) (s.computeEffective f) c)
  have still := fun paused => running ((congrArg Hunt.state level.hunt).symm.trans paused)
  have held := State.reconcileFire_appends still f (s.computeEffective f)
  have pushed := held.trans (State.push_appends _ f (s.effective f) (s.computeEffective f))
  have said : s.Within recomputedParts none
      ((s.setEffective f (s.computeEffective f)).levelChanged f (s.effective f) (s.computeEffective f) c) :=
    ((State.Within.refl s _ _).setFire (by decide) _).levelChanged (by decide) (by decide) f _ _ c
  have listed := State.reconcileFire_within still f (s.computeEffective f)
  have whole : State.recomputeFeeder c s f = (((s.setEffective f (s.computeEffective f)).levelChanged f (s.effective f)
      (s.computeEffective f) c).reconcileFire f (s.computeEffective f)).push f (s.effective f) (s.computeEffective f) :=
    State.huntRecheck_notPaused (by rw [pushed.hunt]; exact still) f
  rw [whole]
  have units : ((s.setEffective f (s.computeEffective f)).levelChanged f (s.effective f) (s.computeEffective f) c).protection
      = s.protection :=
    ((State.Within.refl (s.setEffective f (s.computeEffective f)) [.log, .ports] none).levelChanged (by decide) (by decide) f _ _
      c).parts .protection (by decide)
  refine ⟨?parts, fun g => ?units, fun changed => ?record⟩
  case parts =>
    exact (said.trans ⟨State.changesOnly_mono listed.parts (by decide), nofun⟩).push (by decide) (by decide) (by decide)
      (by simp) _ _
  case units =>
    rw [State.push_unit, State.unit, listed.parts .protection (by decide), units]
    split
    · next same => subst same; rfl
    · rfl
  case record => exact (State.levelChanged_said changed c).appends pushed (by decide)

/-! ### Every feeder in turn (R120) -/

/-- The feeders of a list were recomputed, and a changed level of theirs has set the LEVEL flag. -/
structure State.RecomputesFlagged (s : State) (l : List Feeder) (t : State) : Prop where
  run : s.Recomputes l t
  flag : ∀ g ∈ l, (s.computeEffective g).level ≠ (s.effective g).level → t.flagSet .level

theorem State.RecomputesFlagged.recomputeFeeder {l : List Feeder} (h : s.RecomputesFlagged l t) (new : f ∉ l) (c : FireCause) :
    s.RecomputesFlagged (l ++ [f]) (State.recomputeFeeder c t f) := by
  refine ⟨h.run.recomputeFeeder c f, fun g mem changed => ?_⟩
  obtain before | here := List.mem_append.1 mem
  · exact (h.flag g before changed).recomputeFeeder c f
  · rw [List.mem_singleton.1 here] at changed
    refine State.recomputeFeeder_flagSet ?_ c
    rwa [h.run.computed, h.run.effective, if_neg new]

theorem State.recomputeAll_eq (s : State) (c : FireCause) :
    s.recomputeAll c = State.recomputeFeeder c (State.recomputeFeeder c (State.recomputeFeeder c (State.recomputeFeeder c
      s.findSite .f1) .f2) .f3) .f4 := by
  rw [State.recomputeAll, allFeeders]
  simp only [List.foldl_cons, List.foldl_nil]

theorem State.findSite_effective (s : State) (f : Feeder) : s.findSite.effective f = s.effective f := rfl

/-- A recomputation of every feeder sets the LEVEL flag for every changed level (R122). -/
theorem State.recomputeAll_flagSet {s : State} {c : FireCause}
    (changed : ((s.recomputeAll c).effective f).level ≠ (s.effective f).level) : (s.recomputeAll c).flagSet .level := by
  have first : s.findSite.RecomputesFlagged [] s.findSite := ⟨.refl _, nofun⟩
  have all : s.findSite.RecomputesFlagged allFeeders (s.recomputeAll c) := by
    rw [State.recomputeAll_eq]
    exact (((first.recomputeFeeder (f := .f1) (by decide) c).recomputeFeeder (f := .f2) (by decide) c).recomputeFeeder
      (f := .f3) (by decide) c).recomputeFeeder (f := .f4) (by decide) c
  have effective := all.run.effective f
  rw [if_pos (mem_allFeeders f)] at effective
  rw [effective, ← s.findSite_effective] at changed
  exact all.flag f (mem_allFeeders f) changed

/-- The feeders of a list were recomputed while no hunt was paused. -/
structure State.RecomputesOnly (s : State) (c : FireCause) (l : List Feeder) (t : State) : Prop where
  run : s.Recomputes l t
  settings : s.Recomputed t
  within : s.Within recomputedParts none t
  appends : State.Appends (4 * l.length) s t
  units : ∀ g, t.unit g = if g ∈ l then (s.unit g).pushed (s.effective g) (s.computeEffective g) else s.unit g
  said : ∀ g ∈ l, (s.computeEffective g).level ≠ (s.effective g).level → s.levelSaid g c t (4 * l.length)

/-- What a feeder's record tells does not rest on the feeders recomputed before it. -/
theorem State.RecomputesOnly.levelSaid {l : List Feeder} {n : Nat} (h : s.RecomputesOnly c l t) (new : f ∉ l)
    (k : t.levelSaid f c u n) : s.levelSaid f c u n := by
  obtain ⟨r, held, feeder, stamp, source, details⟩ := k
  obtain ⟨e, site, m, fire⟩ := h.settings.fire
  refine ⟨r, held, feeder, stamp.trans (h.within.stamp (by decide)), source, details.trans ?_⟩
  have exposure : t.fire.exposure = s.fire.exposure := by rw [fire]
  rw [State.levelDetails, State.levelDetails, h.run.computed, h.run.effective, if_neg new, h.run.site, exposure]

theorem State.RecomputesOnly.recomputeFeeder {l : List Feeder} (h : s.RecomputesOnly c l t)
    (running : s.hunt.state ≠ .paused) (new : f ∉ l) (few : l.length < 4) :
    s.RecomputesOnly c (l ++ [f]) (State.recomputeFeeder c t f) := by
  have still : t.hunt.state ≠ .paused := by rw [h.appends.hunt]; exact running
  obtain ⟨within, units, said⟩ := State.recomputeFeeder_only still c f
  have appends := State.recomputeFeeder_appends still c f
  have longer : 4 * (l ++ [f]).length = 4 * l.length + 4 := by simp; omega
  refine ⟨h.run.recomputeFeeder c f, h.settings.recomputeFeeder c f, h.within.trans within, ?_, fun g => ?_,
    fun g mem changed => ?_⟩
  · rw [longer]
    exact h.appends.trans appends
  · rw [units, h.units, h.run.computed, h.run.effective]
    by_cases here : g = f
    · subst here
      simp [new]
    · simp [here]
  rw [longer]
  obtain before | here := List.mem_append.1 mem
  · exact (h.said g before changed).appends appends (by rw [logCapacity]; omega)
  · rw [List.mem_singleton.1 here] at changed ⊢
    obtain ⟨r, ⟨older, newer, records, behind⟩, shape⟩ := said (by rwa [h.run.computed, h.run.effective, if_neg new])
    exact h.levelSaid new ⟨r, ⟨older, newer, records, by omega⟩, shape⟩

theorem State.recomputeAll_only (running : s.hunt.state ≠ .paused) (c : FireCause) :
    s.findSite.RecomputesOnly c allFeeders (s.recomputeAll c) := by
  have first : s.findSite.RecomputesOnly c [] s.findSite :=
    ⟨.refl _, .refl _, .refl _ _ _, .refl _, fun _ => rfl, nofun⟩
  rw [State.recomputeAll_eq]
  exact (((first.recomputeFeeder (f := .f1) running (by decide) (by decide)).recomputeFeeder (f := .f2) running (by decide)
    (by decide)).recomputeFeeder (f := .f3) running (by decide) (by decide)).recomputeFeeder (f := .f4) running (by decide)
    (by decide)

end Sys2Proof.Machine
end

section
/-! Fire requests set, withdrawn and expired (R109 to R112, R120 to R122). -/

namespace Sys2Proof.Machine

variable {s t u : State} {p : Port} {r : Option FireRequest} {cause : LevelCause} {code : Byte} {fr : Frame}

/-! ### A change of fire request (R120, R126) -/

/-- From s to t a port's slot took a content: the levels, the FIRE entries and the LEVEL flag follow, whatever a hunt makes of
it. -/
structure State.RequestChanged (s : State) (p : Port) (r : Option FireRequest) (t : State) : Prop where
  requests : t.fire.requests = portSet s.fire.requests p r
  levels : t.LevelLaw
  fire : s.HoldLaw → t.FireLaw
  flag : ∀ f, (t.effective f).level ≠ (s.effective f).level → t.flagSet .level

/-- The parts that a change of fire request can change while no hunt is paused. -/
def requestParts : List Part := [.protection, .sequencers, .holds, .fire, .log, .store, .ports]

/-- What a change of fire request leaves beside that, while no hunt is paused. -/
structure State.RequestOnly (s : State) (p : Port) (cause : LevelCause) (t : State) : Prop where
  parts : s.changesOnly requestParts t
  recorded : s.levelsRecorded t cause p
  units : ∀ f, t.unit f = (s.unit f).pushed (s.effective f) (t.effective f)

/-- The cause that a recomputation for a port's fire request names. -/
def requestCause (p : Port) (cause : LevelCause) : FireCause := { cause := some cause, port := some p }

theorem State.fireRequestChanged_eq (s : State) (p : Port) (r : Option FireRequest) (cause : LevelCause) :
    s.fireRequestChanged p r cause =
      ((s.setRequest p r).recomputeAll (requestCause p cause)).requestRetention .fireRequests := rfl

/-- The retention write takes the mark of the fire controller alone. -/
theorem State.requestRetention_levelsKept (s : State) (o : RetentionOwner) : s.LevelsKept (s.requestRetention o) :=
  ((State.Steady.refl s).requestRetention o).levelsKept (by simp)

theorem State.LevelsKept.requests (h : s.LevelsKept t) : t.fire.requests = s.fire.requests := by
  obtain ⟨m, fire⟩ := h.fire
  rw [fire]

theorem State.LevelsKept.site (h : s.LevelsKept t) : t.fire.site = s.fire.site := by
  obtain ⟨m, fire⟩ := h.fire
  rw [fire]

theorem State.fireRequestChanged_changed (s : State) (p : Port) (r : Option FireRequest) (cause : LevelCause) :
    s.RequestChanged p r (s.fireRequestChanged p r cause) := by
  have kept := ((s.setRequest p r).recomputeAll (requestCause p cause)).requestRetention_levelsKept .fireRequests
  have run := (s.setRequest p r).recomputeAll_recomputes (requestCause p cause)
  have slots : (s.setRequest p r).findSite.fire.requests = portSet s.fire.requests p r := rfl
  rw [State.fireRequestChanged_eq]
  refine ⟨(kept.requests.trans run.requests).trans slots, kept.levelLaw (State.recomputeAll_levelLaw _ _), fun law => ?_,
    fun f changed => ?_⟩
  · exact (kept.fireExact (State.recomputeAll_fireExact (s := s.setRequest p r) law.fireCounts_le _)).fireLaw
  · rw [kept.effective] at changed
    exact (State.recomputeAll_flagSet (s := s.setRequest p r) changed).requestRetention _

theorem requestCause_source (p : Port) (cause : LevelCause) :
    (requestCause p cause).source = if cause = .expiry then .block .fireController else .port p := by
  cases cause <;> rfl

/-- A recomputation leaves the store. -/
theorem State.Within.store (k : s.Within recomputedParts none t) : t.store = s.store ∧ t.restart = s.restart :=
  ⟨k.parts .store (by decide), k.parts .restart (by decide)⟩

/-- A slot takes its content, every feeder is recomputed, and the retention write is asked for. -/
theorem State.RecomputesOnly.requestOnly
    (only : (s.setRequest p r).findSite.RecomputesOnly (requestCause p cause) allFeeders t) (law : s.StoreLaw) :
    s.RequestOnly p cause (t.requestRetention .fireRequests) := by
  have kept := t.requestRetention_levelsKept .fireRequests
  obtain ⟨store, restart⟩ := only.within.store
  have lawful : t.StoreLaw := (State.storeLaw_congr (s := s) store restart).2 law
  have written : t.Within [.fire, .store] none (t.requestRetention .fireRequests) :=
    (State.Within.refl t _ _).requestRetention .fireRequests (by decide) (by decide) (by simp [RetentionOwner.fits]) lawful
  have placed : s.Within recomputedParts none (s.setRequest p r).findSite :=
    ((State.Within.refl s _ _).setFire (by decide) _).setFire (by decide) _
  have effective : ∀ f, (t.requestRetention .fireRequests).effective f = (s.setRequest p r).findSite.computeEffective f :=
    fun f => by rw [kept.effective, only.run.effective, if_pos (mem_allFeeders f)]
  refine ⟨?parts, fun f changed => ?recorded, fun f => ?units⟩
  case parts =>
    exact State.changesOnly_trans (State.changesOnly_mono (placed.trans only.within).parts (by decide))
      (State.changesOnly_mono written.parts (by decide))
  case recorded =>
    rw [effective] at changed
    obtain ⟨x, held, feeder, stamp, source, details⟩ := only.said f (mem_allFeeders f) changed
    refine ⟨x, ?_, feeder, stamp, source.trans (requestCause_source p cause), details.trans ?_⟩
    · rw [State.requestRetention_log]
      exact held.mem
    · rw [effective, kept.site, only.run.site]
      rfl
  case units =>
    have unit : (t.requestRetention .fireRequests).unit f = t.unit f :=
      congrArg (feederGet · f) (written.parts .protection (by decide))
    rw [unit, only.units, if_pos (mem_allFeeders f), effective]
    rfl

theorem State.fireRequestChanged_only (running : s.hunt.state ≠ .paused) (law : s.StoreLaw) (p : Port)
    (r : Option FireRequest) (cause : LevelCause) : s.RequestOnly p cause (s.fireRequestChanged p r cause) := by
  rw [State.fireRequestChanged_eq]
  exact (State.recomputeAll_only (s := s.setRequest p r) running _).requestOnly law

/-- A change of fire request leaves the requests in flight and the store's fault (R178). -/
theorem State.fireRequestChanged_request (running : s.hunt.state ≠ .paused) (p : Port) (r : Option FireRequest)
    (cause : LevelCause) (q : Port) : (s.port q).sameRequest ((s.fireRequestChanged p r cause).port q) :=
  ((State.recomputeAll_appends (s := s.setRequest p r) running (requestCause p cause)).requests q).trans
    ((State.requestRetention_appends _ .fireRequests).requests q)

theorem State.fireRequestChanged_fault (running : s.hunt.state ≠ .paused) (p : Port) (r : Option FireRequest)
    (cause : LevelCause) : (s.fireRequestChanged p r cause).store.fault = s.store.fault := by
  obtain ⟨store, -⟩ := (State.recomputeAll_only (s := s.setRequest p r) running (requestCause p cause)).within.store
  rw [State.fireRequestChanged_eq, State.requestRetention_fault, store]
  rfl

/-! ### Requests of a port (R109, R110) -/

theorem State.retainedStatus_eq (s : State) (st : Status) :
    s.retainedStatus st = if s.store.fault = none then st else .acceptedVolatile := by
  unfold State.retainedStatus
  cases s.store.fault <;> rfl

/-- The records of a request name its port (R172). -/
theorem State.levelsRecorded.causedBy {op : State → State} (h : s.levelsRecorded (op t) .request p) :
    s.levelsRecorded (t.causedBy p op) .request p := fun f changed => by
  obtain ⟨x, mem, feeder, stamp, source, details⟩ := h f changed
  obtain stands | ascribed := Log.mem_ascribe (p := p) (n := t.log.next) mem
  · exact ⟨x, stands, feeder, stamp, source, details⟩
  · refine ⟨x.causedBy p, ascribed, feeder, stamp, ?_, details⟩
    rw [LogRecord.causedBy, source]
    rfl

/-- An answer, and the request as the cause of what was recorded, leave what the change left. -/
theorem State.RequestChanged.answered {op : State → State} {st : Status} {d : List Byte} (h : s.RequestChanged p r t)
    (owned : op u = t.respond p st d) : s.RequestChanged p r (u.causedBy p op) := by
  have fire : (u.causedBy p op).fire = t.fire := by rw [State.causedBy_fire, owned, State.respond_fire]
  have holds : (u.causedBy p op).holds = t.holds := by rw [State.causedBy_holds, owned, State.respond_holds]
  have kept : t.LevelsKept (u.causedBy p op) := (State.LevelsKept.refl t).same fire holds
  refine ⟨by rw [fire]; exact h.requests, kept.levelLaw h.levels, fun law f => ?_, fun f changed => ?_⟩
  · rw [State.holdTable, holds, kept.effective]
    exact h.fire law f
  · rw [kept.effective] at changed
    refine ((h.flag f changed).respond p st d).congr ?_
    rw [State.causedBy_ports, owned]

theorem State.RequestOnly.answered {op : State → State} {st : Status} {d : List Byte} (h : s.RequestOnly p .request t)
    (owned : op u = t.respond p st d) : s.RequestOnly p .request (u.causedBy p op) := by
  have answered : t.Within [.log, .ports] none (u.causedBy p op) := by
    refine State.Within.causedBy (by decide) p op ?_
    rw [owned]
    exact (State.Within.refl t _ _).respond (by decide) p st d
  have fire : (u.causedBy p op).fire = t.fire := answered.parts .fire (by decide)
  have units : (u.causedBy p op).protection = t.protection := answered.parts .protection (by decide)
  have recorded : s.levelsRecorded (op u) .request p := by
    rw [owned]
    intro f changed
    exact h.recorded f changed
  refine ⟨State.changesOnly_trans h.parts (State.changesOnly_mono answered.parts (by decide)), recorded.causedBy, fun f => ?_⟩
  have effective : (u.causedBy p op).effective f = t.effective f := by rw [State.effective, State.effective, fire]
  rw [effective, State.unit, units]
  exact h.units f

/-- A granted request that changes its port's slot and is answered, maybe with the site level. -/
theorem exec_changesRequest {i : Instr} {owner op : State → State} {st : Status} {d : Level → List Byte}
    (taken : s.controlTaken p code fr) (row : exec i s = event s op) (asked : op s = s.controlRequest p code true fr owner)
    (done : t = (s.controlInFlight p code fr).fireRequestChanged p r .request)
    (owned : owner (s.controlInFlight p code fr) = t.respond p (t.retainedStatus st) (d t.fire.site)) :
    ∃ u, exec i s = .next u ∧ s.RequestChanged p r u ∧
      (s.hunt.state ≠ .paused → s.StoreLaw → s.RequestOnly p .request u ∧
        u.answerAt p = some (if s.store.fault = none then st else .acceptedVolatile, d u.fire.site)) := by
  have changed := (s.controlInFlight p code fr).fireRequestChanged_changed p r .request
  rw [← done] at changed
  obtain ⟨requests, levels, fire, flag⟩ := changed.answered owned
  refine ⟨_, exec_granted taken row asked rfl, ⟨requests, levels, fire, flag⟩, fun running law => ?_⟩
  have only := State.fireRequestChanged_only (s := s.controlInFlight p code fr) running law p r .request
  rw [← done] at only
  obtain ⟨parts, recorded, units⟩ := only.answered owned
  have inFlight : s.changesOnly requestParts (s.controlInFlight p code fr) :=
    ((State.Within.refl s _ none).setPort (by decide) p _).parts
  refine ⟨⟨State.changesOnly_trans inFlight parts, recorded, units⟩, ?_⟩
  obtain ⟨-, -, orphan, -⟩ := taken.1.1
  obtain ⟨slot', orphan', -⟩ := State.fireRequestChanged_request (s := s.controlInFlight p code fr) running p r .request p
  have fault := State.fireRequestChanged_fault (s := s.controlInFlight p code fr) running p r .request
  rw [← done] at slot' orphan' fault
  have said := State.respond_answerAt (s := t) (code := code) (slot'.trans (by simp)) (orphan'.trans (by simpa using orphan))
    (t.retainedStatus st) (d t.fire.site)
  rw [← owned, State.retainedStatus_eq, fault] at said
  have site : ((s.controlInFlight p code fr).causedBy p owner).fire.site = t.fire.site := by
    rw [State.causedBy_fire, owned, State.respond_fire]
  rw [site]
  exact said

/-! ### SET-FIRE-REQUEST, WITHDRAW-FIRE-REQUEST and the expiry (R109 to R111) -/

/-- The data of the answer: 1 for a new request, 2 for one that replaces another, and the site level (log entry 16). -/
def setRequestData (old : Option FireRequest) (site : Level) : List Byte :=
  [if old = none then 1 else 2, BitVec.ofNat 8 site.number]

/-- The content that a request of now gives its slot (R109). -/
def State.newRequest (s : State) (l : Level) (minutes : Nat) : FireRequest :=
  { level := l, expiry := s.expiry minutes, stamp := s.stamp, damaged := false }

theorem State.setFireRequest_eq {l : Level} {minutes : Nat}
    (done : t = s.fireRequestChanged p (some (s.newRequest l minutes)) .request) :
    s.setFireRequest p l minutes =
      t.respond p (t.retainedStatus .accepted) (setRequestData (portGet s.fire.requests p) t.fire.site) := by
  have data : u8 (if (portGet s.fire.requests p).isNone then 1 else 2) ++ u8 t.fire.site.number =
      setRequestData (portGet s.fire.requests p) t.fire.site := by
    cases portGet s.fire.requests p <;> rfl
  rw [← data, done]
  simp only [State.setFireRequest, State.newRequest]

theorem ownerSetFireRequest_named {pl : List Byte} {l : Level} (length : pl.length = 3) (level : levelOf (byteAt pl 0) = some l)
    (named : l ≠ .l0) (due : wordAt pl 1 ≤ 2880) (p : Port) (s : State) :
    ownerSetFireRequest p pl s = s.setFireRequest p l (wordAt pl 1) := by
  rw [ownerSetFireRequest, level]
  exact if_pos ⟨length, named, due⟩

theorem State.withdrawFireRequest_empty (free : portGet s.fire.requests p = none) :
    ownerWithdrawFireRequest p [] s = s.reply p .notFound := by
  simp [ownerWithdrawFireRequest, free]

theorem State.withdrawFireRequest_standing (stands : portGet s.fire.requests p ≠ none) :
    ownerWithdrawFireRequest p [] s =
      (s.fireRequestChanged p none .request).reply p ((s.fireRequestChanged p none .request).retainedStatus .withdrawn) := by
  simp [ownerWithdrawFireRequest, stands]

/-- Settles O45: the three ways to change a slot share the recomputation; a request is answered after it. -/
theorem fireRequestsSetTheLevels : Obligations.FireRequestsSetTheLevels := by
  intro p s powered
  refine ⟨?set, ?withdraw, fun standing => ?early, fun expired => ?expires⟩
  case set =>
    intro l fr r taken length level named due content
    have owned := (ownerSetFireRequest_named length level named due p (s.controlInFlight p 0x0E fr)).trans
      (State.setFireRequest_eq rfl)
    obtain ⟨u, run, ⟨requests, levels, fire, flag⟩, plain⟩ := exec_changesRequest (i := .setFireRequest p fr)
      (d := setRequestData (portGet s.fire.requests p)) taken rfl rfl rfl owned
    subst content
    refine ⟨u, run, requests, levels, fire, flag, fun running law => ?_⟩
    obtain ⟨⟨parts, recorded, units⟩, answer⟩ := plain running law
    exact ⟨parts, recorded, units, answer⟩
  case withdraw =>
    intro fr taken empty
    refine ⟨fun free => ?_, fun stands => ?_⟩
    · exact exec_granted_replies taken rfl rfl rfl
        (by rw [empty]; exact State.withdrawFireRequest_empty (s := s.controlInFlight p 0x0F fr) free)
    · obtain ⟨u, run, ⟨requests, levels, fire, flag⟩, plain⟩ := exec_changesRequest (r := none) (st := .withdrawn)
        (d := fun _ => []) taken (i := .withdrawFireRequest p fr) rfl rfl rfl
        (by rw [empty]; exact State.withdrawFireRequest_standing (s := s.controlInFlight p 0x0F fr) stands)
      refine ⟨u, run, requests, levels, fire, flag, fun running law => ?_⟩
      obtain ⟨⟨parts, recorded, units⟩, answer⟩ := plain running law
      exact ⟨parts, recorded, units, answer⟩
  case early => exact (event_powered s _ powered).trans (by rw [if_neg (by simp [standing])])
  case expires =>
    obtain ⟨requests, levels, fire, flag⟩ := s.fireRequestChanged_changed p none .expiry
    refine ⟨_, (event_powered s _ powered).trans (by rw [if_pos expired]), requests, levels, fire, flag,
      fun running law => ?_⟩
    obtain ⟨parts, recorded, units⟩ := State.fireRequestChanged_only running law p none .expiry
    exact ⟨parts, recorded, units⟩

end Sys2Proof.Machine
end
